-- ==== Sys2Proof/Word.lean ====
section
/-! DEFINITION. The word types of the part's registers and messages, and vectors of units indexed by `Fin`. -/

namespace Sys2Proof

/-- A byte, the smallest addressable unit (00 R7). -/
abbrev Byte := BitVec 8
/-- A 16-bit field. -/
abbrev U16 := BitVec 16
/-- A 32-bit field. -/
abbrev U32 := BitVec 32
/-- A 64-bit field. -/
abbrev U64 := BitVec 64

/-- Unit `i` of a bank of like units. -/
def vget {α : Type} {n : Nat} (v : Vector α n) (i : Fin n) : α := v[i]

/-- The bank with unit `i` changed by `f` and every other unit as it was. -/
def vmod {α : Type} {n : Nat} (v : Vector α n) (i : Fin n) (f : α → α) : Vector α n :=
  v.set i (f v[i])

/-- The bank with unit `i` replaced. -/
def vset {α : Type} {n : Nat} (v : Vector α n) (i : Fin n) (x : α) : Vector α n := v.set i x

/-- The unit that a number names, or none when the number lies beyond the bank. -/
def unit (n : Nat) (x : Nat) : Option (Fin n) := if h : x < n then some ⟨x, h⟩ else none

@[simp] theorem vget_vmod_same {α : Type} {n : Nat} (v : Vector α n) (i : Fin n) (f : α → α) :
    vget (vmod v i f) i = f (vget v i) := by simp [vget, vmod]

@[simp] theorem vget_vset_same {α : Type} {n : Nat} (v : Vector α n) (i : Fin n) (x : α) :
    vget (vset v i x) i = x := by simp [vget, vset]

theorem vget_vmod_ne {α : Type} {n : Nat} (v : Vector α n) (i j : Fin n) (f : α → α) (h : i ≠ j) :
    vget (vmod v i f) j = vget v j := by
  have : (i : Nat) ≠ (j : Nat) := fun e => h (Fin.ext e)
  simp [vget, vmod, this]

theorem vget_vset_ne {α : Type} {n : Nat} (v : Vector α n) (i j : Fin n) (x : α) (h : i ≠ j) :
    vget (vset v i x) j = vget v j := by
  have : (i : Nat) ≠ (j : Nat) := fun e => h (Fin.ext e)
  simp [vget, vset, this]

@[simp] theorem vget_replicate {α : Type} {n : Nat} (x : α) (i : Fin n) :
    vget (Vector.replicate n x) i = x := by simp [vget]

@[simp] theorem vget_ofFn {α : Type} {n : Nat} (f : Fin n → α) (i : Fin n) :
    vget (Vector.ofFn f) i = f i := by simp [vget]

@[simp] theorem vget_map {α β : Type} {n : Nat} (f : α → β) (v : Vector α n) (i : Fin n) :
    vget (v.map f) i = f (vget v i) := by simp [vget]

end Sys2Proof
end

