-- ==== Sys2Proof/Config.lean ====
section
/-! DEFINITION. What an implementation fixes and what the manual leaves open: free values with no body, so that no
proof can lean on one (log entry 1: DESIGN CHOICE), and the constants of the part that several chapters share. -/

namespace Sys2Proof.Config

/-- The free values: one per reading of a value the manual leaves open, drawn with the counter `State.free`
(log entry 1: DESIGN CHOICE). -/
opaque freeValue : Nat → BitVec 64

/-- A pixel of the test patterns 1 colour bars and 2 grey ramp, of which the manual gives no picture (19 R388, log entry 1: DESIGN CHOICE):
red, green, blue. -/
opaque testPixel (pattern width height x y : Nat) : Nat × Nat × Nat

/-- FW_BUILD of DEV_INFO (19 R375): the manual gives the field no value (log entry 1: DESIGN CHOICE). -/
opaque fwBuild : BitVec 32

/-- The error of the on-chip log table, within 1 LSB: 0, 1 or 2 stand for -1, 0, 1; a fixed function of I^2 + Q^2
(05 R96, log entry 1: DESIGN CHOICE). -/
opaque logError : Nat → Fin 3

/-- The error of a mask unit's band power, within 2 LSB: 0 to 4 stand for -2 to 2; a fixed function of the log-power
bins (07 R131, log entry 1: DESIGN CHOICE). -/
opaque bandError : List Int → Fin 5

/-- The fine code of tap `k` of a line read through its fused table, rebuilt for a temperature (15 R298): the manual
gives no formula for the rebuilding (log entry 1: DESIGN CHOICE). -/
opaque tdcTable (taps : List Nat) (coeff : Int) (temp : BitVec 16) (k : Nat) : Fin 512

/-- The per-tap correction of EVT0 and EVT1 as measured at boot (15 R297, log entry 1: DESIGN CHOICE). -/
opaque tdcLoop (line k : Nat) : Int

/-- The DOMAIN that a fault's event names (18 R367): the manual says which domain a state-change event concerns, and
leaves that of a fault open (log entry 1: DESIGN CHOICE). -/
opaque faultDomain (code : Nat) : BitVec 5

/-- The die temperature sensor nearest to an event input (15 R298): the manual does not say which (log entry 1: DESIGN CHOICE). -/
opaque nearestSensor (input : Nat) : Fin 4

/-- The error of a measured edge of a frame-clock output, within 10 ps, 655 standing for 0; a function of the edge (15 R310, log entry
1: DESIGN CHOICE). -/
opaque edgeError (output edge : Nat) : Fin 1311

/-- The weight, out of 2^32, that a filter with a time constant of 16 s gives to a new value after an interval in 2^-16 ns: the
manual does not give its arithmetic (14 R282, log entry 1: DESIGN CHOICE). -/
opaque filterWeight (interval : Nat) : Nat

/-- What the headers of a datagram hold besides the fields of its destination: the MAC address of an Ethernet port, its IPv4
and IPv6 address, the UDP source port, the time to live and the flow label of a destination, and the identification of a
datagram; the manual gives none of them (11 R229, log entry 1: DESIGN CHOICE). -/
opaque ethMac (port : Nat) : Nat
opaque ipv4Own (port : Nat) : Nat
opaque ipv6Own (port : Nat) : Nat
opaque udpSource (dest : Nat) : Nat
opaque hopLimit (dest : Nat) : Nat
opaque flowLabel (dest : Nat) : Nat
opaque ipv4Id (dest dgramSeq : Nat) : Nat

/-- A byte of near memory that a read cannot give: one of a read that failed twice, or of a cell that self-refresh left alone
and nothing has written since (12 R250, R251). The serial number is that of the failure or of the wake-up (log entry 1: DESIGN CHOICE). -/
opaque cellByte (serial address : Nat) : BitVec 8

/-- Firmware release of this manual, major and minor (00 R3). -/
def fwMajor : Nat := 3
def fwMinor : Nat := 2

/-- Stepping B0 (00 R1, 18 R351). -/
def stepping : Nat := 0xB0

/-- One nanosecond in the unit of station time, 2^-16 ns (14 R275). -/
def nsUnits : Nat := 65536
/-- One microsecond in units of 2^-16 ns. -/
def usUnits : Nat := 1000 * nsUnits
/-- One millisecond in units of 2^-16 ns. -/
def msUnits : Nat := 1000 * usUnits
/-- One second in units of 2^-16 ns. -/
def secUnits : Nat := 1000 * msUnits

/-- The all-ones epoch index of items before EPOCH_ORIGIN (03 R43). -/
def noEpoch : Nat := 2 ^ 64 - 1

end Sys2Proof.Config
end

