-- ==== Sys2Proof/Machine/StBase.lean ====
section
/-! DEFINITION. Types shared by the parts of State: flag words with their occurrence counters, sparse byte memories,
owners of semaphores, status codes, records, and the trail of what leaves the part. -/

namespace Sys2Proof.Machine

/-- A W1C flag word of `n` flags with one occurrence counter per flag, 8 bits each (00 R9, R10). -/
structure Flags (n : Nat) where
  now : BitVec n
  occ : Vector Byte n
  deriving DecidableEq, Repr

/-- The flag word and its counters at reset: all 0. -/
def Flags.reset (n : Nat) : Flags n := { now := 0, occ := Vector.replicate n 0 }

/-- A byte memory in canonical form: addresses strictly rising, no listed byte 0; an unlisted byte reads 0
(log entry 2: DESIGN CHOICE). -/
abbrev Memory := List Host.Cell

/-- The host ports: 0 Port A, 1 Port B. -/
abbrev PortId := Fin 2

/-- The owners a semaphore can have (18 R362). -/
inductive Owner where
  | portA | portB | tunnelA | tunnelB
  deriving DecidableEq, Repr, Inhabited

/-- The status codes of a completed slot (19 R372). -/
inductive Status where
  | ok | busyRunning | notOwner | badParam | badAlign | budgetExceeded | planLate | crcFail | notReady | timeout
  | refusedState | stepLate
  deriving DecidableEq, Repr, Inhabited

/-- A record as the formatter builds it, before a path gives it a SEQ (11 R211). `time` is in units of 2^-16 ns. -/
structure Record where
  type   : Nat
  kind   : Nat
  node   : Nat
  stream : Option Nat
  view   : Option Nat
  flags  : U16
  epoch  : Nat
  time   : Nat
  body   : List Byte
  deriving DecidableEq, Repr, Inhabited

/-- The FIRE-class messages (16 R320). -/
inductive FireClass where
  | fire | provisional | confirm | retract
  deriving DecidableEq, Repr, Inhabited

/-- The fields of a FIRE-class message (16 R320). -/
structure FireMsg where
  kind        : FireClass
  time        : Nat
  seq         : Nat
  index       : Nat
  channel     : Nat
  sequencer   : Nat
  anchorValid : Bool
  anchorStream : Nat
  reason      : Nat
  deriving DecidableEq, Repr, Inhabited

/-- The fields that HEARTBEAT and JOIN report of their sender (16 R320). -/
structure NodeReport where
  state     : Nat
  depth     : Nat
  timeValid : Bool
  source    : Nat
  streams   : BitVec 16
  planId    : Nat
  deriving DecidableEq, Repr, Inhabited

/-- The data of a fabric message by type (16 R320); times in 2^-16 ns. A record travels as one message. A tunnel transfer
names the host port of its outer command and the TAG, for which the manual gives no place in the messages (log entry 20: DEDUCED).
`other` is a control block of an unknown type (16 R319). -/
inductive FabBody where
  | heartbeat (time : Nat) (r : NodeReport)
  | epochMark (k : Nat)
  | arm (e mask : Nat) (disarm : Bool) (armSeq : Nat)
  | fire (f : FireMsg)
  | sync (ts : Nat)
  | probe (n : Nat)
  | echo (n : Nat)
  | join (epoch : Nat) (r : NodeReport)
  | joinAck (j armed : Nat) (accept : Bool) (reason : Nat)
  | tunnelCmd (port tag : Nat) (data : List Byte)
  | tunnelRsp (port tag : Nat) (data : List Byte)
  | tunnelData (port tag : Nat) (data : List Byte)
  | recordFrag (seq : U32) (r : Record)
  | other
  deriving DecidableEq, Repr, Inhabited

/-- A fabric message with the header fields that its meaning depends on, and whether its CRC holds (16 R319). WAIT is in
block periods. -/
structure FabricMsg where
  src   : Nat
  dst   : Nat
  mseq  : Nat
  wait  : Nat
  copy  : Bool
  first : Bool
  last  : Bool
  crcOk : Bool
  body  : FabBody
  deriving DecidableEq, Repr, Inhabited

/-- The announced dataset of a grandmaster as the BMCA compares it (14 R279). -/
structure GmData where
  priority1   : Nat
  clockClass  : Nat
  accuracy    : Nat
  variance    : Nat
  priority2   : Nat
  identity    : Nat
  steps       : Nat
  timeTraceable : Bool
  ptpTimescale  : Bool
  utcOffset     : Nat
  utcValid      : Bool
  deriving DecidableEq, Repr, Inhabited

/-- A PTP message that passes between E0 and E1 (14 R289): its type and domain number, its transport (0 Ethernet, 1 UDP over
IPv4, 2 UDP over IPv6), correctionField in 2^-16 ns, the UDP checksum, and the rest, which nothing changes. -/
structure PtpFrame where
  kind       : Nat
  domain     : Nat
  transport  : Nat
  correction : Int
  checksum   : Nat
  body       : List Byte
  deriving DecidableEq, Repr, Inhabited

/-- A Delay_Req that a master-capable port receives (14 R280): the requesting port's identity, its sequenceId and correctionField. -/
structure DelayReqMsg where
  source     : Nat
  seq        : Nat
  correction : Int
  deriving DecidableEq, Repr, Inhabited

/-- An Announce that a port receives (14 R279): the sender's port identity and the dataset it announces. -/
structure AnnounceMsg where
  source : Nat
  gm     : GmData
  deriving DecidableEq, Repr, Inhabited

/-- A PTP message of the device itself (14 R279 to R281): by messageType, with the transport and VLAN of its domain, its
clockIdentity, the timestamp and correctionField it carries, the dataset of an Announce and the port that a Delay_Resp answers. -/
structure PtpSent where
  kind       : Nat
  domain     : Nat
  transport  : Nat
  vlan       : Nat
  source     : Nat
  seq        : Nat
  time       : Nat
  correction : Int
  dataset    : Option GmData
  requester  : Option Nat
  deriving DecidableEq, Repr, Inhabited

/-- A consumer of a hardware event line (13 R272). -/
inductive Consumer where
  | dma (channel : Fin 32)
  | ring (stream : Fin 16)
  | doorbell (archive : Fin 16)
  | vent (vent : Fin 2)
  deriving DecidableEq, Repr

/-- What leaves the part, newest first: the model's own trail of outputs (log entry 3: DESIGN CHOICE). -/
inductive Out where
  | msix (port : PortId) (vector : Nat)
  /-- A datagram of a UDP destination, by its payload, and each Ethernet frame that carries one (11 R229, R230). -/
  | udp (dest : Nat) (ports : Nat) (payload : List Byte)
  | ether (port : Nat) (bytes : List Byte)
  | fabric (lane : Nat) (m : FabricMsg)
  | backChannel (lane : Nat) (words : List Nat)
  | laneMgmt (lane : Nat) (kind : Nat) (value : Nat)
  | ptp (port : Nat) (m : PtpSent)
  | tcForward (port : Nat) (m : PtpFrame)
  | eventLine (line : Nat)
  | hostRead (port : PortId) (value : U64)
  | i2cRead (bytes : List Byte)
  /-- VOUT_COMMAND to the regulator of VDD_CORE, in mV (22 R432). -/
  | voutCommand (mv : Nat)
  | fcoStep (output : Nat) (advance : Bool)
  | nvmeCommand (port sub nv : Nat) (opcode : Nat) (lba count : Nat)
  /-- An NVMe admin command of the firmware, by its opcode (12 R241). -/
  | nvmeAdmin (port sub : Nat) (opcode : Nat)
  | nvmeDoorbell (port sub : Nat) (tail : Nat)
  | bufferFreed (plane : Nat) (address : Nat)
  /-- A frame that an output has sent: width, pixels in raster order, each red, green, blue. -/
  | frame (output width : Nat) (pixels : List (Nat × Nat × Nat))
  deriving DecidableEq, Repr

end Sys2Proof.Machine
end

