-- ==== Sys2Proof/Syntax.lean ====
section
/-! DEFINITION. The commands of the part: one constructor per row of the table of operations and events, with what the
outside world supplies as operands. A row of a mailbox command takes its fields from the slot at the head of the
serial order (18 R358, R359), so it has no operand of its own. -/

namespace Sys2Proof

open Machine (PortId FabricMsg DelayReqMsg AnnounceMsg PtpFrame Consumer)

/-- What a host or the link does to a host port besides register accesses (18 R365). -/
inductive PortReset where
  | linkDown | hotReset | functionLevelReset | perst
  deriving DecidableEq, Repr, Inhabited

/-- What hot plug detect reports (10 R206): low for over 2 ms, a short low pulse with the link's state after it, or the
return with what the retraining reached (rate 0 to 3, lanes 0 when training failed). -/
inductive Hpd where
  | low | pulse (linkOk : Bool) (rate lanes : Nat) | back (rate lanes : Nat)
  deriving DecidableEq, Repr, Inhabited

/-- The end of a boot step (21 R413): done, failed with the two arguments of its fault, or the image read from a
flash slot. -/
inductive StepEnd where
  | done | failed (arg0 arg1 : Nat) | image (bytes : List Byte)
  deriving DecidableEq, Repr, Inhabited

/-- What a fuse operation programs (21 R411). -/
inductive FuseField where
  | rootKey (digest : Nat)
  | planKey (slot : Fin 4) (digest : Nat)
  | sigRequired
  | rollback (bits : Nat)
  | tdc (input : Fin 16) (taps : List Nat) (coeff : Int)
  | sensorTrim (sensor : Fin 4) (trim : Int)
  | evtLatency (input : Fin 16) (ps : Nat)
  | vddCore (mv : Nat)
  deriving DecidableEq, Repr, Inhabited

/-- A write of PCIe configuration space (18 R350, R370): MSI-X message control, or the maximum payload size. -/
inductive ConfigWrite where
  | msixControl (enable mask : Bool)
  | maxPayload (bytes : Nat)
  deriving DecidableEq, Repr, Inhabited

/-- Where a Vent start comes from (17 R342). -/
inductive VentSource where
  | timeStart | line | command
  deriving DecidableEq, Repr, Inhabited

/-- A PTP message that a port instance sends of itself (14 R280). -/
inductive PtpKind where
  | sync | announce | delayReq
  deriving DecidableEq, Repr, Inhabited

/-- The port by which a forwarded PTP message leaves (14 R289): whether its queue is full, and a message of a domain of the device
that is due there in the same ECLK cycle. -/
structure TcWay where
  full : Bool
  own  : Option (Fin 2 × PtpKind)
  deriving DecidableEq, Repr, Inhabited

/-- A downstream port in a new mode, and the sub-links on which PCIe receiver detection finds a device (12 R242). -/
structure DetectedPort where
  port     : Fin 4
  detected : BitVec 4
  deriving DecidableEq, Repr, Inhabited

/-- The device on a CXL link that comes up: whether Memory_Active has appeared, and whether the part supports it (12 R235). -/
structure CxlDevice where
  active    : Bool
  supported : Bool
  deriving DecidableEq, Repr, Inhabited

/-- A part of a fabric link's coming up (16 R317): it fails with cause 1 clock recovery, 2 block lock or 3 no eye, the
partner's HELLO arrives with its partner ID, or its first heartbeat with its node number and depth. -/
inductive LinkPart where
  | failed (cause : Fin 4) | hello (partner : Nat) | heartbeat (node depth : Nat)
  deriving DecidableEq, Repr, Inhabited

/-- The commands. Each constructor names its row, its rule and what its operands are; the rows
without operands stand last. -/
inductive Instr where
  /-- PLAN_LOAD_DONE (R404): End of the image read: header, table and tile CRC checks, then the bank becomes LOADED or EMPTY with the response. -/
  | planLoadDone (image : Option (List Byte))
  /-- STREAM_START_DELIVERY (R379): Delivery begins for an accepted STREAM_START at the next bundle superblock, after HIGH is checked again, and the response is returned. -/
  | streamStartDelivery (stream : Fin 16)
  /-- CAPTURE_READ_DONE (R178): Last tile written to host memory; the response with the BAD_CRC count is returned. -/
  | captureReadDone (stream : Fin 16)
  /-- DISPLAY_EDID (R208): Command that returns the first 256 bytes of the sink's EDID. -/
  | displayEdid (edid : List Byte)
  /-- TUNNEL_TIMEOUT (R334): No inner response arrives within TUNNEL_TIMEOUT, and FABRIC_TUNNEL returns TIMEOUT. -/
  | tunnelTimeout (tag : Nat)
  /-- PORT_MODE_DONE (R242): Every awaited link has trained or 100 ms have passed, and the PORT_MODE response is returned. -/
  | portModeDone (port : DetectedPort)
  /-- DMA_PAUSED (R268): Every issued beat is written; the channel becomes PAUSED and DMA_PAUSE returns. -/
  | dmaPaused (channel : Fin 32)
  /-- DMA_STOPPED (R273): Every issued beat is written; the channel becomes STOPPED and DMA_STOP returns. -/
  | dmaStopped (channel : Fin 32)
  /-- DOORBELL (R356): Write to DOORBELL that posts a mailbox slot into the serial order. -/
  | doorbell (port : PortId) (value : U32) (other : Option U32) (again : Bool)
  /-- SLOT_WRITE (R357): Host write to a mailbox slot, ignored while the slot is POSTED or EXECUTING. -/
  | slotWrite (port : PortId) (offset : Nat) (wide : Bool) (value : U64)
  /-- SEM_READ (R362): Read of a semaphore register that acquires it if free. -/
  | semRead (port : PortId) (sem : Fin 64) (wide : Bool) (other : BitVec 2) (again : Bool)
  /-- SEM_WRITE (R362): Write to a semaphore register that releases it if written by the owner. -/
  | semWrite (port : PortId) (sem : Fin 64) (wide : Bool)
  /-- CONSUMED_WRITE (R353): Write to a ring's CONSUMED register reporting slots passed. -/
  | consumedWrite (port : PortId) (ring : Fin 16) (value : U32)
  /-- EV_TAIL_WRITE (R368): Write to EV_TAIL reporting event entries read. -/
  | evTailWrite (port : PortId) (value : U32)
  /-- HOST_OCC_READ (R354): Read-clear of the HOST_OCC or HOST_OCC2 occurrence counters. -/
  | hostOccRead (port : PortId) (second : Bool)
  /-- EV_LOST_READ (R368): Read-clear of EV_LOST. -/
  | evLostRead (port : PortId)
  /-- MSIX_TABLE_WRITE (R370): Write to the MSI-X table; unmasking sends a held pending message. -/
  | msixTableWrite (port : PortId) (offset : Nat) (wide : Bool) (value : U64)
  /-- UNMAPPED_ACCESS (R352): Access to an unassigned offset or of illegal width or alignment. -/
  | unmappedAccess (port : PortId) (offset : Nat) (width : Nat) (write : Bool)
  /-- REGISTER_WRITE (R9): Write to a BAR0 register that has no row of its own, such as HOST_FLAGS or EV_IRQ_HOLDOFF. -/
  | registerWrite (port : PortId) (offset : Nat) (wide : Bool) (value : U64)
  /-- I2C_TRANSACTION (R431): Management target read or write over I2C. -/
  | i2cTransaction (address : Nat) (offset : Nat) (write : Bool) (count : Nat)
  /-- EV_IRQ_HOLDOFF_EXPIRY (R370): The vector-0 holdoff ends, and one message announces the entries written meanwhile. -/
  | evIrqHoldoffExpiry (port : PortId)
  /-- LANE_BLOCK (R61): A 66-bit block is received: sync check, descramble, rate-matching deletion, elastic buffer write. -/
  | laneBlock (lane : Fin 32) (header : BitVec 2) (payload : U64)
  /-- SUPERBLOCK_HEADER (R67): A superblock header is taken: framing, count reconstruction, CRC check and mark issue. -/
  | superblockHeader (stream : Fin 16)
  /-- DESKEW_MARKER (R74): A deskew marker is taken and checked against the learned alignment. -/
  | deskewMarker (lane : Fin 32)
  /-- LINK_MANAGEMENT (R77): A link-management message (HELLO, pre-emphasis request, resync complete) is taken. -/
  | linkManagement (lane : Fin 32)
  /-- STATUS_BLOCK_SEND (R78): Every 256 blocks the back-channel sends a status block with state as of its cut-off. -/
  | statusBlockSend (lane : Fin 32)
  /-- LINK_UP_START (R75): The firmware powers a bundle's receivers and starts link-up, initially or 1 ms after a failure. -/
  | linkUpStart (stream : Fin 16)
  /-- LINK_UP_STEP_FAIL (R75): A link-up step exceeds its limit and the bundle fails with a FAIL_CAUSE. -/
  | linkUpStepFail (stream : Fin 16) (lane : Fin 32) (cause : Nat)
  /-- EYE_SWEEP_DONE (R441): The AUTO eye-scan sweep ends and the chosen peaking is applied. -/
  | eyeSweepDone (lane : Fin 46) (eyes : Vector (BitVec 32) 19)
  /-- BUNDLE_SUPERBLOCK_DELIVER (R13): The stream assembler delivers a bundle superblock's samples with their indices to every consumer. -/
  | bundleSuperblockDeliver (stream : Fin 16)
  /-- TRANSFORM_DISPATCH (R85): A ready transform is dispatched to a free pipeline in readiness order. -/
  | transformDispatch (pipe : Fin 96)
  /-- SPECTRUM_COMPLETE (R86): A transform finishes and its spectrum goes to its consumers. -/
  | spectrumComplete (pipe : Fin 96)
  /-- FOUR_STEP_PASS_DONE (R100): A four-step column pass completes and the transposed intermediates are ready for the row pass. -/
  | fourStepPassDone (pipe : Fin 96)
  /-- ZOOM_OUTPUT (R111): A zoom channel emits a decimated, rescaled output sample. -/
  | zoomOutput (channel : Fin 32)
  /-- MASK_EVALUATE (R130): A mask unit decides its slots for one spectrum and emits condition events. -/
  | maskEvaluate (view : Fin 64)
  /-- POOL_ACCUMULATE (R121): Pool accumulates a spectrum's bins, passing old-tag entries to the finisher. -/
  | poolAccumulate (view : Fin 64)
  /-- POOL_SWEEP (R122): The firmware sweeps a view's bins still holding the old tag to close its period. -/
  | poolSweep (view : Fin 64)
  /-- POOL_RECORDS (R128): A closed period's integrated-spectrum and occupancy records are issued. -/
  | poolRecords (view : Fin 64)
  /-- CALDERA_REDUCE (R189): Column reducers form min and max per column and queue increments. -/
  | calderaReduce (view : Fin 64)
  /-- CALDERA_INCREMENT (R190): An increment drains from the queue into its cell, saturating. -/
  | calderaIncrement (plane : Fin 2)
  /-- RENDER_TICK (R192): Core 1 issues a render tick; the sweep decays the plane, sums regions and writes a frame. -/
  | renderTick (plane : Fin 2)
  /-- TICKS_MISSED (R192): A tick that cannot be issued within 20 us is counted and not issued. -/
  | ticksMissed (plane : Fin 2)
  /-- FRAME_BASE_WRITE (R204): A render's base address arrives in SHADOW, possibly late. -/
  | frameBaseWrite (output : Fin 2)
  /-- FRAME_WINDOW_CLOSE (R204): At the last active line SHADOW is copied to LATCH and fetch begins. -/
  | frameWindowClose (output : Fin 2)
  /-- FRAME_START (R204): At frame start LATCH becomes ACTIVE and the old buffer becomes FREE. -/
  | frameStart (output : Fin 2)
  /-- SCANOUT_UNDERRUN (R205): A pixel is due without data; the frame is aborted and black sent. -/
  | scanoutUnderrun (output : Fin 2) (pixel : Nat)
  /-- HPD_CHANGE (R206): HPD low for over 2 ms, a short HPD pulse, or HPD return causes unplug, retrain or restart. -/
  | hpdChange (output : Fin 2) (event : Hpd)
  /-- MODE_CHANGE_DONE (R207): An AT_FRAME_END mode change completes retraining and the raster restarts. -/
  | modeChangeDone (output : Fin 2) (rate : Nat) (lanes : Nat)
  /-- EVENT_RELEASE (R138): An event is released from a reorder queue at its trigger time plus ALIGN_DELAY. -/
  | eventRelease (seqr : Fin 16)
  /-- WAIT (R142): Sequencer WAIT takes released events until its go expression completes or its abort term occurs. -/
  | wait (seqr : Fin 16)
  /-- COUNT (R143): Sequencer COUNT clears or increments a counter and branches at LIMIT. -/
  | count (seqr : Fin 16)
  /-- TIMER (R143): Sequencer TIMER starts or stops a timer based on TT. -/
  | timer (seqr : Fin 16)
  /-- GOTO (R142): Sequencer GOTO branches to a state. -/
  | goto (seqr : Fin 16)
  /-- ARM (R149): Sequencer ARM or DISARM, locally or system-wide from the manager. -/
  | arm (seqr : Fin 16)
  /-- FIRE (R147): Sequencer FIRE: record, freezes, event line, fabric message and local condition, unless held or unarmed. -/
  | fire (seqr : Fin 16)
  /-- HOLDOFF (R144): Sequencer HOLDOFF sets the holdoff after each effective FIRE. -/
  | holdoff (seqr : Fin 16)
  /-- MARK (R142): Sequencer MARK latches TT as the fire time, optionally with a record. -/
  | mark (seqr : Fin 16)
  /-- STOP (R142): Sequencer STOP halts the program. -/
  | stop (seqr : Fin 16)
  /-- TIMER_EXPIRY (R143): A sequencer timer expires and raises condition 337 + n. -/
  | timerExpiry (seqr : Fin 16) (timer : Fin 8)
  /-- VERIFY_CONFIRM (R155): A covering-set member is true; the provisional FIRE is confirmed. -/
  | verifyConfirm (seqr : Fin 16)
  /-- VERIFY_RETRACT (R155): The covering set is complete with no member true; the provisional FIRE is retracted. -/
  | verifyRetract (seqr : Fin 16)
  /-- VERIFY_TIMEOUT (R155): No decision by t_{e+2}; the provisional FIRE is retracted with TIMEOUT. -/
  | verifyTimeout (seqr : Fin 16)
  /-- TILE_COMPLETE (R170): A Basin tile completes and enters the write queue, or the writer stops on a full queue. -/
  | tileComplete (stream : Fin 16)
  /-- TILE_WRITE (R170): A tile leaves the write queue and is issued to its CXL port. -/
  | tileWrite (stream : Fin 16)
  /-- BASIN_WRITER_RESUME (R176): The writer resumes at a boundary whose position holds no held tile, with an overflow record. -/
  | basinWriterResume (stream : Fin 16)
  /-- HEADER_REWRITE (R172): Basin rewrites a tile header and CRC when its holding captures change. -/
  | headerRewrite (stream : Fin 16) (seq : Nat)
  /-- CAPTURE_CLOSE (R173): The writer passes a capture's last grid tile and it becomes CLOSED. -/
  | captureClose (stream : Fin 16) (slot : Fin 64)
  /-- RELEASE_HE_PULSE (R175): A pulse on a ring's RELEASE_HE releases its oldest closed ordinary capture. -/
  | releaseHePulse (stream : Fin 16)
  /-- ENVELOPE_RECORD (R177): An envelope record of 64 intervals is issued after the mark hold. -/
  | envelopeRecord (stream : Fin 16)
  /-- CXL_RESPONSE (R239): A CXL.mem response arrives, possibly poisoned or reporting an error. -/
  | cxlResponse (port : Fin 4) (poison : Option (Fin 64)) (error : Bool)
  /-- CXL_TIMEOUT (R239): A CXL.mem request gets no response within 50 us. -/
  | cxlTimeout (port : Fin 4)
  /-- CXL_LINK_DOWN (R240): A CXL link goes down; writers stop and reads time out. -/
  | cxlLinkDown (port : Fin 4) (sub : Fin 4)
  /-- CXL_LINK_UP (R235): A CXL link comes up and the firmware maps its memory. -/
  | cxlLinkUp (port : Fin 4) (sub : Fin 4) (width : Nat) (rate : Nat) (capacity : Nat) (device : CxlDevice)
  /-- CXL_NOT_ACTIVE (R235): Memory_Active does not appear within 1 s and the link is treated as down. -/
  | cxlNotActive (port : Fin 4) (sub : Fin 4)
  /-- PCIE_DS_LINK_DOWN (R241): A PCIe downstream link goes down and its archive appender stops. -/
  | pcieDsLinkDown (port : Fin 4) (sub : Fin 4)
  /-- DS_PRSNT_CHANGE (R430): DS_PRSNT_N goes high while a link is up and the link is handled as down. -/
  | dsPrsntChange (port : Fin 4) (level : Bool)
  /-- ARCHIVE_APPEND (R180): The appender reserves space and writes a capture's data tiles, then its index tile. -/
  | archiveAppend (archive : Fin 16)
  /-- NVME_COMPLETION (R269): An NVMe command completes, successfully or with error. -/
  | nvmeCompletion (archive : Fin 16) (ok : Bool)
  /-- NVME_DOORBELL (R262): A doorbell-line pulse makes the doorbell writer write the submission-queue tail. -/
  | nvmeDoorbell (archive : Fin 16)
  /-- MOVE (R260): DMA descriptor MOVE between spaces or from the capture queue. -/
  | move (channel : Fin 32)
  /-- MOVE_VERIFY (R259): DMA descriptor MOVE_VERIFY that also checks NEAR and HOST sources as tiles. -/
  | moveVerify (channel : Fin 32)
  /-- WAIT_EVENT (R264): DMA descriptor that consumes a pending pulse or waits for one. -/
  | waitEvent (channel : Fin 32)
  /-- SIGNAL (R265): DMA descriptor that pulses a line after earlier moves complete. -/
  | signal (channel : Fin 32)
  /-- LOOP (R256): DMA descriptor that branches up to ITER times. -/
  | loop (channel : Fin 32)
  /-- DMA_DESC_STOP (R265): DMA descriptor STOP ends the program without a pulse. -/
  | dmaDescStop (channel : Fin 32)
  /-- DMA_BURST (R263): A channel issues a burst when the request and budget allowance permit. -/
  | dmaBurst (channel : Fin 32)
  /-- DMA_MOVE_COMPLETE (R258): A move's last byte reaches its destination completion point. -/
  | dmaMoveComplete (channel : Fin 32)
  /-- WITHDRAWN (R269): A destination withdraws its request after a burst started. -/
  | withdrawn (channel : Fin 32)
  /-- DMA_BEAT_ERROR (R270): A beat is answered with an error; the channel enters ERROR_BEAT or ERROR_TAIL. -/
  | dmaBeatError (channel : Fin 32) (destination : Bool) (beat : Fin 64)
  /-- EVENT_LINE_PULSE (R272): A hardware event line pulse reaches a consumer through its crossing. -/
  | eventLinePulse (line : Fin 128) (consumer : Consumer)
  /-- SPECTRUM_RECORD (R216): A spectrum record is built after the mark hold and handed to its paths. -/
  | spectrumRecord (view : Fin 64)
  /-- RING_ENTRY_WRITE (R226): A record is written as a host ring entry when its slots have been passed, or dropped. -/
  | ringEntryWrite (ring : Fin 16)
  /-- RING_IRQ_HOLDOFF_EXPIRY (R226): A ring's interrupt holdoff ends and one message announces the entries. -/
  | ringIrqHoldoffExpiry (ring : Fin 16)
  /-- UDP_FLUSH_EXPIRY (R230): FLUSH_US after its first record a pending datagram is sent. -/
  | udpFlushExpiry (dest : Fin 8)
  /-- HEARTBEAT (R325): A heartbeat is received, updating the neighbour offset and membership time. -/
  | heartbeat (lane : Fin 12) (msg : FabricMsg)
  /-- EPOCH_MARK (R325): A fabric epoch mark is received and checked against the own index and time. -/
  | epochMark (lane : Fin 12) (msg : FabricMsg)
  /-- FABRIC_ARM (R149): A fabric ARM message applies arming from t_e. -/
  | fabricArm (lane : Fin 12) (msg : FabricMsg)
  /-- FABRIC_FIRE (R150): A fabric FIRE message freezes channel streams and raises condition 288 + c. -/
  | fabricFire (lane : Fin 12) (msg : FabricMsg)
  /-- FIRE_PROVISIONAL (R160): A provisional fabric FIRE starts provisional freezes. -/
  | fireProvisional (lane : Fin 12) (msg : FabricMsg)
  /-- CONFIRM (R160): A fabric CONFIRM makes freezes ordinary and raises the condition. -/
  | confirm (lane : Fin 12) (msg : FabricMsg)
  /-- RETRACT (R160): A fabric RETRACT releases provisional freezes. -/
  | retract (lane : Fin 12) (msg : FabricMsg)
  /-- FABRIC_SYNC (R115): A fabric SYNC message records a SYNC with its t_s. -/
  | fabricSync (lane : Fin 12) (msg : FabricMsg)
  /-- PROBE (R317): A PROBE is received and returned as an ECHO. -/
  | probe (lane : Fin 12) (msg : FabricMsg)
  /-- ECHO (R317): An ECHO is received and its round trip measured. -/
  | echo (lane : Fin 12) (msg : FabricMsg) (roundTrip : Nat)
  /-- FABRIC_LINK_UP (R317): A fabric link exchanges HELLO, measures D and comes UP or is refused. -/
  | fabricLinkUp (lane : Fin 12) (part : LinkPart)
  /-- JOIN (R330): The manager takes a JOIN and accepts or rejects it. -/
  | join (lane : Fin 12) (msg : FabricMsg)
  /-- JOIN_ACK (R330): A worker takes JOIN_ACK and becomes a member at t_j or UNJOINED. -/
  | joinAck (lane : Fin 12) (msg : FabricMsg)
  /-- TUNNEL_CMD (R332): A worker receives a tunnelled command and enters it into its serial order. -/
  | tunnelCmd (lane : Fin 12) (msg : FabricMsg)
  /-- TUNNEL_RSP (R331): The manager receives the inner response and completes FABRIC_TUNNEL. -/
  | tunnelRsp (lane : Fin 12) (msg : FabricMsg)
  /-- TUNNEL_DATA (R333): Tunnel data for a tunnelled PLAN_LOAD or CAPTURE_READ is received. -/
  | tunnelData (lane : Fin 12) (msg : FabricMsg)
  /-- RECORD_FRAG (R231): A record fragment is forwarded up or delivered by the manager with RELAYED. -/
  | recordFrag (lane : Fin 12) (msg : FabricMsg)
  /-- FABRIC_LINK_DOWN (R327): No heartbeat on a link for 16 us; it is down and relinks. -/
  | fabricLinkDown (lane : Fin 12)
  /-- NODE_LOST (R328): The manager hears no heartbeat from node n for 16 us and declares it lost. -/
  | nodeLost (node : Fin 64)
  /-- BOUNDARY_INDEX_WRITE (R46): Core 1 writes the next boundary index of a stream from its fit. -/
  | boundaryIndexWrite (stream : Fin 16)
  /-- FIT_REFRESH (R47): Core 1 refreshes a stream's time-to-sample fit and checks its residual. -/
  | fitRefresh (stream : Fin 16)
  /-- BANK_DRAIN_DONE (R39): The last old-epoch work completes and a DRAINING bank becomes LOADED. -/
  | bankDrainDone (bank : Fin 2)
  /-- PTP_SYNC (R281): A PTP Sync (or Follow_Up) is received and the domain offset computed. -/
  | ptpSync (domain : Fin 2) (seq : Nat) (twoStep : Bool) (origin : Nat) (correction : Int) (rx : Nat)
  /-- FOLLOW_UP (R281): A PTP Follow_Up completes a two-step Sync exchange. -/
  | followUp (domain : Fin 2) (seq : Nat) (origin : Nat) (correction : Int)
  /-- DELAY_RESP (R281): A Delay_Resp is received and the mean path delay computed. -/
  | delayResp (domain : Fin 2) (seq : Nat) (receive : Nat) (correction : Int)
  /-- DELAY_REQ (R280): A Delay_Req is received by a master-capable instance in master state and answered. -/
  | delayReq (domain : Fin 2) (msg : DelayReqMsg) (rx : Nat)
  /-- ANNOUNCE (R281): An Announce is received and the BMCA runs. -/
  | announce (domain : Fin 2) (msg : AnnounceMsg)
  /-- PTP_MESSAGE_SEND (R280): A port instance sends its own Sync, Announce or Delay_Req at its interval. -/
  | ptpMessageSend (domain : Fin 2) (kind : PtpKind)
  /-- ANNOUNCE_TIMEOUT (R281): No Announce for 3 intervals; the domain is lost. -/
  | announceTimeout (domain : Fin 2)
  /-- SYNC_TIMEOUT (R281): No Sync for 3 intervals; the domain stops being OK. -/
  | syncTimeout (domain : Fin 2)
  /-- TC_FORWARD (R289): A PTP message is forwarded between E0 and E1 with residence time added. -/
  | tcForward (port : Fin 2) (msg : PtpFrame) (rx : Nat) (way : TcWay)
  /-- TIME_START_FIRE (R290): A time start fires and starts a Vent sequence or gates FCO outputs. -/
  | timeStartFire (start : Fin 8)
  /-- ETH_LINK_CHANGE (R278): An Ethernet port link or module presence changes. -/
  | ethLinkChange (port : Fin 2) (up : Bool)
  /-- EVT_EDGE (R301): An edge on an event input is accepted into its FIFO or suppressed by hold-off. -/
  | evtEdge (input : Fin 16) (falling : Bool) (taps : Nat)
  /-- STAMP_TAKEN (R294): The stamp engine stamps a queued edge and sends it to Geyser and the record formatter. -/
  | stampTaken (input : Fin 16)
  /-- PAIR_DECIDE (R303): PAIR_WINDOW after a start stamp, the start is paired and an interval or edge record issued. -/
  | pairDecide (input : Fin 16)
  /-- DLL_UNLOCK (R305): DLL_T or DLL_F loses lock. -/
  | dllUnlock (frame : Bool)
  /-- DLL_RELOCK (R311): DLL_T or DLL_F relocks and outputs or calibration restore. -/
  | dllRelock (frame : Bool)
  /-- FCO_PHASE_STEP (R307): A schedule issues one phase step on an output at its rate. -/
  | fcoPhaseStep (output : Fin 8)
  /-- VENT_START (R342): A converter receives a start that begins, latches or loses a sequence. -/
  | ventStart (vent : Fin 2) (source : VentSource)
  /-- VENT_CONVERSION (R339): A conversion completes and its code enters the entry sum. -/
  | ventConversion (vent : Fin 2) (code : Int) (codeB : Int)
  /-- THERMAL_CHECK (R423): Every 1 ms Vent A converts HK0-HK3 and thresholds are judged. -/
  | thermalCheck (sensors : Vector Int 4)
  /-- OVR_RECOVERY_END (R346): The 192 HCLK over-range recovery wait ends. -/
  | ovrRecoveryEnd (vent : Fin 2)
  /-- NEARMEM_MAINTENANCE (R249): Every 16 ms the controller retunes write delay and refresh rate. -/
  | nearmemMaintenance (codes : Vector (Fin 4 × BitVec 8) 16)
  /-- NEARMEM_READ_FAIL (R250): A near-memory read fails its link check and is repeated once. -/
  | nearmemReadFail (port : Nat) (address : U64) (again : Bool)
  /-- PORST_N_RELEASE (R413): PORST_N is released and the boot sequence runs. -/
  | porstNRelease (provEn : Bool) (testMode : Bool) (i2c : BitVec 2)
  /-- BOOT_STEP_DONE (R413): A boot step completes or fails within its time limit. -/
  | bootStepDone (step : Nat) (result : StepEnd)
  /-- FUSE_PROGRAM (R411): A JTAG operation programs fuses while PROV_EN is high. -/
  | fuseProgram (field : FuseField)
  /-- PLL_UNLOCK (R418): A PLL loses lock and its domain clock is gated. -/
  | pllUnlock (pll : Fin 7) (trefAbsent : Bool)
  /-- PLL_RELOCK (R418): A PLL relocks and its domain resumes. -/
  | pllRelock (pll : Fin 7)
  /-- WATCHDOG (R416): A control-core watchdog expires; both cores restart from near memory. -/
  | watchdog (core : Fin 2) (pc : U64)
  /-- WATCHDOG_RESTART_DONE (R416): The firmware restart completes, state is rebuilt from the journal and READY resumes. -/
  | watchdogRestartDone (digestOk : Bool)
  /-- HOST_PORT_RESET (R365): A host port's link goes down or it receives hot reset, FLR or PERST; its semaphores are released. -/
  | hostPortReset (port : PortId) (kind : PortReset)
  /-- HOST_LINK_UP (R350): A host port's PCIe link trains up. -/
  | hostLinkUp (port : PortId)
  /-- ADDRESS_RESOLUTION (R229): An ARP or Neighbor Discovery reply received on E0 or E1 resolves a UDP destination's unicast MAC address, so its records stop being dropped. -/
  | addressResolution (dest : Fin 8) (mac : Nat)
  /-- PCIE_LINK_RETURN (R241): A downstream PCIe-mode link that went down trains up again, so its archive can be attached again and its capture moved. -/
  | pcieLinkReturn (port : Fin 4) (sub : Fin 4) (width : Nat) (rate : Nat) (lbaSize : Nat) (tiles : Nat) (volatileCache : Bool) (supported : Bool)
  /-- DS_PERST_RELEASE (R429): 1 ms after PORT_MODE leaves OFF, DS_PERST_Np is released and the attached devices may begin link training. -/
  | dsPerstRelease (port : Fin 4)
  /-- PCIE_CONFIG_WRITE (R370): A host writes PCIe configuration space of Port A or Port B; clearing the MSI-X function mask sends the messages held pending. -/
  | pcieConfigWrite (port : PortId) (write : ConfigWrite)
  /-- PTP_MESSAGE_IGNORED (R279): A received PTP message outside the supported subset (peer delay, Signaling, Management) is ignored and counted in PTP_IGNORED. -/
  | ptpMessageIgnored (port : Fin 2)
  /-- DEV_INFO (R375): Command that returns identity, version, rollback and active plan ID. -/
  | devInfo
  /-- DEV_RESET (R410): Command that resets one configuration domain's parameters, flags, counters and domain state. -/
  | devReset
  /-- PARAM_GET (R387): Command that reads parameter values or, with DESCRIBE, their attributes. -/
  | paramGet
  /-- PARAM_SET (R387): Command that sets parameters of one domain at their effect points, all or none. -/
  | paramSet
  /-- SEM_ACQUIRE (R366): Command that acquires a semaphore as a read would. -/
  | semAcquire
  /-- SEM_RELEASE (R366): Command that releases a semaphore held by the sender. -/
  | semRelease
  /-- PLAN_LOAD (R404): Command that checks its request, empties the bank and starts reading a plan image from host memory. -/
  | planLoad
  /-- PLAN_VERIFY (R405): Command that checks version, signature, structure and budget sums and copies the on-chip tables. -/
  | planVerify
  /-- PLAN_COMMIT (R40): Command that commits a verified bank to a target boundary or cancels a pending commit. -/
  | planCommit
  /-- PLAN_QUERY (R380): Command that returns the state of both banks and any pending commit. -/
  | planQuery
  /-- STREAM_START (R379): Command that restarts a stream stopped with COUNT_REVERSE under a new high part. -/
  | streamStart
  /-- STREAM_RESYNC (R80): Command that sets RESYNC_REQ on every lane of a stream for 64 status blocks. -/
  | streamResync
  /-- LANE_STATUS (R83): Command that returns lane status, optionally clearing flags and counters. -/
  | laneStatus
  /-- VIEW_STATUS (R105): Command that returns view status, optionally clearing flags and counters. -/
  | viewStatus
  /-- ZOOM_STOP (R113): Command that stops a zoom channel. -/
  | zoomStop
  /-- ZOOM_LOAD (R113): Command that loads NCO and cascade settings into a stopped host-tunable channel. -/
  | zoomLoad
  /-- ZOOM_START (R113): Command that starts a zoom channel and returns s0. -/
  | zoomStart
  /-- ZOOM_SYNC (R115): Command that records a SYNC with station time t_s. -/
  | zoomSync
  /-- ZOOM_STATUS (R117): Command that returns zoom channel status, optionally clearing. -/
  | zoomStatus
  /-- GEYSER_STOP (R151): Command that halts a sequencer after its current instruction. -/
  | geyserStop
  /-- GEYSER_START (R151): Command that starts a sequencer at address 0 with state reset. -/
  | geyserStart
  /-- GEYSER_TRIGGER (R151): Command that raises host trigger condition 305 + n. -/
  | geyserTrigger
  /-- GEYSER_STATUS (R152): Command that returns sequencer status, optionally clearing. -/
  | geyserStatus
  /-- CAPTURE_READ (R178): Command that starts writing a capture's tiles to host memory, paced to HOST_READ_RATE. -/
  | captureRead
  /-- CAPTURE_RELEASE (R184): Command that releases a closed capture. -/
  | captureRelease
  /-- BASIN_RECOVER (R183): Command that starts background recovery of the rings of a verified bank. -/
  | basinRecover
  /-- RECOVER_DONE (R183): Ring recovery completes and reports captures and tiles recovered and lost. -/
  | recoverDone
  /-- BASIN_STATUS (R185): Command that returns Basin stream status, optionally clearing. -/
  | basinStatus
  /-- ARCHIVE_FORMAT (R179): Command that formats an NVMe namespace as an archive volume. -/
  | archiveFormat
  /-- ARCHIVE_ATTACH (R182): Command that attaches an archive and finds the end of its log. -/
  | archiveAttach
  /-- ARCHIVE_DETACH (R184): Command that detaches an archive after writing a checkpoint. -/
  | archiveDetach
  /-- DISPLAY_MODE (R208): Command that sets a display timing mode, at once or at frame end. -/
  | displayMode
  /-- DISPLAY_START (R208): Command that starts an output's raster at line 0. -/
  | displayStart
  /-- DISPLAY_STOP (R208): Command that stops a raster at the end of the running frame. -/
  | displayStop
  /-- CALDERA_CLEAR (R208): Command that makes a plane's next sweep write 0. -/
  | calderaClear
  /-- CALDERA_STATUS (R209): Command that returns plane status, optionally clearing. -/
  | calderaStatus
  /-- DISPLAY_STATUS (R210): Command that returns output status, optionally clearing. -/
  | displayStatus
  /-- RING_SETUP (R228): Command that sets up a host record ring. -/
  | ringSetup
  /-- RING_TEARDOWN (R228): Command that tears down a host record ring after the entry in progress. -/
  | ringTeardown
  /-- UDP_DEST_SET (R229): Command that configures, enables or disables a UDP destination. -/
  | udpDestSet
  /-- PTP_CONFIG (R292): Command that configures a PTP domain and restarts it in LISTENING. -/
  | ptpConfig
  /-- TIME_SOURCE (R283): Command that sets the source order, revertive settings or a forced source. -/
  | timeSource
  /-- TIME_SET (R287): Command that steps station time now or at the next PPS edge. -/
  | timeSet
  /-- TIME_START (R290): Command that arms or cancels a time start. -/
  | timeStart
  /-- TC_CONFIG (R289): Command that enables or disables the transparent clock. -/
  | tcConfig
  /-- TIME_STATUS (R293): Command that returns time status, optionally clearing. -/
  | timeStatus
  /-- EVT_CONFIG (R312): Command that configures an event input and its interval pair. -/
  | evtConfig
  /-- EVT_STATUS (R313): Command that returns event input status, optionally clearing. -/
  | evtStatus
  /-- FCO_CONFIG (R306): Command that sets a frame-clock output's divider. -/
  | fcoConfig
  /-- FCO_GATE (R308): Command that gates frame-clock outputs on or off. -/
  | fcoGate
  /-- FCO_STEP (R309): Command that commits or cancels a phase-step schedule for a boundary. -/
  | fcoStep
  /-- FCO_STATUS (R314): Command that returns frame-clock output status, optionally clearing. -/
  | fcoStatus
  /-- FABRIC_CONFIG (R335): Command that sets the fabric role, node number and lane uses. -/
  | fabricConfig
  /-- FABRIC_STATUS (R336): Command that returns fabric device and lane status, optionally clearing. -/
  | fabricStatus
  /-- FABRIC_NODES (R337): Command on the manager that returns per-node membership entries. -/
  | fabricNodes
  /-- FABRIC_TUNNEL (R331): Command on the manager that sends an inner command to a worker through the tunnel. -/
  | fabricTunnel
  /-- HK_CONFIG (R348): Command that sets a converter's sequence, plausibility settings and enable. -/
  | hkConfig
  /-- HK_START (R348): Command that gives a converter a start. -/
  | hkStart
  /-- HK_READ (R348): Command that requests an urgent single-entry conversion. -/
  | hkRead
  /-- HK_STATUS (R349): Command that returns converter status, optionally clearing. -/
  | hkStatus
  /-- PORT_MODE (R242): Command that sets a downstream port mode and awaits link training. -/
  | portMode
  /-- PORT_STATUS (R243): Command that returns downstream port status, optionally clearing. -/
  | portStatus
  /-- NEARMEM_PASR (R242): Command that sets the partial-array self-refresh mask. -/
  | nearmemPasr
  /-- NEARMEM_STATUS (R254): Command that returns near-memory status, optionally clearing. -/
  | nearmemStatus
  /-- DMA_LOAD (R378): Command that loads one part of a HOST-mode DMA program. -/
  | dmaLoad
  /-- DMA_START (R273): Command that checks alignment and starts a DMA channel at descriptor 0. -/
  | dmaStart
  /-- DMA_PAUSE (R268): Command that pauses a DMA channel after its burst drains. -/
  | dmaPause
  /-- DMA_RESUME (R273): Command that resumes a paused DMA channel from its exact registers. -/
  | dmaResume
  /-- DMA_STOP (R273): Command that stops a DMA channel. -/
  | dmaStop
  /-- DMA_STATUS (R274): Command that returns DMA channel status, optionally clearing. -/
  | dmaStatus
  /-- DIAG_COUNTERS (R383): Command that returns and optionally clears a class of diagnostic counters. -/
  | diagCounters
  /-- ZOOM_SYNC_RESTART (R115): At a SYNC's t_s, participating channels restart on the first sample at or after t_s. -/
  | zoomSyncRestart
  /-- TERRACE_SYNC_EDGE (R115): A rising edge on TERRACE_SYNC records a SYNC and may be forwarded on the fabric. -/
  | terraceSyncEdge
  /-- HEARTBEAT_SEND (R322): Every 1 us a node sends its heartbeat on every UP link. -/
  | heartbeatSend
  /-- FABRIC_PROVISIONAL_TIMEOUT (R160): No decision message by t_{e+2}; the node retracts locally. -/
  | fabricProvisionalTimeout
  /-- JOIN_SEND (R330): Every 10 us a joining worker sends JOIN. -/
  | joinSend
  /-- UPLINK_INACTIVE (R327): No parent heartbeat for 4 us; the other uplink becomes active. -/
  | uplinkInactive
  /-- MANAGER_LOST (R327): A worker hears no manager heartbeat for 16 us and becomes an orphan. -/
  | managerLost
  /-- EPOCH_BOUNDARY (R50): Station time reaches t_k: epoch index advances, marks sent, boundaries placed and schedules run. -/
  | epochBoundary
  /-- COMMIT_WINDOW_CLOSE (R41): At t_k minus 1 ms the commit window closes and the flip register locks. -/
  | commitWindowClose
  /-- PLAN_FLIP (R50): After the flip completes at every source, banks are reported ACTIVE and DRAINING and the event posted. -/
  | planFlip
  /-- REVERT_HOLD_EXPIRY (R283): Domain A has been OK for REVERT_HOLD and governs again. -/
  | revertHoldExpiry
  /-- SLEW_END (R284): A slew's residual reaches zero and a time-status record is issued. -/
  | slewEnd
  /-- PPS_EDGE (R286): A PPS_IN rising edge is stamped and accepted, rejected or used to correct phase. -/
  | ppsEdge
  /-- PPS_MISSING (R286): Two consecutive PPS edges are missing and PPS_OK clears. -/
  | ppsMissing
  /-- TIME_RECORD_INTERVAL (R291): The time-status record interval expires and a record is issued. -/
  | timeRecordInterval
  /-- TDC_TABLE_REBUILD (R298): Every 100 ms the free-running TDC tables are rebuilt from temperature. -/
  | tdcTableRebuild
  /-- PORST_N_ASSERT (R408): PORST_N goes low and resets the device. -/
  | porstNAssert
  /-- WRST_N_ASSERT (R409): WRST_N goes low and the device becomes SUSPENDED. -/
  | wrstNAssert
  /-- WRST_N_RELEASE (R409): WRST_N is released and the boot runs again keeping segment 0. -/
  | wrstNRelease
  /-- NEARMEM_LOST (R418): The near-memory PLL stays unlocked over 16 ms and refresh has failed. -/
  | nearmemLost
  /-- ALIVE_TOGGLE (R420): Every 500 us ALIVE toggles if both cores serviced their watchdogs and the state is READY. -/
  | aliveToggle
  /-- HW_THERMAL_TRIP (R423): The analogue comparator trips at 140 C and holds the device as in reset. -/
  | hwThermalTrip
  /-- POWER_UP (R406): The rails rise in group order with PORST_N held low, taking the device from unpowered, with undriven interfaces, to held in reset. -/
  | powerUp
  /-- POWER_DOWN (R407): The rails, including VDD_IO, are removed after PORST_N is low, leaving the device unpowered and clearing the hardware thermal-trip latch. -/
  | powerDown
  deriving DecidableEq, Repr

end Sys2Proof
end

