-- ==== Sys2Proof/Machine/Bits.lean ====
section
/-! DEFINITION. Bytes and byte memories: little-endian values (00 R7), reading and writing a sparse memory in its one
canonical form, station times in the 96-bit format of 14 R275. -/

namespace Sys2Proof.Machine

/-- The `n` low bytes of a number, least significant first (00 R7). -/
def toLe : Nat → Nat → List Byte
  | 0, _ => []
  | n + 1, x => BitVec.ofNat 8 x :: toLe n (x / 256)

/-- The number that bytes spell, least significant first. -/
def ofLe : List Byte → Nat
  | [] => 0
  | b :: t => b.toNat + 256 * ofLe t

/-- A signed number as `n` bytes in two's complement. -/
def toLeInt (n : Nat) (x : Int) : List Byte := toLe n (x % (256 ^ n : Nat)).toNat

/-- The bits [hi:lo] of a number. -/
def bits (hi lo x : Nat) : Nat := x / 2 ^ lo % 2 ^ (hi + 1 - lo)

/-- Bit `i` of a number. -/
def bit (i x : Nat) : Bool := x / 2 ^ i % 2 == 1

/-- A Boolean as a bit at place `i`. -/
def atBit (i : Nat) (b : Bool) : Nat := if b then 2 ^ i else 0

/-- A signed number of `w` bits. -/
def signedOf (w x : Nat) : Int :=
  if x % 2 ^ w < 2 ^ (w - 1) then ((x % 2 ^ w : Nat) : Int) else ((x % 2 ^ w : Nat) : Int) - (2 ^ w : Nat)

/-- Adding to a saturating counter (00 R10). -/
def satAdd {w : Nat} (x : BitVec w) (k : Nat) : BitVec w :=
  if x.toNat + k < 2 ^ w then BitVec.ofNat w (x.toNat + k) else BitVec.allOnes w

/-- Bytes padded with zeros, or cut, to a length. -/
def padTo (n : Nat) (bs : List Byte) : List Byte := (bs ++ List.replicate n 0).take n

/-- Bytes with zeros added up to a multiple of `n`. -/
def padMul (n : Nat) (bs : List Byte) : List Byte :=
  bs ++ List.replicate ((n - bs.length % n) % n) 0

/-- ceil(a / b). -/
def ceilDiv (a b : Nat) : Nat := (a + b - 1) / b

/-- The byte at an address; an unlisted byte reads 0 (log entry 2: DESIGN CHOICE). -/
def memGet : Memory → Nat → Byte
  | [], _ => 0
  | (k, b) :: t, a => if k = a then b else memGet t a

/-- The cells of bytes that stand from an address on: the nonzero ones. -/
def cellsOf : Nat → List Byte → Memory
  | _, [] => []
  | a, b :: t => if b = 0 then cellsOf (a + 1) t else (a, b) :: cellsOf (a + 1) t

/-- Writes bytes from an address on. The canonical form stays: addresses rising, no zero listed. -/
def memWrite (m : Memory) (a : Nat) (bs : List Byte) : Memory :=
  m.filter (fun c => decide (c.1 < a)) ++ cellsOf a bs ++ m.filter (fun c => decide (a + bs.length ≤ c.1))

/-- Expands rising cells from an address on into bytes. -/
def expand : Nat → Nat → Memory → List Byte
  | 0, _, _ => []
  | n + 1, _, [] => List.replicate (n + 1) 0
  | n + 1, a, (k, b) :: t => if k = a then b :: expand n (a + 1) t else 0 :: expand n (a + 1) ((k, b) :: t)

/-- Reads `n` bytes from an address on. -/
def memRead (m : Memory) (a n : Nat) : List Byte := expand n a (m.filter (fun c => decide (a ≤ c.1)))

/-- A little-endian field of a memory. -/
def memLe (m : Memory) (a n : Nat) : Nat := ofLe (memRead m a n)

/-- The canonical form: addresses strictly rising, no listed byte 0 (log entry 2: DESIGN CHOICE). -/
abbrev Memory.wf (m : Memory) : Prop := m.Pairwise (fun c d => c.1 < d.1) ∧ ∀ c ∈ m, c.2 ≠ 0

/-- The 96-bit station time of a time in 2^-16 ns: seconds, nanoseconds, fraction (14 R275). -/
def time96 (t : Nat) : Nat := t / Config.secUnits * 2 ^ 48 + t % Config.secUnits

/-- The time of a 96-bit station time (14 R275). -/
def ofTime96 (x : Nat) : Nat := x / 2 ^ 48 * Config.secUnits + x % 2 ^ 48

/-- Bits [63:0] of a station time (16 R320, 21 R424). -/
def time64 (t : Nat) : Nat := time96 t % 2 ^ 64

/-- The nanosecond field of a station time (18 R369). -/
def timeNs (t : Nat) : Nat := t % Config.secUnits / Config.nsUnits

/-- A 12-byte station time field (19 R371). -/
def timeBytes (t : Nat) : List Byte := toLe 12 (time96 t)

/-- The time of a full station time nearest to a base whose bits [63:0] are given (16 R320). -/
def ofTime64 (base x : Nat) : Nat :=
  let hi := time96 base / 2 ^ 64
  let c := ofTime96 (hi * 2 ^ 64 + x)
  let span := 65536 * Config.secUnits
  if c + span / 2 < base then c + span else if base + span / 2 < c ∧ span ≤ c then c - span else c

end Sys2Proof.Machine
end

