-- ==== Sys2Proof/Machine/Flags.lean ====
section
/-! DEFINITION. Flag words with their occurrence counters (00 R9, R10): setting, clearing, and reading. -/

namespace Sys2Proof.Machine

/-- Sets a flag; its occurrence counter counts every set, saturating at 255 (00 R10). -/
def Flags.raise {n : Nat} (f : Flags n) (i : Fin n) : Flags n :=
  { now := f.now ||| BitVec.ofNat n (2 ^ i.val), occ := vmod f.occ i (fun c => satAdd c 1) }

/-- Writing ones clears the named flags; the counters stay (00 R9). -/
def Flags.clear {n : Nat} (f : Flags n) (mask : Nat) : Flags n :=
  { f with now := f.now &&& ~~~ BitVec.ofNat n mask }

/-- Reading the counters clears them (00 R9, R10). -/
def Flags.clearOcc {n : Nat} (f : Flags n) : Flags n := { f with occ := Vector.replicate n 0 }

/-- A status command's clear: the named flags as W1C, and every counter (19 R377). -/
def Flags.statusClear {n : Nat} (f : Flags n) (mask : Nat) : Flags n := (f.clear mask).clearOcc

/-- Occurrence counters `lo` to `hi - 1`, 8 bits each from bit 0 upward. -/
def Flags.occWord {n : Nat} (f : Flags n) (lo hi : Nat) : Nat := ofLe ((f.occ.toList.drop lo).take (hi - lo))

end Sys2Proof.Machine
end

