-- ==== Sys2Proof/Machine/StPlan.lean ====
section
/-! DEFINITION. Plan images as the engines read them (20 R389 to R403), the two plan banks, the flip register and the
epoch generator (03 R38 to R53). -/

namespace Sys2Proof.Machine

/-- Lane settings of a bundle (20 R395 STREAM_MAP). -/
structure LaneE where
  ctle : Nat
  cm1 : Nat
  cp1 : Nat
  polarity : Bool
  partner : Nat
  deriving DecidableEq, Repr, Inhabited

/-- STREAM_MAP entry. `rate` is coded as in 04 R83; `packed` is FORMAT 1, packed 12-bit (04 R72). -/
structure StreamE where
  run : Bool
  log2Lanes : Nat
  firstLane : Nat
  rate : Nat
  packed : Bool
  declared : Nat
  lanes : List LaneE
  deriving DecidableEq, Repr, Inhabited

/-- VIEWS entry. `formats`: bit 0 complex, bit 1 power, bit 2 log-power. -/
structure ViewE where
  present : Bool
  source : Nat
  log2n : Nat
  symmetric : Bool
  caldera : Nat
  geyser : Bool
  formats : Nat
  calExclude : Nat
  hop : Nat
  binFirst : Nat
  binCount : Nat
  scale : Nat
  windowBase : Nat
  gainRef : Nat
  colmapRef : Nat
  segBins : Nat
  deriving DecidableEq, Repr, Inhabited

/-- TERRACE entry. -/
structure TerraceE where
  present : Bool
  source : Nat
  sections : Nat
  zshift : Nat
  syncEn : Bool
  hostTunable : Bool
  ftw : Nat
  pow : Nat
  zgain : Nat
  d : Nat
  m : List Nat
  deriving DecidableEq, Repr, Inhabited

/-- POOL entry; `skLow`, `skHigh` are binary32 words, `spill` an index into NEAR_ALLOC. -/
structure PoolE where
  present : Bool
  exp : Nat
  period : Nat
  exclude : Nat
  frontBins : Nat
  threshBase : Nat
  skLow : Nat
  skHigh : Nat
  spill : Option Nat
  deriving DecidableEq, Repr, Inhabited

/-- MASK_SLOTS entry. -/
structure MaskE where
  kind : Nat
  edge : Bool
  exclude : Nat
  binLo : Nat
  binHi : Nat
  minBins : Nat
  minRun : Nat
  threshold : Int
  table : Nat
  deriving DecidableEq, Repr, Inhabited

/-- REGIONS entry. -/
structure RegionE where
  present : Bool
  plane : Nat
  colFirst : Nat
  colLast : Nat
  rowFirst : Nat
  rowLast : Nat
  threshold : Nat
  deriving DecidableEq, Repr, Inhabited

/-- GEYSER entry: a sequencer's settings, its state table (address, when VALID) and its instruction words. -/
structure GeyserE where
  present : Bool
  requireArm : Bool
  oneShot : Bool
  armGroups : Nat
  forerunner : Bool
  alignUs : Nat
  instrCount : Nat
  verifyCond : Nat
  provHe : Option Nat
  states : List (Option Nat)
  instrs : List Nat
  deriving DecidableEq, Repr, Inhabited

/-- CALDERA entry. -/
structure CalderaE where
  present : Bool
  decayMode : Nat
  format : Nat
  target : Nat
  rowBase : Int
  decayF : Nat
  rowGain : Nat
  tickN : Nat
  tickM : Nat
  frameW : Nat
  frameH : Nat
  colourRef : Nat
  xMapRef : Nat
  yMapRef : Nat
  bufs : List Nat
  deriving DecidableEq, Repr, Inhabited

/-- BASIN entry. -/
structure BasinE where
  present : Bool
  port : Nat
  envK : Nat
  releaseHe : Option Nat
  credits : Nat
  base : Nat
  ringTiles : Nat
  pre : Nat
  post : Nat
  readRate : Nat
  deriving DecidableEq, Repr, Inhabited

/-- DMA entry: a PLAN-mode program or the budget of a HOST-mode channel; descriptors as 32-byte numbers. -/
structure DmaE where
  present : Bool
  host : Bool
  atFlip : Bool
  provSafe : Bool
  nearBytes : Nat
  cxlBytes : List Nat
  descs : List Nat
  deriving DecidableEq, Repr, Inhabited

/-- The DEVICE entry. -/
structure DeviceE where
  fabricLatencyUs : Nat
  markLine : Option Nat
  ventStart : List (Option Nat)
  ventDone : List (Option Nat)
  readCredits : List Nat
  channelStreams : List Nat
  deriving DecidableEq, Repr, Inhabited

/-- ROUTES entry; `mask` as in 11 R224. -/
structure RouteE where
  type : Nat
  selKind : Nat
  selector : Nat
  relay : Bool
  mask : Nat
  every : Nat
  deriving DecidableEq, Repr, Inhabited

/-- EPOCH_SCHEDULE entry; `pairs` is TARGET 0. -/
structure SchedE where
  pairs : Bool
  cycle : Nat
  base : Nat
  count : Nat
  sourceRef : Nat
  deriving DecidableEq, Repr, Inhabited

/-- NEAR_ALLOC entry. -/
structure AllocE where
  kind : Nat
  owner : Nat
  base : Nat
  bytes : Nat
  deriving DecidableEq, Repr, Inhabited

/-- A section directory entry (20 R392). -/
structure DirE where
  type : Nat
  version : Nat
  required : Bool
  offset : Nat
  bytes : Nat
  entries : Nat
  entryBytes : Nat
  deriving DecidableEq, Repr, Inhabited

/-- A parsed plan image. Sections that the image omits are empty lists; a unit beyond a list is the default entry,
which is absent. -/
structure Plan where
  planId : Nat
  nearEnd : Nat
  dir : List DirE
  streams : List StreamE
  views : List ViewE
  terrace : List TerraceE
  pool : List PoolE
  masks : List MaskE
  regions : List RegionE
  geyser : List GeyserE
  caldera : List CalderaE
  basin : List BasinE
  dma : List DmaE
  device : DeviceE
  routes : List RouteE
  sched : List SchedE
  allocs : List AllocE
  proof : List (Nat × Nat)
  deriving DecidableEq, Repr, Inhabited

/-- The states of a plan bank, in the encoding of PLAN_QUERY (03 R38, 19 R380). -/
inductive BankState where
  | empty | loaded | verified | pending | active | draining
  deriving DecidableEq, Repr, Inhabited

/-- A plan bank: its state, the parsed image, and its own copies of the on-chip tables (20 R397) as byte memories. -/
structure Bank where
  state      : BankState
  loading    : Bool
  gen        : U32
  plan       : Plan
  coeffs     : Memory
  pairs      : Memory
  thresholds : Memory
  tables     : Memory
  /-- Base of FETCH_DATA in near memory. -/
  fetchBase  : Nat
  /-- Epoch at which the bank became ACTIVE (20 R399). -/
  k0         : Nat
  /-- Width and rate of each sub-link of D0-D3 when the bank passed PLAN_VERIFY (12 R240). -/
  links      : List (Nat × Nat)
  deriving DecidableEq, Repr

def Bank.reset : Bank :=
  { state := .empty, loading := false, gen := 0, plan := default, coeffs := [], pairs := [], thresholds := [],
    tables := [], fetchBase := 0, k0 := 0, links := [] }

/-- One epoch at one source: its boundary index, the flags its records carry, and the bank (03 R46, R49). -/
structure EpochRec where
  k            : Nat
  /-- The start is a boundary index, not the first sample that the stream delivered. -/
  placed       : Bool
  start        : Nat
  extrapolated : Bool
  rateMismatch : Bool
  fitDegraded  : Bool
  deriving DecidableEq, Repr, Inhabited

/-- A stream's time-to-sample fit, i(t) = i0 + rate x (t - t0): `i0` in 2^-32 samples, `rate` in 2^-32 samples per
second, `t0` in 2^-16 ns (03 R46). -/
structure Fit where
  i0   : Int
  rate : Nat
  t0   : Nat
  deriving DecidableEq, Repr, Inhabited

/-- A boundary that waits for the first superblock whose header arrives at or after `time` (01 R23), with the flags that
its epoch's records carry, as they stood at the boundary. -/
structure Awaited where
  k            : Nat
  time         : Nat
  rateMismatch : Bool
  fitDegraded  : Bool
  deriving DecidableEq, Repr, Inhabited

/-- A stream's boundary indices, fit and marks (03 R46, R47; 01 R23; 02 R26). -/
structure Boundary where
  /-- The epochs placed so far, newest first. -/
  hist       : List EpochRec
  /-- The boundary indices that the firmware has written ahead, as they stand in the epoch generator: boundary and
  index. -/
  next       : List (Nat × Nat)
  /-- Boundaries without earlier ones that are still to be placed, oldest first. -/
  await      : List Awaited
  /-- The comparison at the last boundary found a difference (02 R26). -/
  rateBad    : Bool
  /-- The fit cannot meet its bound; its records carry FIT_DEGRADED from the next boundary (03 R47). -/
  fitBad     : Bool
  fit        : Option Fit
  /-- Compensated header stamps with their counts, newest first, at most 256. -/
  points     : List (Nat × Nat)
  /-- The flip whose index has not yet arrived at this source: epoch and bank (03 R50 step 5). -/
  flipAt     : Option (Nat × Fin 2)
  deriving DecidableEq, Repr

def Boundary.reset : Boundary :=
  { hist := [], next := [], await := [], rateBad := false, fitBad := false, fit := none, points := [],
    flipAt := none }

/-- Plans and epochs. -/
structure Plans where
  banks      : Vector Bank 2
  gen        : U32
  /-- The flip register: target epoch and bank (03 R41). -/
  flip       : Option (Nat × Fin 2)
  locked     : Bool
  /-- The flips that have taken place, newest first: the epoch and its bank; items of an epoch are processed with
  the bank of the latest flip at or before it (03 R49). -/
  flips      : List (Nat × Fin 2)
  /-- A flip in progress: the new bank and the old one, until PLAN_FLIP reports it (03 R50 step 6). -/
  flipping   : Option (Fin 2 × Option (Fin 2))
  activeSince : Nat
  /-- The current epoch index, none before EPOCH_ORIGIN (03 R43). -/
  epoch      : Option Nat
  /-- The epochs that carry INVALID_CLOCK, newest first (21 R419). -/
  invalid    : List Nat
  bounds     : Vector Boundary 16
  /-- BASIN_RECOVER runs (19 R380). -/
  recovering : Bool
  deriving DecidableEq, Repr

def Plans.reset : Plans :=
  { banks := Vector.replicate 2 Bank.reset, gen := 0, flip := none, locked := false, flips := [], flipping := none,
    activeSince := Config.noEpoch, epoch := none, invalid := [], bounds := Vector.replicate 16 Boundary.reset, recovering := false }

end Sys2Proof.Machine
end

