-- ==== Sys2Proof/Machine/StLanes.lean ====
section
/-! DEFINITION. The ingress lanes, their elastic buffers and back-channels, and the stream assembler (04). -/

namespace Sys2Proof.Machine

/-- Lane states, in the encoding of LANE_STATUS (04 R83). -/
inductive LaneState where
  | off | cdr | blockLock | equalise | framed | deskewed | ready | failed
  deriving DecidableEq, Repr, Inhabited

/-- What the elastic buffer carries: a data block, with the mark that its superblock is LINK_ERR; or what stood in a
header position, with its arrival stamp, the CRC of the lane's 255 data blocks before it, and the MARKER_SEQ of a
deskew marker immediately before it (04 R64 to R74). -/
inductive EbItem where
  | data (word : U64) (bad : Bool)
  | header (word : Option U64) (arrival : Nat) (crc : U16) (marker : Option Nat)
  deriving DecidableEq, Repr

/-- An ingress lane. -/
structure Lane where
  state      : LaneState
  powered    : Bool
  ctle       : Nat
  ctleAuto   : Bool
  polarity   : Bool
  rate       : Nat
  cm1        : Nat
  cp1        : Nat
  /-- The plan sets the lane's pre-emphasis to PARTNER (04 R77). -/
  partner    : Bool
  failCause  : Nat
  stream     : Option (Fin 16)
  laneIndex  : Nat
  flags      : Flags 10
  syncErr    : U32
  rmDeleted  : U32
  misplaced  : U16
  unknown    : U16
  deriving DecidableEq, Repr

/-- A deskew marker as received: MARKER_SEQ, the superblock that it opens in the lane's count, and whether it stood
immediately before a header (04 R74). -/
structure MarkerAt where
  seq   : Nat
  sb    : Nat
  place : Bool
  deriving DecidableEq, Repr, Inhabited

/-- The receive and back-channel logic of a lane. -/
structure LaneRx where
  locked     : Bool
  /-- Validity of the most recent sync headers, newest first, at most 64 (04 R61). -/
  window     : List Bool
  /-- The last 58 payload bits received, bit 0 the latest (04 R60). -/
  scrambler  : BitVec 58
  sinceRm    : Nat
  /-- Position within the superblock: data blocks since the header, 0 to 255; none while not framed. -/
  pos        : Option Nat
  missing    : Nat
  crc        : U16
  /-- The lane's equaliser has its peaking (04 R75 step 4), two headers have established framing (step 5), and blocks
  reach the elastic buffer, from the marked header on (step 6). -/
  equalised  : Bool
  framed     : Bool
  aligned    : Bool
  /-- Headers passed since framing. -/
  superblocks : Nat
  /-- MARKER_SEQ of a marker received since the last header, and the markers that await their DESKEW_MARKER step. -/
  marker     : Option Nat
  markers    : List MarkerAt
  /-- The lane's last marker that has been taken. -/
  lastMark   : Option MarkerAt
  mgmt       : List U64
  ebuf       : List EbItem
  partnerId  : Nat
  resyncLeft : Nat
  crcErrs    : Nat
  syncSince  : Bool
  /-- The last status block sent, as a 64-bit word. -/
  status     : U64
  deriving DecidableEq, Repr

def Lane.reset : Lane :=
  { state := .off, powered := false, ctle := 0, ctleAuto := false, polarity := false, rate := 0, cm1 := 0, cp1 := 0,
    partner := false, failCause := 0, stream := none, laneIndex := 0, flags := Flags.reset 10, syncErr := 0,
    rmDeleted := 0, misplaced := 0, unknown := 0 }

def LaneRx.reset : LaneRx :=
  { locked := false, window := [], scrambler := 0, sinceRm := 0, pos := none, missing := 0, crc := 0xFFFF,
    equalised := false, framed := false, aligned := false, superblocks := 0, marker := none, markers := [],
    lastMark := none, mgmt := [], ebuf := [], partnerId := 0, resyncLeft := 0, crcErrs := 0,
    syncSince := false, status := 0 }

/-- One complex sample. -/
structure IQ where
  i : Int
  q : Int
  deriving DecidableEq, Repr, Inhabited

/-- A run of delivered samples with consecutive indices. -/
structure Seg where
  start : Nat
  data  : List IQ
  deriving DecidableEq, Repr, Inhabited

/-- Link flags over a range of sample indices, [lo, hi) (04 R69, R79). -/
structure Mark where
  lo         : Nat
  hi         : Nat
  linkErr    : Bool
  overrange  : Bool
  convUnlock : Bool
  deriving DecidableEq, Repr, Inhabited

/-- The bundle superblock that the assembler is taking: the 64-bit index of its first sample, whether it will be
delivered, its data blocks, and the DCLK cycle in which each row of blocks was taken, latest first. -/
structure Assembly where
  index   : Nat
  deliver : Bool
  linkErr : Bool
  blocks  : List U64
  cycles  : List Nat
  deriving DecidableEq, Repr, Inhabited

/-- A stream as the assembler keeps it. -/
structure StreamRt where
  /-- The stream-map entry that the link runs with. -/
  map       : StreamE
  /-- The 48-bit count of the latest bundle superblock (04 R67), and whether the present link has acquired it. -/
  count     : Option Nat
  acquired  : Bool
  /-- HALF and COUNT_PART of the first of the two headers of link-up step 7 (04 R75). -/
  prevPart  : Option (Bool × Nat)
  /-- Consecutive failures of the count check, and COUNT_PART of the latest failing header with HALF = 0 and with HALF = 1,
  each with the superblocks since (04 R67). -/
  failRun   : Nat
  lowPart   : Option (Nat × Nat)
  highPart  : Option (Nat × Nat)
  /-- The bundle has reached READY; delivery has begun since. -/
  ready     : Bool
  delivering : Bool
  /-- Stopped with COUNT_REVERSE (04 R81). -/
  reversed  : Bool
  /-- A header has opened a superblock since a STREAM_START was accepted (19 R379). -/
  startDue  : Bool
  high      : U16
  /-- The last delivered index e. -/
  last      : Option Nat
  asm       : Option Assembly
  segs      : List Seg
  marks     : List Mark
  /-- Every sample below this index has been checked by its CRC (04 R70). -/
  checkedTo : Nat
  /-- MAP_MISMATCH and LINK_FAIL have been raised in the present series of failures (04 R72, R75). -/
  mapRaised  : Bool
  failRaised : Bool
  /-- A LINK_FAIL has been raised since the bundle was last READY: its READY is to be recorded (04 R75). -/
  failOpen   : Bool
  unlockPrev : Bool
  /-- After a loss of PLL_D, samples before the boundary of this epoch are not taken in (21 R418). -/
  resumeAt  : Option Nat
  /-- When link-up is to start again after a failure (04 R75). -/
  retryAt   : Option Nat
  /-- Superblocks that the assembler has opened since alignment, and the one from which a deskew failure stops delivery
  (04 R74). -/
  taken     : Nat
  failAt    : Option Nat
  /-- The DCLK cycle in which the assembler last took a row of blocks; it takes one per cycle (04 R64). -/
  lastTake  : Nat
  deriving DecidableEq, Repr

def StreamRt.reset : StreamRt :=
  { map := default, count := none, acquired := false, prevPart := none, failRun := 0,
    lowPart := none, highPart := none, ready := false, delivering := false, reversed := false, startDue := false, high := 0, last := none, asm := none, segs := [],
    marks := [], checkedTo := 0, mapRaised := false, failRaised := false, failOpen := false, unlockPrev := false, resumeAt := none,
    retryAt := none, taken := 0, failAt := none, lastTake := 0 }

structure Lanes where
  lanes   : Vector Lane 32
  rx      : Vector LaneRx 32
  streams : Vector StreamRt 16
  deriving DecidableEq, Repr

def Lanes.reset : Lanes :=
  { lanes := Vector.replicate 32 Lane.reset, rx := Vector.replicate 32 LaneRx.reset,
    streams := Vector.replicate 16 StreamRt.reset }

end Sys2Proof.Machine
end

