-- ==== Sys2Proof/Machine/StBasin.lean ====
section
/-! DEFINITION. Basin rings, captures, envelopes and the NVMe archives (09). -/

namespace Sys2Proof.Machine

/-- Capture states, in the encoding of a capture entry (09 R182). FREE is the absence of a capture in its slot. -/
inductive CapState where
  | free | opened | closed | released | retracted
  deriving DecidableEq, Repr, Inhabited

/-- A capture (09 R171, R182). `lo` and `hi` are the sample range frozen, `hi` exclusive; the tiles it holds are those
written of that range from `firstSeq` on. -/
structure Capture where
  id          : U32
  state       : CapState
  provisional : Bool
  truncated   : Bool
  gap         : Bool
  orphan      : Bool
  recovered   : Bool
  fabric      : Bool
  source      : Nat
  origin      : Nat
  /-- The sequencer of the origin that fired, which the entry of a fabric capture does not show (08 R160). -/
  sequencer   : Nat
  fireSeq     : Nat
  badCrc      : Nat
  trigIndex   : Nat
  trigTime    : Nat
  epoch       : Nat
  firstSeq    : Nat
  /-- One past the last TILE_SEQ of a recovered capture, whose tiles its entry names (09 R183). -/
  stopSeq     : Option Nat
  /-- TILE_COUNT when the capture was released or retracted (09 R182, R184). -/
  heldAtEnd   : Option Nat
  /-- Tiles of the range that are lost beyond those that the ring lists as unwritten (09 R173, R183). -/
  lost        : Nat
  lo          : Nat
  hi          : Nat
  /-- DMA moves that read the capture; a retracted one returns to the ring only afterwards (08 R159). -/
  readers     : Nat
  deriving DecidableEq, Repr, Inhabited

/-- A completed tile in the write queue: its grid number, payload, and delivered samples (09 R170). -/
structure QTile where
  grid      : Nat
  payload   : List Byte
  delivered : Nat
  deriving DecidableEq, Repr, Inhabited

/-- A tile of a ring that has been written and not overwritten, the flags that a header rewrite keeps, and whether its write
has failed, so that it fails its CRC at its next use (12 R239). -/
structure TileInfo where
  seq  : Nat
  grid : Nat
  overflow  : Bool
  recovered : Bool
  failed    : Bool
  deriving DecidableEq, Repr, Inhabited

/-- STATE of BASIN_STATUS (09 R185). -/
inductive BasinState where
  | off | writing | stoppedOverflow | stoppedHeld | recovering
  deriving DecidableEq, Repr, Inhabited

/-- A stop of the writer: reason (1 BACKPRESSURE, 2 HELD), first index not written, tiles discarded (09 R176). -/
structure StopInfo where
  reason    : Nat
  first     : Nat
  discarded : Nat
  deriving DecidableEq, Repr, Inhabited

/-- A ring: its settings, the format of its tiles, the first index it takes, the grid tile from which a flip has taken its
stream away, writer position, queue, the grid tile at which a resumed writer goes on, tiles (newest first), the grid tiles
that a stop left unwritten, capture slots with the rewrites of their descriptor tiles, and the captures in the order in
which they became CLOSED and ordinary. A slot whose capture protects nothing any more is FREE; its entry stays in the
descriptor tile. -/
structure RingRt where
  cfg       : BasinE
  packed    : Bool
  start     : Nat
  endGrid   : Option Nat
  nextSeq   : Nat
  nextGrid  : Nat
  skipTo    : Nat
  queue     : List QTile
  gapBefore : Bool
  tiles     : List TileInfo
  unwritten : List Nat
  slots     : Vector (Option Capture) 64
  descs     : Vector Nat 64
  order     : List U32
  deriving DecidableEq, Repr

def RingRt.reset : RingRt :=
  { cfg := default, packed := false, start := 0, endGrid := none, nextSeq := 0, nextGrid := 0, skipTo := 0, queue := [],
    gapBefore := false, tiles := [], unwritten := [], slots := Vector.replicate 64 none, descs := Vector.replicate 64 0,
    order := [] }

/-- An envelope of a stream (09 R177): exponent, the next record's first interval, whether a record has been issued, and
the index from which a flip has set another exponent. -/
structure Envelope where
  k       : Nat
  next    : Nat
  begun   : Bool
  endAt   : Option Nat
  deriving DecidableEq, Repr, Inhabited

/-- Basin for one stream. -/
structure BasinRt where
  state        : BasinState
  ring         : RingRt
  retired      : List RingRt
  stop         : Option StopInfo
  /-- The envelopes that still have records to issue, oldest first. -/
  env          : List Envelope
  flags        : Flags 6
  tilesWritten : U64
  gapTiles     : U32
  badCrc       : U16
  refused      : U16
  deriving DecidableEq, Repr

def BasinRt.reset : BasinRt :=
  { state := .off, ring := RingRt.reset, retired := [], stop := none, env := [], flags := Flags.reset 6,
    tilesWritten := 0, gapTiles := 0, badCrc := 0, refused := 0 }

/-- An NVMe command placed on an archive's submission queue: its slot, 1 Write of tiles, 0 Flush (12 R241). -/
structure NvmeCmd where
  slot   : Nat
  opcode : Nat
  tile   : Nat
  count  : Nat
  deriving DecidableEq, Repr

/-- A capture append in progress (09 R180): the capture, the channel's move that feeds it, the reserved first tile, tiles written and not yet completed,
the tiles listed as bad, and whether the flush is done and the index tile's Write placed. -/
structure Append where
  stream  : Fin 16
  slot    : Fin 64
  id      : U32
  channel : Fin 32
  move    : Nat
  first   : Nat
  count   : Nat
  written : Nat
  pending : Nat
  bad     : List (Nat × Nat)
  /-- The capture's entry and TRIGGER_INDEX as the program handed them over (09 R180, R181). -/
  entry   : List Byte
  trig    : Nat
  flushed : Bool
  indexed : Bool
  deriving DecidableEq, Repr

/-- An archive NV0-NV15 (09 R179). -/
structure ArchiveRt where
  attached  : Bool
  port      : Fin 4
  sub       : Fin 4
  lbaSize   : Nat
  nsTiles   : Nat
  wrapMode  : Bool
  created   : Nat
  volumeId  : U32
  checkpointSeq   : Nat
  checkpointIndex : Nat
  wrapCount : Nat
  append    : Nat
  /-- ARCHIVE_SEQ of the last index tile, none before the first. -/
  seq       : Option Nat
  prevIndex : Nat
  sinceCheckpoint : Nat
  job       : Option Append
  full      : Bool
  /-- The queue pair (12 R241): commands not completed, those placed since the last doorbell write, the submission-queue tail
  last written, and the completions. -/
  placed    : List NvmeCmd
  newPlaced : Nat
  tail      : Nat
  done      : Nat
  deriving DecidableEq, Repr

def ArchiveRt.reset : ArchiveRt :=
  { attached := false, port := 0, sub := 0, lbaSize := 4096, nsTiles := 0, wrapMode := false, created := 0,
    volumeId := 0, checkpointSeq := 0, checkpointIndex := 0, wrapCount := 0, append := 16, seq := none,
    prevIndex := 2 ^ 64 - 1, sinceCheckpoint := 0, job := none, full := false, placed := [], newPlaced := 0, tail := 0, done := 0 }

/-- Tiles that CAPTURE_READ or ring recovery reads from a CXL port (09 R178, R183; 12 R238): those still to be requested, as
key and window address, the requests outstanding, and the answers: key, data, and whether poison or a time-out spoils
them. -/
structure TileJob where
  serial  : Nat
  port    : Fin 4
  /-- READ_CREDITS of the plan for which the job reads. -/
  pool    : Nat
  left    : List (Nat × Nat)
  waiting : Nat
  got     : List (Nat × List Byte × Bool)
  deriving DecidableEq, Repr

/-- A ring that BASIN_RECOVER reads: its settings, the job of its descriptor tiles, then that of its captures' tiles. -/
structure RecRing where
  stream : Fin 16
  cfg    : BasinE
  packed : Bool
  descs  : Nat
  tiles  : Option Nat
  deriving DecidableEq, Repr

structure Basin where
  streams   : Vector BasinRt 16
  /-- The node's CAPTURE_ID counter. -/
  captureId : U32
  archives  : Vector ArchiveRt 16
  /-- The bank that BASIN_RECOVER restores. -/
  recover   : Option (Fin 2)
  /-- The rings that a running BASIN_RECOVER reads, and the tile reads in progress. -/
  recovery  : List RecRing
  jobs      : List TileJob
  jobSerial : Nat
  deriving DecidableEq, Repr

def Basin.reset : Basin :=
  { streams := Vector.replicate 16 BasinRt.reset, captureId := 0, archives := Vector.replicate 16 ArchiveRt.reset,
    recover := none, recovery := [], jobs := [], jobSerial := 0 }

end Sys2Proof.Machine
end

