-- ==== Sys2Proof/Machine/StCaldera.lean ====
section
/-! DEFINITION. Caldera's planes and the scan-out of DP0 and DP1 (10). -/

namespace Sys2Proof.Machine

/-- The counts of a plane: (4096 x row + column, count), keys rising, no count 0; an unlisted cell holds 0. -/
abbrev Cells := List (Nat × U16)

/-- The roles of a frame buffer (10 R198). -/
inductive BufRole where
  | active | latched | shadow | rendering | free
  deriving DecidableEq, Repr, Inhabited

/-- A frame that a base register names: the plane and buffer it was rendered to, with address, size and format (10 R197). -/
structure FrameRef where
  plane  : Fin 2
  buf    : Fin 4
  addr   : Nat
  width  : Nat
  height : Nat
  format : Nat
  deriving DecidableEq, Repr, Inhabited

/-- A density plane. -/
structure PlaneRt where
  cells        : Cells
  /-- Increments that wait for their cells, oldest first: column and row. -/
  queue        : List (Nat × Nat)
  clearPending : Bool
  /-- A flip changed the rows or a column map: the next sweep clears (10 R193). -/
  flipClear    : Bool
  roles        : Vector BufRole 4
  renderBuf    : Fin 4
  /-- The base write that is on its way: the output and the frame (10 R192). -/
  flight       : Option (Fin 2 × FrameRef)
  flags        : Flags 4
  renders      : U64
  incDropped   : U32
  ticksMissed  : U16
  replaced     : U16
  excluded     : U32
  /-- Ticks of this plane issued or missed in the current epoch, and whether its TICK_M tick is done. -/
  ticksDone    : Nat
  deriving DecidableEq, Repr

def PlaneRt.reset : PlaneRt :=
  { cells := [], queue := [], clearPending := false, flipClear := false, roles := Vector.replicate 4 .free,
    renderBuf := 0, flight := none, flags := Flags.reset 4, renders := 0, incDropped := 0, ticksMissed := 0, replaced := 0,
    excluded := 0, ticksDone := 0 }

/-- Output states, in the encoding of DISPLAY_STATUS (10 R210). -/
inductive OutState where
  | off | training | running | modeChange | hpdLost | linkInsufficient
  deriving DecidableEq, Repr, Inhabited

/-- A timing mode (10 R201). -/
structure DispMode where
  bpc10   : Bool
  hPol    : Bool
  vPol    : Bool
  tiled   : Bool
  pclkKhz : Nat
  hActive : Nat
  hFp     : Nat
  hSync   : Nat
  hBp     : Nat
  vActive : Nat
  vFp     : Nat
  vSync   : Nat
  vBp     : Nat
  deriving DecidableEq, Repr, Inhabited

/-- A DisplayPort output with its three base registers (10 R204); those of a tiled pair are DP0's. `abortAt` is the pixel of
the running frame from which an underrun has left black (10 R205). -/
structure OutputRt where
  state    : OutState
  hpd      : Bool
  /-- Link rate (0 RBR to 3 HBR3) and lanes as trained; 0 lanes while untrained. -/
  linkRate : Nat
  lanes    : Nat
  mode     : Option DispMode
  newMode  : Option DispMode
  running  : Bool
  stopAtEnd : Bool
  /-- The raster ran when HPD was lost and restarts when it returns. -/
  resume   : Bool
  /-- The output joins the running raster of its pair at the next frame start (10 R203, R206). -/
  joins    : Bool
  closed   : Bool
  shadow   : Option FrameRef
  latch    : Option FrameRef
  active   : Option FrameRef
  shadowNew : Bool
  abortAt  : Option Nat
  sizeMismatch : Bool
  flags    : Flags 3
  frames   : U64
  underrun : U32
  late     : U32
  retrains : U32
  deriving DecidableEq, Repr

def OutputRt.reset : OutputRt :=
  { state := .off, hpd := false, linkRate := 0, lanes := 0, mode := none, newMode := none, running := false,
    stopAtEnd := false, resume := false, joins := false, closed := false, shadow := none, latch := none, active := none,
    shadowNew := false, abortAt := none, sizeMismatch := false, flags := Flags.reset 3, frames := 0,
    underrun := 0, late := 0, retrains := 0 }

structure Caldera where
  planes  : Vector PlaneRt 2
  outputs : Vector OutputRt 2
  deriving DecidableEq, Repr

def Caldera.reset : Caldera :=
  { planes := Vector.replicate 2 PlaneRt.reset, outputs := Vector.replicate 2 OutputRt.reset }

end Sys2Proof.Machine
end

