-- ==== Sys2Proof/Machine/StDev.lean ====
section
/-! DEFINITION. The device as a whole: DEV_STATE, reset inputs, boot, fuses and flash, PLLs, watchdogs, thermal checks
(21 R406 to R424). -/

namespace Sys2Proof.Machine

/-- DEV_STATE, in the encoding of 18 R354. -/
inductive DevState where
  | boot | ready | watchdog | fault | suspended
  deriving DecidableEq, Repr, Inhabited

/-- The PLLs of 21 R418, in the numbering of PLL_UNLOCK (21 R424). -/
inductive PllId where
  | d | c | t | m | x | display | lane
  deriving DecidableEq, Repr

/-- A PLL's lock and, while unlocked, the station time of the loss. -/
structure Pll where
  locked : Bool
  since  : Nat
  deriving DecidableEq, Repr

/-- A factory TDC table: 640 cumulative tap positions and a temperature coefficient (15 R298). -/
structure TdcFuse where
  taps  : List Nat
  coeff : Int
  deriving DecidableEq, Repr, Inhabited

/-- The fuses (21 R411). Digests are 384-bit numbers; a key slot not programmed is none. -/
structure Fuses where
  rootKey     : Nat
  planKeys    : Vector (Option Nat) 4
  sigRequired : Bool
  /-- The rollback counter: the number of blown bits. -/
  rollback    : Nat
  /-- Factory TDC tables of EVT0 to EVT15 (15 R298). -/
  tdcTables   : Vector TdcFuse 16
  /-- Sensor trims of HK0 to HK3 (17 R338). -/
  sensorTrims : Vector Int 4
  /-- EVT_LATENCY as set in the factory, in ps (15 R300). -/
  evtLatency  : Vector Nat 16
  /-- VDD_CORE set point (22 R432). -/
  vddCore     : Nat
  deriving DecidableEq, Repr

def Fuses.blank : Fuses :=
  { rootKey := 0, planKeys := Vector.replicate 4 none, sigRequired := false, rollback := 0,
    tdcTables := Vector.replicate 16 default, sensorTrims := Vector.replicate 4 0,
    evtLatency := Vector.replicate 16 0, vddCore := 750 }

/-- The device's own state. -/
structure Dev where
  /-- BX1640-128 (true) or BX1640-64 (00 R1). -/
  is128      : Bool
  powered    : Bool
  porstN     : Bool
  wrstN      : Bool
  provEn     : Bool
  testMode   : Bool
  i2cAddr    : BitVec 2
  state      : DevState
  /-- The boot step that runs, 1 to 12, or 0 when no boot runs (21 R413). -/
  bootStep   : Nat
  /-- The boot follows WRST_N and keeps segment 0. -/
  bootWarm   : Bool
  /-- Cause of refusal of each flash slot read at this boot (21 R424, BOOT_SLOT_FAIL). -/
  slotCause  : Vector (Option Nat) 2
  /-- FW_VERSION and ROLLBACK of the running image. -/
  fwVersion  : Nat
  fwRollback : Nat
  /-- Both cores have serviced their watchdogs in the last 500 us (21 R420). -/
  serviced   : Vector Bool 2
  aliveRun   : Bool
  aliveLevel : Bool
  /-- Station times of the watchdog expiries of the last 10 s (21 R417). -/
  expiries   : List Nat
  /-- The firmware runs and decides commands: from boot step 7 on, not during a watchdog restart (21 R413, R416). -/
  fwRunning  : Bool
  /-- The firmware is stopped by WATCHDOG_LIMIT (21 R417). -/
  limited    : Bool
  plls       : Vector Pll 7
  trefLost   : Bool
  fuses      : Fuses
  /-- The highest sensor of the latest thermal check, deg C x 256 (22 R431). -/
  tempMax    : BitVec 16
  /-- Sensors 0 to 3 as the latest thermal check converted them, deg C x 256 (21 R423); 25 deg C until the first. -/
  sensors    : Vector (BitVec 16) 4
  /-- THERMAL_LOW, THERMAL_WARN, THERMAL_HIGH have been reported and not re-armed. -/
  crossed    : Vector Bool 3
  hotChecks  : Nat
  tripLatch  : Bool
  /-- The trip holds the device as in PORST_N low, until PORST_N; its HW_THERMAL_TRIP is still to be posted. -/
  tripHold   : Bool
  tripNew    : Bool
  /-- The watchdog expiry whose WATCHDOG is still to be posted: core, program counter, station time (21 R416). -/
  wdog       : Option (Fin 2 × U64 × Nat)
  /-- Fault records since PORST_N or WRST_N, saturating (22 R431). -/
  faultCount : U32
  /-- CORE_SETPOINT in mV: 750 until boot step 3 writes the fused set point (22 R431, R432). -/
  coreSetpoint : Nat
  deriving DecidableEq, Repr

def Dev.reset : Dev :=
  { is128 := false, powered := true, porstN := true, wrstN := true, provEn := false, testMode := false, i2cAddr := 0,
    state := .boot, bootStep := 1, bootWarm := false, slotCause := Vector.replicate 2 none, fwVersion := 0x0302,
    fwRollback := 0, serviced := Vector.replicate 2 false, aliveRun := false, aliveLevel := false, expiries := [],
    fwRunning := false, limited := false, plls := Vector.replicate 7 { locked := false, since := 0 }, trefLost := false,
    fuses := Fuses.blank, tempMax := 0x8000, sensors := Vector.replicate 4 0x1900, crossed := Vector.replicate 3 false, hotChecks := 0,
    tripLatch := false, tripHold := false, tripNew := false, wdog := none, faultCount := 0, coreSetpoint := 750 }

end Sys2Proof.Machine
end

