-- ==== Sys2Proof/Machine/StEvt.lean ====
section
/-! DEFINITION. Event inputs, interval pairs, the two Pass DLLs and the frame-clock outputs (15). -/

namespace Sys2Proof.Machine

/-- An accepted edge in an input's FIFO: sampling edge in 2^-16 ns, taps passed, its EVENT_SEQ, whether it is read through
the loop-calibrated table, and EVT_LATENCY as it was accepted (15 R294 to R297). -/
structure Edge where
  ts      : Nat
  taps    : Nat
  falling : Bool
  loop    : Bool
  seq     : U32
  latencyPs : Nat
  deriving DecidableEq, Repr, Inhabited

/-- A stamp of a paired input that awaits its pair's decision (15 R303). -/
structure Stamp where
  time    : Nat
  falling : Bool
  loop    : Bool
  seq     : U32
  deriving DecidableEq, Repr, Inhabited

/-- An interval pair, held by its start input: the stop input, PAIR_WINDOW in TCLK, and what is undecided. -/
structure Pair where
  stop   : Fin 16
  window : Nat
  starts : List Stamp
  stops  : List Stamp
  deriving DecidableEq, Repr

/-- An event input (15 R300, R313). -/
structure EvtIn where
  enabled   : Bool
  polarity  : Fin 3
  hyst      : Fin 8
  holdoff   : Nat
  latencyPs : Nat
  /-- TCLK count of the last accepted edge's sampling edge (15 R301). -/
  last      : Option Nat
  /-- The code-density table of boot step 10 is present (15 R297). -/
  bootTable : Bool
  /-- The temperature the free-running table was last rebuilt for, deg C x 256 (15 R298). -/
  tableTemp : BitVec 16
  fifo      : List Edge
  pair      : Option Pair
  seq       : U32
  flags     : Flags 4
  suppressed : U32
  lost      : U32
  peak      : Nat
  deriving DecidableEq, Repr

/-- 25 deg C in units of 1/256 deg C, where the factory tables were measured (15 R298). -/
def roomTemp : BitVec 16 := 0x1900

def EvtIn.reset : EvtIn :=
  { enabled := false, polarity := 0, hyst := 2, holdoff := 1, latencyPs := 0, last := none, bootTable := false,
    tableTemp := roomTemp, fifo := [], pair := none, seq := 0, flags := Flags.reset 4, suppressed := 0, lost := 0,
    peak := 0 }

/-- A frame-clock output (15 R306, R314). -/
structure Fco where
  on        : Bool
  div       : Nat
  phase     : Nat
  stepsLeft : Int
  rate      : Nat
  /-- TCLK count of the last gate-off: a gate-on in the same TCLK cycle gives way (15 R308). -/
  lastOff   : Option Nat
  /-- The moment from which a gate-on, or a relock of DLL_F, lets periods begin, and the last period that the output has begun: its
  rising edge and its length, in fifths of a unit of PHASE (15 R308, R311). -/
  since     : Nat
  cycle     : Option (Nat × Nat)
  /-- When the steps of the running schedule began to be issued, in ns, and those issued since (15 R307). -/
  stepBase  : Nat
  stepsDone : Nat
  flags     : Flags 3
  lastEdge  : Nat
  deriving DecidableEq, Repr

def Fco.reset : Fco :=
  { on := false, div := 1, phase := 0, stepsLeft := 0, rate := 1, lastOff := none, since := 0, cycle := none, stepBase := 0,
    stepsDone := 0, flags := Flags.reset 3,
    lastEdge := 0 }

/-- A phase-step schedule: its effective epoch, and per output a signed count and a rate (15 R309). -/
structure Schedule where
  epoch : Nat
  steps : List (Int × Nat)
  deriving DecidableEq, Repr, Inhabited

structure Evt where
  inputs  : Vector EvtIn 16
  outputs : Vector Fco 8
  dllT    : Bool
  dllF    : Bool
  pending : Option Schedule
  /-- The window of the pending schedule has closed (15 R309). -/
  closed  : Bool
  deriving DecidableEq, Repr

def Evt.reset : Evt :=
  { inputs := Vector.replicate 16 EvtIn.reset, outputs := Vector.replicate 8 Fco.reset, dllT := false, dllF := false,
    pending := none, closed := false }

end Sys2Proof.Machine
end

