-- ==== Sys2Proof/Machine/StHost.lean ====
section
/-! DEFINITION. The host side of State: the two endpoints, their mailbox slots, event rings and MSI-X tables, the
semaphore block and the serial order of commands (18 R350 to R370). -/

namespace Sys2Proof.Machine

/-- The states of a mailbox slot, in the encoding of SLOT_STATE (18 R356). -/
inductive SlotState where
  | free | posted | executing | done
  deriving DecidableEq, Repr, Inhabited

/-- A mailbox slot of 512 bytes: header and payload (18 R355). -/
structure Slot where
  state : SlotState
  bytes : Memory
  deriving DecidableEq, Repr

def Slot.reset : Slot := { state := .free, bytes := [] }

/-- An entry of the event ring (18 R367); `time` is in units of 2^-16 ns. -/
structure EvEntry where
  seq      : U64
  code     : U16
  severity : BitVec 4
  domain   : BitVec 5
  arg0     : U32
  arg1     : U64
  arg2     : U64
  time     : Nat
  deriving DecidableEq, Repr, Inhabited

def EvEntry.reset : EvEntry :=
  { seq := 0, code := 0, severity := 0, domain := 0, arg0 := 0, arg1 := 0, arg2 := 0, time := 0 }

/-- An entry of the MSI-X table (18 R370): bit 0 of the vector control masks the vector and is 1 at reset. -/
structure MsixEntry where
  addr : U64
  data : U32
  ctrl : U32
  deriving DecidableEq, Repr

def MsixEntry.reset : MsixEntry := { addr := 0, data := 0, ctrl := 1 }

/-- The flags of HOST_FLAGS, by bit (18 R354). -/
inductive HostFlag where
  | doorbellReject | slotBusyWrite | semForeignWrite | evOverflow | unmapped | consumedForeign | semForcedRelease
  | tailInvalid
  deriving DecidableEq, Repr

/-- One host port: link, PCIe configuration settings, BAR0 registers, slots, event ring, MSI-X. -/
structure HostPort where
  linkUp     : Bool
  maxPayload : Nat
  msixEnable : Bool
  funcMask   : Bool
  slots      : Vector Slot 16
  flags      : Flags 8
  evHead     : U32
  evTail     : U32
  evLost     : U32
  irqHoldoff : U32
  /-- Station time of the last vector-0 message. -/
  lastV0     : Option Nat
  /-- Event entries written since the last vector-0 message await the message at the holdoff's end. -/
  v0Waiting  : Bool
  ring       : Vector EvEntry 128
  msix       : Vector MsixEntry 32
  pba        : U32
  /-- What the last read of a register of this port returned (log entry 3: DESIGN CHOICE). -/
  lastRead   : U64
  deriving DecidableEq, Repr

def HostPort.reset : HostPort :=
  { linkUp := false, maxPayload := 128, msixEnable := false, funcMask := false,
    slots := Vector.replicate 16 Slot.reset, flags := Flags.reset 8, evHead := 0, evTail := 0, evLost := 0,
    irqHoldoff := 0, lastV0 := none, v0Waiting := false, ring := Vector.replicate 128 EvEntry.reset,
    msix := Vector.replicate 32 MsixEntry.reset, pba := 0, lastRead := 0 }

/-- Where a command came from and where its response goes: a slot of a host port, or a tag of the fabric tunnel. -/
inductive Source where
  | slot (port : PortId) (slot : Fin 16)
  | tunnel (owner : Owner) (tag : Nat)
  deriving DecidableEq, Repr

/-- A command in the serial order (18 R358): its header fields and payload as posted, its ORDER and its recorded
time in units of 2^-16 ns. -/
structure Cmd where
  source   : Source
  order    : U64
  recorded : Nat
  seq      : U32
  code     : U16
  flags    : U16
  length   : U16
  payload  : List Byte
  deriving DecidableEq, Repr

/-- What a decided command still waits for before its response (18 R359). -/
inductive Wait where
  | planLoad (bank : Fin 2) (hostPort : PortId) (addr bytes : Nat)
  | streamStart (stream : Fin 16) (high : Nat)
  | captureRead (stream : Fin 16) (captureId : Nat) (hostPort : PortId) (addr job : Nat)
      (due : Nat)
  | hkRead (vent : Fin 2) (input avg shift : Nat)
  | portMode (port : Fin 4) (due : Nat)
  | dmaPause (channel : Fin 32)
  | dmaStop (channel : Fin 32)
  | tunnel (port target tag : Nat) (due : Nat)
  deriving DecidableEq, Repr

/-- A decided command whose response a later event completes. `pin` is the semaphore it pins until then (18 R364);
a forced release ends the pin and discards the response (18 R365). -/
structure Deferred where
  cmd      : Cmd
  domain   : Option (Fin 16)
  pin      : Option (Fin 64)
  discard  : Bool
  wait     : Wait
  deriving DecidableEq, Repr

/-- The semaphore block and the serial order, shared by both ports. -/
structure HostShared where
  owner    : Vector (Option Owner) 64
  /-- A release by the owner held while a command pins the semaphore (18 R364). -/
  held     : Vector Bool 64
  tieToken : Bool
  order    : U64
  serial   : List Cmd
  deferred : List Deferred
  evSeq    : U64
  deriving DecidableEq, Repr

def HostShared.reset : HostShared :=
  { owner := Vector.replicate 64 none, held := Vector.replicate 64 false, tieToken := false, order := 0,
    serial := [], deferred := [], evSeq := 0 }

end Sys2Proof.Machine
end

