-- ==== Sys2Proof/Machine/StFabric.lean ====
section
/-! DEFINITION. The Corvel fabric: role, lanes, membership, the manager's nodes and the mailbox tunnel (16). Loss
detection counts TCLK edges. -/

namespace Sys2Proof.Machine

/-- Roles, in the encoding of FABRIC_STATUS (16 R336). -/
inductive Role where
  | off | manager | worker
  deriving DecidableEq, Repr, Inhabited

/-- Worker states, in the encoding of 16 R326. -/
inductive Member where
  | unjoined | joining | member | orphan
  deriving DecidableEq, Repr, Inhabited

/-- Link states of a fabric lane, in the encoding of FABRIC_STATUS (16 R336). -/
inductive LinkState where
  | off | linking | measuring | up | failed
  deriving DecidableEq, Repr, Inhabited

/-- A fabric lane L32-L43. -/
structure FabLane where
  state     : LinkState
  use       : Fin 4
  partner   : Nat
  failCause : Nat
  /-- CTLE peaking in dB as set, 31 for AUTO, and the peaking in use, none until the sweep has found it. -/
  ctle      : Nat
  peak      : Option Nat
  flags     : Flags 5
  /-- D and the pad, in units of 10 ps (16 R336). -/
  delay     : Nat
  pad       : Nat
  /-- The last neighbour offsets, newest first, at most 16, in 2^-16 ns (16 R325). -/
  offsets   : List Int
  /-- The neighbour offset lies beyond TIME_TOL, and this has been reported (16 R325). -/
  apart     : Bool
  crcErr    : U32
  fwdLate   : U16
  unknown   : U16
  linkDowns : U16
  /-- TCLK counts of the last heartbeat on the link and of the last one from the partner itself (16 R327), and round
  trips measured so far in ps (16 R317). -/
  lastBeat  : Nat
  lastOwn   : Nat
  probes    : List Nat
  /-- Depth that the partner's heartbeat carries. -/
  partnerDepth : Nat
  deriving DecidableEq, Repr

def FabLane.reset : FabLane :=
  { state := .off, use := 0, partner := 0, failCause := 0, ctle := 0, peak := none, flags := Flags.reset 5, delay := 0, pad := 0,
    offsets := [], apart := false, crcErr := 0, fwdLate := 0, unknown := 0, linkDowns := 0, lastBeat := 0, lastOwn := 0, probes := [],
    partnerDepth := 0 }

/-- A link that is to come up starts over (16 R317); a fixed peaking is in use at once. -/
def FabLane.relink (l : FabLane) : FabLane :=
  if l.use = 0 then { l with state := .off, peak := none }
  else { l with state := .linking, failCause := 0, probes := [], offsets := [], apart := false, peak := if l.ctle = 31 then none else some l.ctle }

/-- NSTATE of FABRIC_NODES (16 R337). -/
inductive NodeState where
  | absent | joining | member | lost
  deriving DecidableEq, Repr, Inhabited

/-- What the manager holds of a node (16 R326, R337). -/
structure NodeRt where
  state      : NodeState
  depth      : Nat
  streams    : BitVec 16
  planId     : Nat
  /-- Memberships, newest first: from the t_j granted until the sending time of the last heartbeat received before the node
  was lost, or still open, in 2^-16 ns (16 R326). -/
  spans      : List (Nat × Option Nat)
  /-- Sending time of the last heartbeat received. -/
  lastSent   : Nat
  /-- TCLK count of the last heartbeat. -/
  lastBeat   : Nat
  /-- MISSING records are issued until this epoch's boundary (16 R328). -/
  missing    : Bool
  fabSeq     : Option U32
  /-- The downlink towards the node: the one on which its heartbeats and JOINs come up (16 R322). -/
  via        : Option (Fin 12)
  deriving DecidableEq, Repr

def NodeRt.reset : NodeRt :=
  { state := .absent, depth := 0, streams := 0, planId := 0, spans := [], lastSent := 0,
    lastBeat := 0, missing := false, fabSeq := none, via := none }

/-- The membership granted last is open and begins at this station time. -/
def NodeRt.openFrom (x : NodeRt) : Option Nat :=
  match x.spans with
  | (t, none) :: _ => some t
  | _ => none

/-- The open membership ends at the sending time of the last heartbeat (16 R326). -/
def NodeRt.close (x : NodeRt) : NodeRt :=
  match x.spans with
  | (t, none) :: rest => { x with spans := (t, some x.lastSent) :: rest }
  | _ => x

/-- A membership from a station time is granted; it takes the place of one that has not begun (16 R326, R330). -/
def NodeRt.grant (t : Nat) (x : NodeRt) : NodeRt :=
  let old := if x.state = .joining && x.openFrom.isSome then x.spans.tail else x.close.spans
  { x with state := .joining, spans := (t, none) :: old }

/-- A SYSTEM ARM or DISARM that the manager has executed: epoch, group mask, DISARM (16 R330). -/
structure ArmOrder where
  e      : Nat
  mask   : Nat
  disarm : Bool
  deriving DecidableEq, Repr

structure Fabric where
  role       : Role
  node       : Nat
  member     : Member
  depth      : Nat
  activeUp   : Fin 12
  flags      : Flags 5
  joinEpoch  : Nat
  /-- The epoch t_j at which an accepted JOIN takes effect, with ARMED, while it lies ahead (16 R330). -/
  joining    : Option (Nat × Nat)
  nonmember  : U32
  fabGaps    : U32
  lateDecisions : U16
  lanes      : Vector FabLane 12
  /-- TIME_TOL in ns (16 R325). -/
  timeTol    : Nat
  nodes      : Vector NodeRt 64
  /-- MSEQ counters per class: urgent, control, bulk (16 R319). -/
  mseq       : Vector Nat 3
  /-- The last 128 messages taken per SRC and class, newest first: SRC, class, MSEQ (16 R321). A message on its way up,
  taken on a downlink, has 3 added to its class: the same message comes down again from the manager (16 R322). -/
  seen       : List (Nat × Nat × Nat)
  armSeq     : U16
  arms       : List ArmOrder
  /-- TCLK count of the last manager heartbeat (16 R327). -/
  lastManager : Nat
  /-- The spans in which the node's items carry ORPHAN, newest first: from a station time to t_j, or still open
  (16 R329). -/
  orphans    : List (Nat × Option Nat)
  lastSync   : Option Nat
  /-- Fragments of an incomplete inner command or response: SRC and bytes so far (16 R331). -/
  partials   : List (Nat × List Byte)
  /-- The last 16 (TAG, response) pairs per tunnel owner, newest first: TUNNEL_A, TUNNEL_B (16 R332). -/
  stored     : Vector (List (Nat × List Byte)) 2
  /-- Data received for tunnelled reads, by outer host port and TAG (16 R333). -/
  tunnelData : List ((Nat × Nat) × List Byte)
  deriving DecidableEq, Repr

def Fabric.reset : Fabric :=
  { role := .off, node := 0, member := .unjoined, depth := 0, activeUp := 0, flags := Flags.reset 5, joinEpoch := 0,
    joining := none, nonmember := 0, fabGaps := 0, lateDecisions := 0, lanes := Vector.replicate 12 FabLane.reset,
    timeTol := 1000, nodes := Vector.replicate 64 NodeRt.reset, mseq := Vector.replicate 3 0, seen := [], armSeq := 0,
    arms := [], lastManager := 0, orphans := [], lastSync := none, partials := [],
    stored := Vector.replicate 2 [], tunnelData := [] }

end Sys2Proof.Machine
end

