-- ==== Sys2Proof/Machine/StRec.lean ====
section
/-! DEFINITION. Record delivery: path queues, host record rings, UDP destinations (11 R224 to R231). -/

namespace Sys2Proof.Machine

/-- A record assigned to a path, with its path SEQ (11 R213). -/
structure Queued where
  seq : U32
  item : Record
  deriving DecidableEq, Repr

/-- A path of record delivery: 0-15 host rings, 16-23 UDP destinations, 24 FAB. -/
structure RecPath where
  seq      : U32
  queue    : List Queued
  /-- What a UDP destination or FAB has accepted and not yet sent: when it will have left, and its bytes (11 R225). -/
  leaving  : List (Nat × Nat)
  drops    : U32
  oversize : U32
  deriving DecidableEq, Repr

def RecPath.reset : RecPath := { seq := 0, queue := [], leaving := [], drops := 0, oversize := 0 }

/-- A host record ring as RING_SETUP sets it up (11 R226). -/
structure Ring where
  isUp      : Bool
  port      : PortId
  vector    : Fin 32
  log2Bytes : Nat
  holdoffUs : Nat
  base      : Nat
  entrySeq  : U64
  slot      : Nat
  /-- Slots written since RING_SETUP. -/
  written   : Nat
  consumed  : U32
  lastMsg   : Option Nat
  waiting   : Bool
  deriving DecidableEq, Repr

def Ring.reset : Ring :=
  { isUp := false, port := 0, vector := 0, log2Bytes := 0, holdoffUs := 0, base := 0, entrySeq := 1, slot := 0,
    written := 0, consumed := 0, lastMsg := none, waiting := false }

/-- A UDP destination (11 R229) and its pending datagram. -/
structure UdpDest where
  enabled  : Bool
  ipv6     : Bool
  ports    : Nat
  dscp     : Nat
  udpPort  : Nat
  vlan     : Nat
  mtu      : Nat
  flushUs  : Nat
  addr     : List Byte
  mac      : Option Nat
  dgramSeq : U32
  /-- Records of the pending datagram, oldest first, and when the first was placed. -/
  pending  : List (List Byte)
  placedAt : Nat
  deriving DecidableEq, Repr

def UdpDest.reset : UdpDest :=
  { enabled := false, ipv6 := false, ports := 0, dscp := 0, udpPort := 0, vlan := 0, mtu := 0, flushUs := 0,
    addr := [], mac := none, dgramSeq := 0, pending := [], placedAt := 0 }

structure Records where
  paths : Vector RecPath 25
  rings : Vector Ring 16
  udp   : Vector UdpDest 8
  /-- When each link of record delivery will have sent what it has accepted: E0, E1, the active uplink. -/
  linkFree : Vector Nat 3
  deriving DecidableEq, Repr

def Records.reset : Records :=
  { paths := Vector.replicate 25 RecPath.reset, rings := Vector.replicate 16 Ring.reset,
    udp := Vector.replicate 8 UdpDest.reset, linkFree := Vector.replicate 3 0 }

end Sys2Proof.Machine
end

