-- ==== Sys2Proof/Machine/StGeyser.lean ====
section
/-! DEFINITION. Geyser: mask units, sequencers with their reorder queues, the verify units of forerunner mode and the
provisional FIREs of other nodes (07, 08). Times are in 2^-16 ns. -/

namespace Sys2Proof.Machine

/-- Where a trigger lies exactly: node, stream and sample index (07 R136). -/
structure Anchor where
  node   : Nat
  stream : Nat
  index  : Nat
  deriving DecidableEq, Repr, Inhabited

/-- A condition event with its trigger time (07 R136). `view` names the view of a mask condition. -/
structure Event where
  cond   : Nat
  time   : Nat
  anchor : Option Anchor
  deriving DecidableEq, Repr, Inhabited

/-- An event taken or to be taken, with whether it was late (07 R139). -/
structure Taking where
  event : Event
  late  : Bool
  deriving DecidableEq, Repr, Inhabited

/-- RUN, in the encoding of GEYSER_STATUS (07 R152). -/
inductive SeqRun where
  | stopped | waiting | executing | halted
  deriving DecidableEq, Repr, Inhabited

/-- A running timer: it expires at a station time, or with the spectrum of a view that starts at or after an index
(07 R143), counted from restart `gen` of a zoom source. -/
inductive TimerRt where
  | at (time : Nat)
  | hops (view : Fin 64) (gen index : Nat)
  deriving DecidableEq, Repr

/-- The holdoff setting: mode 0 OFF, 1 FIXED_TCLK, 2 FIXED_HOPS, 3 CAPTURE (07 R144). -/
structure Holdoff where
  mode     : Nat
  view     : Nat
  duration : Nat
  deriving DecidableEq, Repr, Inhabited

/-- An ARM or DISARM that applies from a trigger time on, in the order of execution (07 R149). -/
structure ArmChange where
  start : Nat
  arm   : Bool
  deriving DecidableEq, Repr, Inhabited

/-- The FIRE instruction's fields (07 R141). -/
structure FireSpec where
  fabric  : Bool
  channel : Nat
  heEn    : Bool
  he      : Nat
  mask    : Nat
  deriving DecidableEq, Repr, Inhabited

/-- A provisional FIRE that awaits its decision (08 R155, R156): its record is issued once the earlier ones are
decided (08 R158), and behind it the notices of its captures that have come until then (11 R232). -/
structure ProvFire where
  seq      : U32
  event    : Taking
  spec     : FireSpec
  bank     : Fin 2
  held     : U32
  captured : Nat
  issued   : Bool
  notices  : List Record
  deriving DecidableEq, Repr

/-- A verify-view spectrum as recorded, with the bank that computed it, the restarts of a zoom source before it, and when it
was recorded: none stands for missing (08 R154). -/
structure VerRec where
  bank   : Fin 2
  gen    : Nat
  start  : Nat
  time   : Nat
  result : Option Bool
  deriving DecidableEq, Repr, Inhabited

/-- A sequencer: program position and what its program holds. -/
structure Seq where
  run       : SeqRun
  /-- The bank of the program; none when the active plan holds no such sequencer. -/
  bank      : Option (Fin 2)
  /-- A flip after which the program ends and the new bank's starts: epoch and bank (07 R146). -/
  switchAt  : Option (Nat × Fin 2)
  /-- The first epoch whose events the program takes (07 R146). -/
  since     : Nat
  state     : BitVec 5
  pc        : BitVec 8
  tt        : Taking
  mark      : Option Taking
  /-- A late event has acted on a WAIT since the last FIRE (07 R139). -/
  late      : Bool
  counters  : Vector U32 8
  timers    : Vector (Option TimerRt) 8
  holdoff   : Holdoff
  /-- The last effective FIRE's event, from which the holdoff is measured, the captures it started whose post-trigger
  regions still run, as (stream, capture ID), and when the latest of the others was complete (07 R144 CAPTURE). -/
  lastFire  : Option Event
  captures  : List (Nat × Nat)
  capEnd    : Nat
  arms      : List ArmChange
  queue     : List Event
  released  : List Taking
  /-- Terms taken since a WAIT ALL began: term number and event. -/
  terms     : List (Nat × Taking)
  lastTaken : Option Nat
  history   : List VerRec
  prov      : List ProvFire
  deriving DecidableEq, Repr

/-- A sequencer's counters and flags as GEYSER_STATUS reports them. -/
structure SeqStat where
  heldCount  : U32
  fireSeq    : U32
  flags      : Flags 4
  fires      : U64
  trigHeld   : U32
  lateEvents : U32
  notArmed   : U16
  queuePeak  : U16
  armNotManager : U32
  deriving DecidableEq, Repr

def Seq.reset : Seq :=
  { run := .stopped, bank := none, switchAt := none, since := 0, state := 0, pc := 0, tt := default, mark := none, late := false,
    counters := Vector.replicate 8 0, timers := Vector.replicate 8 none, holdoff := default, lastFire := none,
    captures := [], capEnd := 0, arms := [], queue := [], released := [], terms := [], lastTaken := none, history := [],
    prov := [] }

def SeqStat.reset : SeqStat :=
  { heldCount := 0, fireSeq := 0, flags := Flags.reset 4, fires := 0, trigHeld := 0, lateEvents := 0, notArmed := 0,
    queuePeak := 0, armNotManager := 0 }

/-- A provisional FIRE received over the fabric and not yet decided (08 R160). -/
structure RemoteProv where
  src     : Nat
  sequencer : Nat
  channel : Nat
  seq     : Nat
  time    : Nat
  anchor  : Option Anchor
  /-- The epoch e of the fire time; the deadline is t_{e+2}. -/
  epoch   : Nat
  captured : Nat
  deriving DecidableEq, Repr, Inhabited

structure Geyser where
  seqs     : Vector Seq 16
  stats    : Vector SeqStat 16
  /-- The result of each slot for the view's previous spectrum (07 R129 EDGE). -/
  slotPrev : Vector Bool 256
  excluded : Vector U32 256
  remote   : List RemoteProv
  /-- FIREs retracted locally on timeout: SRC, sequencer, FIRE_SEQ (08 R160). -/
  timedOut : List (Nat × Nat × Nat)
  deriving DecidableEq, Repr

def Geyser.reset : Geyser :=
  { seqs := Vector.replicate 16 Seq.reset, stats := Vector.replicate 16 SeqStat.reset,
    slotPrev := Vector.replicate 256 false, excluded := Vector.replicate 256 0, remote := [], timedOut := [] }

end Sys2Proof.Machine
end

