-- ==== Sys2Proof/Machine/StPlains.lean ====
section
/-! DEFINITION. The Plains array: ready transforms, pipelines, views and their spectra (05). -/

namespace Sys2Proof.Machine

/-- A transform: view, index on the hop grid, the bank that computes it, the DCLK cycle in which it became ready, and the
staged samples of its window (05 R85). `gen` counts the restarts of a zoom source before it. `row` is the second pass of a
four-step transform, whose samples and intermediates stand in near memory (05 R100). -/
structure Xform where
  view    : Fin 64
  j       : Nat
  bank    : Fin 2
  readyAt : Nat
  /-- Its place in the order of dispatch, once dispatched (05 R85). -/
  order   : Nat
  gen     : Nat
  epoch   : Nat
  /-- The feeding stream; on it the index of the first sample, and the range of indices that the window covers; and
  whether an output of a zoom source within it saturated. -/
  stream  : Fin 16
  origin  : Nat
  lo      : Nat
  hi      : Nat
  zsat    : Bool
  data    : List IQ
  row     : Bool
  sat     : Option Nat
  deriving DecidableEq, Repr

/-- A spectrum with its header (05 R103): the bins that leave the array, complex, numbered from BIN_FIRST. -/
structure Spectrum where
  view    : Fin 64
  j       : Nat
  order   : Nat
  gen     : Nat
  start   : Nat
  epoch   : Nat
  bank    : Fin 2
  stream  : Fin 16
  origin  : Nat
  lo      : Nat
  hi      : Nat
  bins    : List IQ
  sat     : Option Nat
  clamp   : Bool
  linkErr : Bool
  overrange  : Bool
  convUnlock : Bool
  zsat    : Bool
  invalid : Bool
  extrapolated : Bool
  rateMismatch : Bool
  fitDegraded  : Bool
  fourStep : Bool
  deriving DecidableEq, Repr, Inhabited

/-- How far a view has been scanned for ready transforms under one bank: the next index, and the source index from
which the bank no longer starts transforms, once a flip has set it (03 R50 step 5). -/
structure Scan where
  bank  : Fin 2
  next  : Nat
  limit : Option Nat
  deriving DecidableEq, Repr

/-- A view. Each consumer takes every spectrum in order (01 R14): the queues hold what each has not yet taken. -/
structure ViewRt where
  scans    : List Scan
  lastBank : Fin 2
  /-- MCLK is or was gated: a four-step view's transforms are not computed until the boundary of the epoch named, once
  the relock has named one (05 R102). -/
  mHold    : Bool
  mResume  : Option Nat
  flags    : Flags 5
  spectra  : U64
  satCount : U32
  skipped  : U32
  maskQ    : List Spectrum
  poolQ    : List Spectrum
  calQ     : List Spectrum
  recQ     : List Spectrum
  deriving DecidableEq, Repr

def ViewRt.reset : ViewRt :=
  { scans := [], lastBank := 0, mHold := false, mResume := none, flags := Flags.reset 5, spectra := 0, satCount := 0, skipped := 0, maskQ := [],
    poolQ := [], calQ := [], recQ := [] }

structure Plains where
  ready    : List Xform
  pipes    : Vector (Option Xform) 96
  views    : Vector ViewRt 64
  /-- Dispatches so far. -/
  dispatched : Nat
  /-- PEAK_BUSY and MAX_WAIT of the running epoch and of the last complete one (05 R87). -/
  peakBusy : Nat
  maxWait  : Nat
  lastPeak : Nat
  lastWait : Nat
  deriving DecidableEq, Repr

def Plains.reset : Plains :=
  { ready := [], pipes := Vector.replicate 96 none, views := Vector.replicate 64 ViewRt.reset, dispatched := 0, peakBusy := 0,
    maxWait := 0, lastPeak := 0, lastWait := 0 }

end Sys2Proof.Machine
end

