-- ==== Sys2Proof/Machine/StPorts.lean ====
section
/-! DEFINITION. Downstream ports with their CXL memory and NVMe drives, near memory (12), the DMA channels and the
hardware event lines (13). -/

namespace Sys2Proof.Machine

/-- A tile of a Basin ring that is read: the ring's stream, the capture it is read for, TILE_SEQ. -/
structure TileRef where
  stream  : Fin 16
  capture : Option U32
  seq     : Nat
  deriving DecidableEq, Repr

/-- Who issued a CXL.mem request (12 R238): the Basin writer of a stream, CAPTURE_READ or ring recovery for a tile of one of
their jobs, or a move of a DMA channel whose burst goes to `dst` in space `space` (13 R257), with the ring tile that it
reads, if it reads one. -/
inductive CxlUser where
  | writer (stream : Fin 16)
  | reader (job key : Nat)
  | dma (channel : Fin 32) (serial space index dst : Nat) (tile : Option TileRef)
  deriving DecidableEq, Repr

/-- An outstanding CXL.mem transfer: window address, bytes, data of a write, credits and time of issue. -/
structure CxlReq where
  user    : CxlUser
  write   : Bool
  addr    : Nat
  len     : Nat
  data    : List Byte
  /-- Credits held: one per 64 bytes, or all of a pool that has fewer (12 R238). -/
  held    : Nat
  issued  : Nat
  deriving DecidableEq, Repr

/-- A downstream port D0-D3 (12 R233, R243). -/
structure Port where
  mode        : Fin 6
  targetRate  : Nat
  linkUp      : Vector Bool 4
  subRate     : Vector Nat 4
  subWidth    : Vector Nat 4
  /-- Volatile capacity that the device on each sub-link declares, in bytes, once mapped (12 R235, R236). -/
  capacity    : Vector Nat 4
  /-- When the link of a sub-link came up, from which Memory_Active is awaited (12 R235). -/
  upAt        : Vector Nat 4
  /-- The firmware has mapped the device on the sub-link (12 R235). -/
  mapped      : Vector Bool 4
  /-- The device on the sub-link lies outside the subset (12 R234, R241). -/
  unsupported : Vector Bool 4
  /-- DS_PRSNT_N is high: no device (22 R429). -/
  absent      : Bool
  /-- DS_PERST_N is released, and when it is to be released (22 R429). -/
  perstOut    : Bool
  perstAt     : Option Nat
  flags       : Flags 5
  reqPeak     : U16
  latMax      : U16
  errors      : U32
  linkDowns   : U32
  requests    : List CxlReq
  deriving DecidableEq, Repr

def Port.reset : Port :=
  { mode := 0, targetRate := 4, linkUp := Vector.replicate 4 false, subRate := Vector.replicate 4 0,
    subWidth := Vector.replicate 4 0, capacity := Vector.replicate 4 0, upAt := Vector.replicate 4 0,
    mapped := Vector.replicate 4 false,
    unsupported := Vector.replicate 4 false, absent := false,
    perstOut := false, perstAt := none, flags := Flags.reset 5, reqPeak := 0, latMax := 0, errors := 0,
    linkDowns := 0, requests := [] }

/-- The drive on a sub-link: what Identify reports of namespace 1, and its contents. -/
structure Drive where
  lbaSize   : Nat
  nsTiles   : Nat
  volatileCache : Bool
  data      : Memory
  deriving DecidableEq, Repr

def Drive.reset : Drive :=
  { lbaSize := 4096, nsTiles := 0, volatileCache := false, data := [] }

/-- Addresses of near memory, `lo` to below `hi`, that were not refreshed and have not been written since: what they hold is
free, by the serial number of the wake-up (12 R251). -/
structure StaleCells where
  lo     : Nat
  hi     : Nat
  serial : Nat
  deriving DecidableEq, Repr

/-- A read of a near-memory port whose repeat failed too, and which the requester has not received yet: the port, the address of
its 64 bytes, the serial number of its data (12 R250). -/
structure FailedRead where
  port   : Nat
  addr   : Nat
  serial : Nat
  deriving DecidableEq, Repr

/-- Near memory (12 R254): the training steps that each channel has passed, refresh code per channel, the segments marked
unallocated after self-refresh, and what reads of them and failed reads give. -/
structure NearMem where
  trained  : BitVec 16
  /-- Steps of the training that a channel has passed, 7 once it is trained (12 R247, R248). -/
  steps    : Vector Nat 16
  refresh  : Vector Nat 16
  pasr     : BitVec 8
  /-- A warm boot finds the stacks in self-refresh, entered from memory that had been trained (21 R409). -/
  held     : Bool
  unallocated : BitVec 8
  stale    : List StaleCells
  failing  : List FailedRead
  flags    : Flags 4
  retries  : U32
  fails    : U32
  failAddr : U64
  data     : Memory
  deriving DecidableEq, Repr

def NearMem.reset : NearMem :=
  { trained := 0, steps := Vector.replicate 16 0, refresh := Vector.replicate 16 0, pasr := 0, held := false, unallocated := 0, stale := [],
    failing := [], flags := Flags.reset 4, retries := 0,
    fails := 0, failAddr := 0, data := [] }

/-- Channel states, in the encoding of DMA_STATUS (13 R274). -/
inductive DmaState where
  | stopped | running | waiting | pausing | paused | errorAlign | errorBeat | errorTail
  deriving DecidableEq, Repr, Inhabited

/-- Why a channel waits, in the encoding of WAIT_REASON (13 R274). -/
inductive WaitReason where
  | none | event | capture | request | budget
  deriving DecidableEq, Repr, Inhabited

/-- The capture that a MOVE from CAPTURE has taken: ring, slot, CAPTURE_ID, and tiles still to be moved (TILE_SEQ). -/
structure CapMove where
  stream : Fin 16
  slot   : Fin 64
  id     : U32
  left   : List Nat
  cut    : Bool
  deriving DecidableEq, Repr

/-- A move of a channel that is not complete (13 R258): its number among the channel's moves, the descriptor with its
place, the capture it reads, whether its last read has been issued, transfers outstanding, whether an ARCHIVE move's
index tile has been written, and whether an error or a stop has ended the move, which then only drains (13 R270, R273). -/
structure OpenMove where
  serial    : Nat
  num       : Nat
  desc      : Nat
  capture   : Option CapMove
  issuedAll : Bool
  waiting   : Nat
  indexed   : Bool
  dead      : Bool
  deriving DecidableEq, Repr

/-- Data for a host whose link is down: the move's serial number, host port, address (13 R258). -/
structure UnsentWrite where
  serial : Nat
  port   : PortId
  dst    : Nat
  data   : List Byte
  deriving DecidableEq, Repr

/-- The latest burst of a move that reads a host: the move's serial number, descriptor, destination address in near memory,
bytes. -/
structure HostBurst where
  serial : Nat
  num : Nat
  dst : Nat
  len : Nat
  deriving DecidableEq, Repr

/-- A DMA channel. -/
structure DmaCh where
  state     : DmaState
  reason    : WaitReason
  resume    : WaitReason
  stopping  : Bool
  pc        : Nat
  src       : Nat
  dst       : Nat
  count     : Nat
  /-- The moves that are not complete, oldest first; only the last can still have reads to issue. -/
  moves     : List OpenMove
  serial    : Nat
  lastHost  : Option HostBurst
  /-- Tiles of UDP moves that wait for their datagram, with the destination. -/
  udpTiles  : List (Fin 8 × List Byte)
  /-- Writes that wait for their host's link. -/
  unsent    : List UnsentWrite
  loops     : List (Nat × Nat)
  errDesc   : Nat
  errDst    : Nat
  moved     : U64
  withdrawn : U32
  badCrc    : U16
  overrun   : U16
  flags     : Flags 7
  program   : List Nat
  loaded    : Bool
  partialProg : List Nat
  /-- Pending pulses of each line that the program waits on (13 R264). -/
  pendingPulses : List (Nat × Nat)
  nearUsed  : Nat
  cxlUsed   : Vector Nat 4
  /-- The captures offered to the channel and not yet moved, in order: ring and CAPTURE_ID (13 R260). -/
  capQ      : List (Fin 16 × U32)
  deriving DecidableEq, Repr

def DmaCh.reset : DmaCh :=
  { state := .stopped, reason := .none, resume := .none, stopping := false, pc := 0, src := 0, dst := 0, count := 0,
    moves := [], serial := 0, lastHost := none, udpTiles := [], unsent := [], loops := [], errDesc := 0, errDst := 0, moved := 0, withdrawn := 0, badCrc := 0,
    overrun := 0, flags := Flags.reset 7, program := [], loaded := false, partialProg := [], pendingPulses := [],
    nearUsed := 0, cxlUsed := Vector.replicate 4 0, capQ := [] }

/-- The downstream side. `cxl` holds the CXL devices' memories, two to a port, by sub-link (12 R233, R236). `crossings` holds, per line and consumer, the pulses that are in their crossing (01 R18). -/
structure Downstream where
  ports     : Vector Port 4
  cxl       : Vector Memory 8
  drives    : Vector Drive 16
  near      : NearMem
  dma       : Vector DmaCh 32
  crossings : List ((Nat × Consumer) × Nat)
  /-- Pulse-merge counters: the counting-pulse rows of 01 R19, and the lines (19 R383 class 1). -/
  rowMerges : Vector U32 6
  lineMerges : Vector U32 128
  deriving DecidableEq, Repr

def Downstream.reset : Downstream :=
  { ports := Vector.replicate 4 Port.reset, cxl := Vector.replicate 8 [], drives := Vector.replicate 16 Drive.reset,
    near := NearMem.reset, dma := Vector.replicate 32 DmaCh.reset, crossings := [],
    rowMerges := Vector.replicate 6 0, lineMerges := Vector.replicate 128 0 }

end Sys2Proof.Machine
end

