-- ==== Sys2Proof/Machine/StTime.lean ====
section
/-! DEFINITION. Station time, the two PTP domains, PPS_IN, the transparent clock and the time starts (14 R275 to R293),
and the parameters of CD11 and the other parameters with their pending values (19 R384 to R388). -/

namespace Sys2Proof.Machine

/-- portState of IEEE 1588-2019, in its enumeration. -/
inductive PortState where
  | initializing | faulty | disabled | listening | preMaster | master | passive | uncalibrated | slave
  deriving DecidableEq, Repr, Inhabited

/-- A received two-step Sync that awaits its Follow_Up: sequence number, receive stamp, correction. -/
structure SyncWait where
  seq  : Nat
  rx   : Int
  corr : Int
  deriving DecidableEq, Repr

/-- A foreign master: its port identity, the dataset it announced last, and when its last two Announces came (IEEE 1588-2019). -/
structure Foreign where
  source : Nat
  gm     : GmData
  seen   : List Nat
  deriving DecidableEq, Repr

/-- One PTP domain: its settings (R279) and its port instance. Times and offsets are in 2^-16 ns. -/
structure PtpDomain where
  number        : Nat
  port          : Nat
  transport     : Nat
  masterCapable : Bool
  priority1     : Nat
  priority2     : Nat
  logSync       : Int
  logDelayReq   : Int
  logAnnounce   : Int
  vlan          : Nat
  portState     : PortState
  ok            : Bool
  lost          : Bool
  gm            : Option GmData
  /-- The port identity of the master that the BMCA has selected, and the foreign masters heard (14 R279). -/
  parent        : Option Nat
  foreign       : List Foreign
  offset        : Int
  meanPathDelay : Int
  /-- Sync messages in a row with the offset below LOCK_THRESHOLD. -/
  good          : Nat
  okSince       : Nat
  lastSync      : Nat
  lastAnnounce  : Nat
  syncWait      : Option SyncWait
  /-- The last completed Sync: t1 with correction, and t2. -/
  t1            : Option Int
  t2            : Int
  /-- The Delay_Req sent and not yet answered: sequence and transmit stamp. -/
  delayReq      : Option (Nat × Int)
  txSeq         : Nat
  deriving DecidableEq, Repr

/-- A domain at reset: portState 1, unconfigured settings as the log names them (log entry 5: PRESUMED). -/
def PtpDomain.reset (number port : Nat) : PtpDomain :=
  { number := number, port := port, transport := 0, masterCapable := false, priority1 := 128, priority2 := 128,
    logSync := 0, logDelayReq := 0, logAnnounce := 1, vlan := 0, portState := .initializing, ok := false,
    lost := false, gm := none, parent := none, foreign := [], offset := 0, meanPathDelay := 0, good := 0, okSince := 0, lastSync := 0,
    lastAnnounce := 0, syncWait := none, t1 := none, t2 := 0, delayReq := none, txSeq := 0 }

/-- The sources of station time, in the encoding of TIME_STATUS (R293). -/
inductive TimeSource where
  | none | domainA | domainB | pps
  deriving DecidableEq, Repr, Inhabited

/-- A time start TS0-TS7 (R290). -/
structure TimeStart where
  armed  : Bool
  start  : Nat
  period : Nat
  target : Nat
  mask   : BitVec 8
  /-- Firings so far. -/
  fired  : Nat
  deriving DecidableEq, Repr

def TimeStart.reset : TimeStart :=
  { armed := false, start := 0, period := 0, target := 0, mask := 0, fired := 0 }

/-- The parameters of 19 R388. -/
structure Params where
  streamOffset  : Vector Nat 16
  syncDelay     : Nat
  syncForward   : Bool
  testPattern   : Vector Nat 2
  epochPeriod   : Nat
  /-- EPOCH_ORIGIN in microseconds. -/
  epochOrigin   : Nat
  recordInterval : Nat
  servoBw       : Nat
  lockThreshold : Nat
  classMax      : Nat
  stepThreshold : Nat
  ppsOffset     : Int
  rxLatency     : Vector Nat 2
  txLatency     : Vector Nat 2
  rsFec         : Vector Bool 2
  tunnelTimeout : Nat
  /-- TIME_RECORD_INTERVAL as it will be, and the boundary at which it applies (19 R386). -/
  intervalPending : Option (Nat × Nat)
  /-- A test pattern waiting for the output's frame start, and whether one frame start passes before it, since the window was
  closed at the decision (19 R386). -/
  patternPending  : Vector (Option (Nat × Bool)) 2
  deriving DecidableEq, Repr

def Params.reset : Params :=
  { streamOffset := Vector.replicate 16 0, syncDelay := 100, syncForward := false, testPattern := Vector.replicate 2 0,
    epochPeriod := 1000, epochOrigin := 0, recordInterval := 10, servoBw := 100, lockThreshold := 100, classMax := 7,
    stepThreshold := 1000, ppsOffset := 0, rxLatency := Vector.replicate 2 0, txLatency := Vector.replicate 2 0,
    rsFec := Vector.replicate 2 false, tunnelTimeout := 10000, intervalPending := none,
    patternPending := Vector.replicate 2 none }

/-- The timebase and its sources. -/
structure Time where
  /-- Station time in units of 2^-40 ns (R276). -/
  raw        : Nat
  /-- TCLK edges counted since reset: the 2 ns grid of hold-offs and of loss detection (R276, 16 R327). -/
  tclk       : Nat
  /-- Nanoseconds since power-up by the timebase's edges, which no adjustment and no step moves: 2 for a TCLK edge, 10 for a TREF edge
  and 5 for one of the oscillator (15 R306, 21 R418). -/
  elapsed    : Nat
  /-- FREQ_ADJ: what each TCLK adds beyond the nominal increment, in units of 2^-40 ns. -/
  freqAdj    : Int
  valid      : Bool
  source     : TimeSource
  /-- Some source has governed since reset (R283 step 4). -/
  governed   : Bool
  holdover   : Bool
  /-- The residual still to be slewed out, in 2^-40 ns (positive: station time is ahead); none when no slew runs, 0
  when one has ended and its SLEW_END is due. -/
  slew       : Option Int
  /-- The governing source has changed, and the residual that it measures is not yet within LOCK_THRESHOLD (R284). -/
  slewFresh  : Bool
  slewing    : Bool
  order      : Nat
  revertive  : Bool
  revertHoldS : Nat
  force      : TimeSource
  domains    : Vector PtpDomain 2
  abOffset   : Int
  /-- The link clock of the last measurement of the A-B offset, while both domains are in SLAVE state (R282). -/
  abAt       : Option Nat
  ppsOk      : Bool
  ppsRun     : Nat
  ppsMissing : Nat
  lastPps    : Option Nat
  tcEnable   : Bool
  flags      : Flags 7
  tcDropped  : U16
  switches   : U32
  ppsRejects : U32
  ptpIgnored : Vector U32 2
  starts     : Vector TimeStart 8
  /-- TIME_SET with AT_PPS waiting for the edge: the value to apply. -/
  setAtPps   : Option Nat
  /-- When TIME_RECORD_INTERVAL began to run last (R291). -/
  lastRecord : Nat
  ethUp      : Vector Bool 2
  deriving DecidableEq, Repr

/-- The timebase at reset (R276, R279, R283, R293). -/
def Time.reset : Time :=
  { raw := 0, tclk := 0, elapsed := 0, freqAdj := 0, valid := false, source := .none, governed := false, holdover := false, slew := none,
    slewFresh := false,
    slewing := false, order := 0, revertive := true, revertHoldS := 60, force := .none,
    domains := #v[PtpDomain.reset 0 0, PtpDomain.reset 1 1], abOffset := 0, abAt := none, ppsOk := false, ppsRun := 0,
    ppsMissing := 0, lastPps := none, tcEnable := true, flags := Flags.reset 7, tcDropped := 0, switches := 0,
    ppsRejects := 0, ptpIgnored := Vector.replicate 2 0, starts := Vector.replicate 8 TimeStart.reset,
    setAtPps := none, lastRecord := 0, ethUp := Vector.replicate 2 false }

end Sys2Proof.Machine
end

