-- ==== Sys2Proof/Machine/StVent.lean ====
section
/-! DEFINITION. The housekeeping converters Vent A and Vent B (17). -/

namespace Sys2Proof.Machine

/-- A sequence entry (17 R341). -/
structure HkEntry where
  input : Nat
  joint : Bool
  avg   : Nat
  shift : Nat
  deriving DecidableEq, Repr, Inhabited

/-- The sum of an entry in progress on one converter, with what its conversions met (17 R340, R346). -/
structure HkSum where
  done       : Nat
  sum        : Nat
  ovr        : Bool
  recovering : Bool
  deriving DecidableEq, Repr, Inhabited

/-- A completed record entry (17 R347, 11 R222). -/
structure HkOut where
  input      : Nat
  ventB      : Bool
  ovr        : Bool
  recovering : Bool
  plaus      : Bool
  value      : Nat
  deriving DecidableEq, Repr, Inhabited

/-- A running sequence: its entries as it began, the entry in progress, its sums (the second of Vent B in a JOINT entry), the entries completed,
the station time of its start, and whether its first conversion has begun sampling. -/
structure HkRun where
  entries : List HkEntry
  entry  : Nat
  sumA   : HkSum
  sumB   : HkSum
  outs   : List HkOut
  start  : Nat
  begun  : Bool
  deriving DecidableEq, Repr, Inhabited

structure Vent where
  enabled   : Bool
  entries   : List HkEntry
  run       : Option HkRun
  latched   : Bool
  /-- Starts under way to the converter: from time starts, its event line, HK_START (17 R342). -/
  starts    : Vector Nat 3
  /-- The input of an over-range conversion after which 192 HCLK must pass before another input (17 R346). -/
  ovrInput  : Option Nat
  /-- Conversions still to carry RECOVERING. -/
  marks     : Nat
  /-- The pending host urgent read and its sum (17 R344). -/
  urgent    : Option (HkEntry × HkSum)
  flags     : Flags 3
  sequences : U64
  trigLost  : U32
  aborts    : U32
  deriving DecidableEq, Repr

def Vent.reset : Vent :=
  { enabled := false, entries := [], run := none, latched := false, starts := Vector.replicate 3 0, ovrInput := none, marks := 0,
    urgent := none, flags := Flags.reset 3, sequences := 0, trigLost := 0, aborts := 0 }

structure Vents where
  units      : Vector Vent 2
  plausInput : Nat
  plausTol   : Nat
  /-- The inputs of a thermal check that waits for a host urgent read of Vent A to end (17 R344). -/
  thermal    : Option (Vector Int 4)
  deriving DecidableEq, Repr

def Vents.reset : Vents := { units := Vector.replicate 2 Vent.reset, plausInput := 0, plausTol := 0, thermal := none }

end Sys2Proof.Machine
end

