-- ==== Sys2Proof/Machine/StZoom.lean ====
section
/-! DEFINITION. The Terrace zoom channels and Pool (06). -/

namespace Sys2Proof.Machine

/-- Zoom channel states, in the encoding of ZOOM_STATUS (06 R117). -/
inductive ZoomState where
  | stopped | filling | running
  deriving DecidableEq, Repr, Inhabited

/-- An output sample beyond its value: its response span [lo, hi] of source indices, from which the marks follow, and
ZSAT (06 R110, R111). `gen` counts the channel's restarts. -/
structure ZMark where
  gen  : Nat
  m    : Nat
  lo   : Nat
  hi   : Nat
  zsat : Bool
  deriving DecidableEq, Repr, Inhabited

/-- A comb: its history of the last K values of both components, oldest first (06 R108). -/
structure Comb where
  hist : List (Nat × Nat)
  deriving DecidableEq, Repr, Inhabited

/-- The output grid of a channel between two restarts: the restart's number, s0, D, and the outputs formed when the next
restart came. -/
structure ZGrid where
  gen  : Nat
  s0   : Nat
  d    : Nat
  outs : Nat
  deriving DecidableEq, Repr, Inhabited

/-- A zoom channel: settings in use, position, cascade registers modulo 2^98, and outputs. -/
structure ZoomRt where
  state      : ZoomState
  hostLoaded : Bool
  cfg        : TerraceE
  s0         : Nat
  /-- Outputs formed since s0. -/
  m          : Nat
  gen        : Nat
  /-- The grids of its restarts on its present source stream, newest first. -/
  grids      : List ZGrid
  integI     : List Nat
  integQ     : List Nat
  combs      : List Comb
  segs       : List Seg
  marks      : List ZMark
  flags      : Flags 4
  zsatCount  : U32
  /-- The s0 of a SYNC that has come and that the source has not reached (06 R115). -/
  syncAt     : Option Nat
  /-- Started, and no sample has reached it yet: s0 is the next sample that its source delivers. -/
  waiting    : Bool
  deriving DecidableEq, Repr

def ZoomRt.reset : ZoomRt :=
  { state := .stopped, hostLoaded := false, cfg := default, s0 := 0, m := 0, gen := 0, grids := [],
    integI := [], integQ := [], combs := [], segs := [], marks := [], flags := Flags.reset 4, zsatCount := 0,
    syncAt := none, waiting := false }

structure Terrace where
  channels : Vector ZoomRt 32
  /-- The t_s of the one pending SYNC (06 R116), in 2^-16 ns. -/
  sync     : Option Nat
  deriving DecidableEq, Repr

def Terrace.reset : Terrace := { channels := Vector.replicate 32 ZoomRt.reset, sync := none }

/-- A Pool entry (06 R119). -/
structure PoolBin where
  s1  : BitVec 48
  s2  : BitVec 48
  occ : BitVec 31
  tag : Bool
  deriving DecidableEq, Repr, Inhabited

/-- A bin as the finisher has closed it (06 R124, R125): SK as a binary32 word. -/
structure FinBin where
  s1   : Nat
  s2   : Nat
  occ  : Nat
  sk   : Nat
  mask : Bool
  deriving DecidableEq, Repr, Inhabited

/-- A spectrum that a period has accumulated: its window on the stream, for the marks that arrive later (06 R127). -/
structure Taken where
  stream : Fin 16
  lo     : Nat
  hi     : Nat
  deriving DecidableEq, Repr, Inhabited

/-- An integration period of a view (06 R120, R128). -/
structure Period where
  first    : Nat
  last     : Nat
  bank     : Fin 2
  m        : Nat
  clamped  : Nat
  excluded : Nat
  late     : Nat
  taken    : List Taken
  deriving DecidableEq, Repr, Inhabited

/-- Pool's state for a view: the open period, its front entries (spilled ones stand in near memory), the closed periods that
await their records, the first epoch of the latest closed period, and LATE spectra since the last record. -/
structure PoolRt where
  period : Option Period
  tag    : Bool
  bins   : List PoolBin
  closed : List (Period × List FinBin)
  closedTo : Option Nat
  late   : Nat
  deriving DecidableEq, Repr

def PoolRt.reset : PoolRt := { period := none, tag := false, bins := [], closed := [], closedTo := none, late := 0 }

end Sys2Proof.Machine
end

