-- ==== Sys2Proof/Machine/State.lean ====
section
/-! DEFINITION. The machine's state: the queue of waiting commands, and one part per chapter of the manual. -/

namespace Sys2Proof.Machine

/-- The state. `pending` is the queue of waiting commands, first in, first out; `free` counts the free values drawn
(log entry 1: DESIGN CHOICE); `out` is the trail of what left the part, newest first (log entry 3: DESIGN CHOICE). -/
structure State where
  pending : List Instr
  free    : Nat
  out     : List Out
  dev     : Dev
  ports   : Vector HostPort 2
  host    : HostShared
  plans   : Plans
  params  : Params
  time    : Time
  records : Records
  lanes   : Lanes
  plains  : Plains
  terrace : Terrace
  pool    : Vector PoolRt 64
  geyser  : Geyser
  basin   : Basin
  caldera : Caldera
  down    : Downstream
  evt     : Evt
  fabric  : Fabric
  vent    : Vents
  /-- The memories of the two hosts, as the part writes them. -/
  hostMem : Vector Memory 2
  deriving DecidableEq, Repr

/-- Why a step can fault. No command of this part stops the machine: every misuse has an outcome that the manual
states, and what the manual leaves open is a free value. -/
inductive Fault where
  /-- Raised by no command; the type must have a name for the host's interface (safe). -/
  | none
  deriving DecidableEq, Repr

/-- Why a step can refuse a command. -/
inductive Refusal where
  /-- A command that has no meaning yet, by its mnemonic; raised by an arm of `exec` only (safe). -/
  | notModelled (mnemonic : String)
  deriving DecidableEq, Repr

/-- The machine right after reset: PORST_N has been released and boot step 1 runs (21 R408, R413); no command waits. -/
def State.reset : State :=
  { pending := [], free := 0, out := [], dev := Dev.reset, ports := Vector.replicate 2 HostPort.reset,
    host := HostShared.reset, plans := Plans.reset, params := Params.reset, time := Time.reset,
    records := Records.reset, lanes := Lanes.reset, plains := Plains.reset, terrace := Terrace.reset,
    pool := Vector.replicate 64 PoolRt.reset, geyser := Geyser.reset, basin := Basin.reset,
    caldera := Caldera.reset, down := Downstream.reset, evt := Evt.reset, fabric := Fabric.reset,
    vent := Vents.reset, hostMem := Vector.replicate 2 [] }

end Sys2Proof.Machine
end

