-- ==== Sys2Proof/Machine/Ops.lean ====
section
/-! DEFINITION. The named operations that every chapter uses: one unit of a bank changed, station time and epochs,
plans in force, free values, event ring and MSI-X. -/

namespace Sys2Proof.Machine

/-! One unit of a bank changed. -/

def State.modPort (s : State) (p : PortId) (f : HostPort → HostPort) : State := { s with ports := vmod s.ports p f }
def State.modBank (s : State) (b : Fin 2) (f : Bank → Bank) : State :=
  { s with plans := { s.plans with banks := vmod s.plans.banks b f } }
def State.modBound (s : State) (i : Fin 16) (f : Boundary → Boundary) : State :=
  { s with plans := { s.plans with bounds := vmod s.plans.bounds i f } }
def State.modPath (s : State) (i : Fin 25) (f : RecPath → RecPath) : State :=
  { s with records := { s.records with paths := vmod s.records.paths i f } }
def State.modRecRing (s : State) (i : Fin 16) (f : Ring → Ring) : State :=
  { s with records := { s.records with rings := vmod s.records.rings i f } }
def State.modUdp (s : State) (i : Fin 8) (f : UdpDest → UdpDest) : State :=
  { s with records := { s.records with udp := vmod s.records.udp i f } }
def State.modLane (s : State) (i : Fin 32) (f : Lane → Lane) : State :=
  { s with lanes := { s.lanes with lanes := vmod s.lanes.lanes i f } }
def State.modRx (s : State) (i : Fin 32) (f : LaneRx → LaneRx) : State :=
  { s with lanes := { s.lanes with rx := vmod s.lanes.rx i f } }
def State.modStream (s : State) (i : Fin 16) (f : StreamRt → StreamRt) : State :=
  { s with lanes := { s.lanes with streams := vmod s.lanes.streams i f } }
def State.modView (s : State) (i : Fin 64) (f : ViewRt → ViewRt) : State :=
  { s with plains := { s.plains with views := vmod s.plains.views i f } }
def State.modZoom (s : State) (i : Fin 32) (f : ZoomRt → ZoomRt) : State :=
  { s with terrace := { s.terrace with channels := vmod s.terrace.channels i f } }
def State.modPool (s : State) (i : Fin 64) (f : PoolRt → PoolRt) : State := { s with pool := vmod s.pool i f }
def State.modSeq (s : State) (i : Fin 16) (f : Seq → Seq) : State :=
  { s with geyser := { s.geyser with seqs := vmod s.geyser.seqs i f } }
def State.modStat (s : State) (i : Fin 16) (f : SeqStat → SeqStat) : State :=
  { s with geyser := { s.geyser with stats := vmod s.geyser.stats i f } }
def State.modBasin (s : State) (i : Fin 16) (f : BasinRt → BasinRt) : State :=
  { s with basin := { s.basin with streams := vmod s.basin.streams i f } }
def State.modArchive (s : State) (i : Fin 16) (f : ArchiveRt → ArchiveRt) : State :=
  { s with basin := { s.basin with archives := vmod s.basin.archives i f } }
def State.modPlane (s : State) (i : Fin 2) (f : PlaneRt → PlaneRt) : State :=
  { s with caldera := { s.caldera with planes := vmod s.caldera.planes i f } }
def State.modOutput (s : State) (i : Fin 2) (f : OutputRt → OutputRt) : State :=
  { s with caldera := { s.caldera with outputs := vmod s.caldera.outputs i f } }
def State.modDown (s : State) (i : Fin 4) (f : Port → Port) : State :=
  { s with down := { s.down with ports := vmod s.down.ports i f } }
def State.modCxl (s : State) (i : Fin 8) (f : Memory → Memory) : State :=
  { s with down := { s.down with cxl := vmod s.down.cxl i f } }
def State.modDrive (s : State) (i : Fin 16) (f : Drive → Drive) : State :=
  { s with down := { s.down with drives := vmod s.down.drives i f } }
def State.modNear (s : State) (f : NearMem → NearMem) : State :=
  { s with down := { s.down with near := f s.down.near } }
def State.modDma (s : State) (i : Fin 32) (f : DmaCh → DmaCh) : State :=
  { s with down := { s.down with dma := vmod s.down.dma i f } }
def State.modIn (s : State) (i : Fin 16) (f : EvtIn → EvtIn) : State :=
  { s with evt := { s.evt with inputs := vmod s.evt.inputs i f } }
def State.modFco (s : State) (i : Fin 8) (f : Fco → Fco) : State :=
  { s with evt := { s.evt with outputs := vmod s.evt.outputs i f } }
def State.modFabLane (s : State) (i : Fin 12) (f : FabLane → FabLane) : State :=
  { s with fabric := { s.fabric with lanes := vmod s.fabric.lanes i f } }
def State.modNode (s : State) (i : Fin 64) (f : NodeRt → NodeRt) : State :=
  { s with fabric := { s.fabric with nodes := vmod s.fabric.nodes i f } }
def State.modVent (s : State) (i : Fin 2) (f : Vent → Vent) : State :=
  { s with vent := { s.vent with units := vmod s.vent.units i f } }
def State.modDomain (s : State) (i : Fin 2) (f : PtpDomain → PtpDomain) : State :=
  { s with time := { s.time with domains := vmod s.time.domains i f } }
def State.modHostMem (s : State) (p : PortId) (f : Memory → Memory) : State :=
  { s with hostMem := vmod s.hostMem p f }

def State.port (s : State) (p : PortId) : HostPort := vget s.ports p
def State.bank (s : State) (b : Fin 2) : Bank := vget s.plans.banks b
def State.stream (s : State) (i : Fin 16) : StreamRt := vget s.lanes.streams i
def State.lane (s : State) (i : Fin 32) : Lane := vget s.lanes.lanes i
def State.rx (s : State) (i : Fin 32) : LaneRx := vget s.lanes.rx i
def State.view (s : State) (i : Fin 64) : ViewRt := vget s.plains.views i
def State.zoom (s : State) (i : Fin 32) : ZoomRt := vget s.terrace.channels i
def State.seqr (s : State) (i : Fin 16) : Seq := vget s.geyser.seqs i
def State.basinOf (s : State) (i : Fin 16) : BasinRt := vget s.basin.streams i
def State.dma (s : State) (i : Fin 32) : DmaCh := vget s.down.dma i
def State.bound (s : State) (i : Fin 16) : Boundary := vget s.plans.bounds i

/-! Free values and the trail of outputs. -/

/-- A free value, one per drawing (log entry 1: DESIGN CHOICE). -/
def fresh (s : State) : U64 × State := (Config.freeValue s.free, { s with free := s.free + 1 })

/-- A serial number for values that are free together (log entry 1: DESIGN CHOICE). -/
def freshSerial (s : State) : Nat × State := (s.free, { s with free := s.free + 1 })

/-- Something leaves the part (log entry 3: DESIGN CHOICE). -/
def emitOut (o : Out) (s : State) : State := { s with out := o :: s.out }

/-! Near memory as its ports see it (12 R244, R250, R251). -/

/-- The channel of a near-memory address, and the address on it (12 R244). -/
def nearChannel (a : Nat) : Nat := a / 256 % 16
def nearChannelAddr (a : Nat) : Nat := a / 4096 * 256 + a % 256

/-- A byte as a port reads it: free where the read fails twice, and where the cell was not refreshed and nothing has written it
since. -/
def NearMem.byte (n : NearMem) (port a : Nat) : Byte :=
  match n.failing.find? fun f => f.port = port && f.addr = a / 64 * 64 with
  | some f => Config.cellByte f.serial a
  | none =>
    match n.stale.find? fun r => decide (r.lo ≤ a ∧ a < r.hi) with
    | some r => Config.cellByte r.serial a
    | none => memGet n.data a

/-- Near memory as a port reads `len` bytes of it from an address on. -/
def nearFor (s : State) (port a len : Nat) : Memory :=
  let n := s.down.near
  if n.unallocated = 0 && n.failing.isEmpty then n.data
  else cellsOf a ((List.range len).map fun k => n.byte port (a + k))

/-- Bytes that a port reads. -/
def nearBytes (s : State) (port a len : Nat) : List Byte := memRead (nearFor s port a len) a len

/-- A read that a port has received holds a failed one. -/
def nearFailed (s : State) (port a len : Nat) : Bool :=
  s.down.near.failing.any fun f => f.port = port && decide (f.addr < a + len ∧ a < f.addr + 64)

/-- The port has received the bytes: failed reads among them are over. -/
def nearTaken (port a len : Nat) (s : State) : State :=
  s.modNear fun n => { n with failing := n.failing.filter fun f => !(f.port = port && decide (f.addr < a + len ∧ a < f.addr + 64)) }

/-- What is left of stale cells when `lo` to below `hi` has been written. -/
def StaleCells.without (r : StaleCells) (lo hi : Nat) : List StaleCells :=
  [{ r with hi := min r.hi lo }, { r with lo := max r.lo hi }].filter fun x => decide (x.lo < x.hi)

/-- Bytes are written to near memory. -/
def nearPut (a : Nat) (bs : List Byte) (s : State) : State :=
  s.modNear fun n => { n with data := memWrite n.data a bs, stale := n.stale.flatMap fun r => r.without a (a + bs.length) }

/-! What DMA moves have read and not yet delivered (13 R258, R270). -/

/-- A move changes. -/
def DmaCh.modMove (d : DmaCh) (serial : Nat) (f : OpenMove → OpenMove) : DmaCh :=
  { d with moves := d.moves.map fun m => if m.serial = serial then f m else m }

/-- A move that an error or a stop has ended is gone once its reads have drained (13 R270). -/
def DmaCh.settle (d : DmaCh) : DmaCh := { d with moves := d.moves.filter fun m => !(m.dead && m.waiting = 0) }

/-- What a move has read has reached its destination. -/
def DmaCh.beatWritten (d : DmaCh) (serial : Nat) : DmaCh :=
  (d.modMove serial fun m => { m with waiting := m.waiting - 1 }).settle

/-- The writes of a channel that wait for a host's link are issued (13 R258). -/
def sendWaiting (p : PortId) (c : Fin 32) (s : State) : State :=
  let ws := (s.dma c).unsent.filter (·.port = p)
  let s := ws.foldl (fun s w => s.modHostMem p fun m => memWrite m w.dst w.data) s
  s.modDma c fun d => ws.foldl (fun d w => d.beatWritten w.serial) { d with unsent := d.unsent.filter (·.port ≠ p) }

/-! Station time, epochs and plans in force. -/

/-- Station time in 2^-16 ns (14 R275, R276). -/
def now (s : State) : Nat := s.time.raw / 2 ^ 24

/-- A time in DCLK cycles, 1.5 per ns. -/
def dclkOf (t : Nat) : Nat := t * 3 / (2 * Config.nsUnits)

/-- EPOCH_PERIOD and EPOCH_ORIGIN in 2^-16 ns. -/
def period (s : State) : Nat := s.params.epochPeriod * Config.usUnits
def origin (s : State) : Nat := s.params.epochOrigin * Config.usUnits

/-- t_k = O + k x P (03 R43). -/
def boundaryTime (s : State) (k : Nat) : Nat := origin s + k * period s

/-- The epoch of a station time, none before EPOCH_ORIGIN (03 R43). -/
def epochAt (s : State) (t : Nat) : Option Nat :=
  if t < origin s ∨ period s = 0 then none else some ((t - origin s) / period s)

/-- An epoch index as records carry it: all ones before EPOCH_ORIGIN (03 R43). -/
def epochNum : Option Nat → Nat
  | some k => k
  | none => Config.noEpoch

/-- L = ceil(1 ms / P), the commit period in epochs (03 R52). -/
def commitPeriod (s : State) : Nat := ceilDiv Config.msUnits (period s)

/-- The bank that is active for an epoch: that of the latest flip at or before it (03 R49). -/
def bankFor (s : State) (k : Nat) : Option (Fin 2) :=
  (s.plans.flips.find? (fun f => decide (f.1 ≤ k))).map (·.2)

/-- The plan of a bank. -/
def planIn (s : State) (b : Fin 2) : Plan := (s.bank b).plan

/-- The ACTIVE bank, if any (03 R38). -/
def activeBank (s : State) : Option (Fin 2) :=
  if (s.bank 0).state = .active then some 0 else if (s.bank 1).state = .active then some 1 else none

/-- The plan that drives the engines now: the bank of the current epoch's latest flip; none before the first. -/
def bankNow (s : State) : Option (Fin 2) := s.plans.flips.head?.map (·.2)

/-- The running plan, or the empty one. -/
def planNow (s : State) : Plan := ((bankNow s).map (planIn s)).getD default

def Plan.stream (p : Plan) (i : Nat) : StreamE := p.streams.getD i default
def Plan.view (p : Plan) (i : Nat) : ViewE := p.views.getD i default
def Plan.zoom (p : Plan) (i : Nat) : TerraceE := p.terrace.getD i default
def Plan.poolOf (p : Plan) (i : Nat) : PoolE := p.pool.getD i default
def Plan.mask (p : Plan) (i : Nat) : MaskE := p.masks.getD i default
def Plan.region (p : Plan) (i : Nat) : RegionE := p.regions.getD i default
def Plan.seqOf (p : Plan) (i : Nat) : GeyserE := p.geyser.getD i default
def Plan.planeOf (p : Plan) (i : Nat) : CalderaE := p.caldera.getD i default
def Plan.ringOf (p : Plan) (i : Nat) : BasinE := p.basin.getD i default
def Plan.dmaOf (p : Plan) (i : Nat) : DmaE := p.dma.getD i default

/-- The first and the one-past-last lane of a stream's bundle (04 R72). -/
def StreamE.lanesOf (e : StreamE) : List (Fin 32) :=
  (List.range (2 ^ e.log2Lanes)).filterMap (fun i => unit 32 (e.firstLane + i))

/-- The running plan holds a bank in use: ACTIVE, PENDING or DRAINING (03 R42, R45). -/
def anyBankBusy (s : State) : Bool :=
  [0, 1].any fun b =>
    (s.bank b).state = .active || (s.bank b).state = .pending || (s.bank b).state = .draining

/-- The node's number in records and messages: 0 while the role is OFF (16 R315). -/
def nodeId (s : State) : Nat := if s.fabric.role = .worker then s.fabric.node else 0

/-- The engines run: READY or WATCHDOG, but not during the full boot that a bad firmware copy starts (21 R415,
R416). -/
def engines (s : State) : Bool := s.dev.state = .ready || (s.dev.state = .watchdog && s.dev.bootStep = 0)

/-- A PLL is locked (21 R418). -/
def locked (s : State) (p : Fin 7) : Bool := (vget s.dev.plls p).locked

/-- The data plane's clock runs: the engines run and PLL_D is locked (21 R418). -/
def dclk (s : State) : Bool := engines s && locked s 0

/-- The firmware decides: its cores run it (21 R416, R417). -/
def firmware (s : State) : Bool := s.dev.fwRunning

/-! MSI-X and the event ring (18 R367 to R370). -/

def HostFlag.bitOf : HostFlag → Fin 8
  | .doorbellReject => 0
  | .slotBusyWrite => 1
  | .semForeignWrite => 2
  | .evOverflow => 3
  | .unmapped => 4
  | .consumedForeign => 5
  | .semForcedRelease => 6
  | .tailInvalid => 7

def raiseHost (p : PortId) (f : HostFlag) (s : State) : State :=
  s.modPort p fun h => { h with flags := h.flags.raise f.bitOf }

/-- Sends a vector's message, or holds it pending while the vector or the function is masked (18 R370). -/
def sendMsix (p : PortId) (v : Fin 32) (s : State) : State :=
  let h := s.port p
  if !h.linkUp || !h.msixEnable then s
  else if h.funcMask || bit 0 (vget h.msix v).ctrl.toNat then
    s.modPort p fun h => { h with pba := h.pba ||| BitVec.ofNat 32 (2 ^ v.val) }
  else emitOut (.msix p v) s

/-- Announces a new event entry on vector 0 under EV_IRQ_HOLDOFF (18 R370). -/
def announce (p : PortId) (s : State) : State :=
  let h := s.port p
  let within := match h.lastV0 with
    | some t => decide (now s < t + h.irqHoldoff.toNat * Config.usUnits)
    | none => false
  if h.irqHoldoff ≠ 0 ∧ within = true then s.modPort p fun h => { h with v0Waiting := true }
  else sendMsix p 0 (s.modPort p fun h => { h with lastV0 := some (now s), v0Waiting := false })

/-- Writes an entry to a port's ring, or drops it when the ring is full (18 R368). -/
def writeEvent (e : EvEntry) (p : PortId) (s : State) : State :=
  let h := s.port p
  if h.evHead - h.evTail = 128 then
    raiseHost p .evOverflow (s.modPort p fun h => { h with evLost := satAdd h.evLost 1 })
  else
    announce p (s.modPort p fun h =>
      { h with ring := vset h.ring ⟨h.evHead.toNat % 128, Nat.mod_lt _ (by decide)⟩ e, evHead := h.evHead + 1 })

/-- Posts an asynchronous event to both ports' rings; its EV_SEQ is consumed also where it is dropped (18 R368). -/
def postEvent (code sev : Nat) (domain : BitVec 5) (arg0 arg1 arg2 : Nat) (s : State) : State :=
  let s := { s with host := { s.host with evSeq := s.host.evSeq + 1 } }
  let e : EvEntry :=
    { seq := s.host.evSeq, code := BitVec.ofNat 16 code, severity := BitVec.ofNat 4 sev, domain := domain,
      arg0 := BitVec.ofNat 32 arg0, arg1 := BitVec.ofNat 64 arg1, arg2 := BitVec.ofNat 64 arg2, time := now s }
  writeEvent e 1 (writeEvent e 0 s)

/-! Epoch flags. -/

/-- The record of an epoch at a source stream. -/
def epochRec (s : State) (i : Fin 16) (k : Nat) : Option EpochRec := (s.bound i).hist.find? (·.k = k)

/-- The epoch of a sample index of a stream: that of the latest boundary at or below it (03 R49). -/
def epochOfIndex (s : State) (i : Fin 16) (x : Nat) : Option Nat :=
  ((s.bound i).hist.find? (fun r => decide (r.start ≤ x))).map (·.k)

/-- INVALID_CLOCK of an item of an epoch (21 R419); without TREF every station time carries it (21 R418). -/
def invalidClock (s : State) (k : Nat) : Bool := s.plans.invalid.contains k || s.dev.trefLost

/-- The fitted sampling instant of an index (03 R46). -/
def instantOf (s : State) (i : Fin 16) (x : Nat) : Nat :=
  match (s.bound i).fit with
  | some f => (f.t0 + ((x : Int) * 2 ^ 32 - f.i0) * Config.secUnits / f.rate).toNat
  | none => 0

/-- Whether an item dated `t` carries ORPHAN (16 R329). -/
def orphanAt (s : State) (t : Nat) : Bool :=
  s.fabric.orphans.any fun o => decide (o.1 ≤ t) && (match o.2 with | some e => decide (t < e) | none => true)

end Sys2Proof.Machine
end

