-- ==== Sys2Proof/Machine/Clock.lean ====
section
/-! DEFINITION. One edge of the timebase: what the part does while no command waits (14 R276; log entry 4: DESIGN CHOICE). -/

namespace Sys2Proof.Machine

/-- The nominal INC, 2 x 2^40 in units of 2^-40 ns (14 R276). -/
def incNominal : Nat := 2 * 2 ^ 40

/-- ±500 ppm of the nominal INC: the limit of FREQ_ADJ (14 R276). -/
def freqLimit : Int := incNominal / 2000

/-- The timebase runs: PLL_T is locked, or it counts TREF edges or the internal oscillator outside boot (21 R418). -/
def timebaseRuns (s : State) : Bool :=
  s.dev.powered && s.dev.porstN && !s.dev.tripHold && (locked s 2 || (s.dev.state ≠ .boot && s.dev.state ≠ .suspended))

/-- The part of a slew that 2 ns take out: 100 ns in a second at most (14 R284). -/
def slewStep : Int := 2 ^ 40 / 5000000

/-- What an edge takes out of a residual: at most `most`, towards 0. -/
def slewPart (most r : Int) : Int := if 0 ≤ r then min r most else -(min (-r) most)

/-- What 2 ns measure as at the present edge of the timebase: 10 ns at a TREF edge, and 5 ns at an edge of the oscillator,
while PLL_T is unlocked (21 R418). -/
def perEdge (s : State) (x : Int) : Int := if locked s 2 then x else if s.dev.trefLost then x * 5 / 2 else x * 5

/-- A number held between `-m` and `m`. -/
def heldWithin (m x : Int) : Int := max (-m) (min m x)

/-- FREQ_ADJ with the bias of a slew, within ±500 ppm (14 R276, R284). -/
def freqInForce (s : State) : Int := heldWithin freqLimit (s.time.freqAdj - (s.time.slew.map (slewPart slewStep)).getD 0)

/-- The adjustment of the present edge, with `bias` taken out and held within ±500 ppm of the edge's length (14 R276). -/
def edgeAdjust (s : State) (bias : Int) : Int := heldWithin (perEdge s freqLimit) (perEdge s s.time.freqAdj - bias)

/-- What the present edge takes out of a running slew. -/
def slewEdge (s : State) (r : Int) : Int := edgeAdjust s 0 - edgeAdjust s (slewPart (perEdge s slewStep) r)

/-- What an edge adds to station time, in 2^-40 ns: INC with FREQ_ADJ, scaled to the edge's length, less the part of a slew
(14 R276, R284; 21 R418). -/
def edgeStep (s : State) : Nat :=
  (perEdge s (incNominal : Int) + edgeAdjust s 0 - (s.time.slew.map (slewEdge s)).getD 0).toNat

/-- LOCK_THRESHOLD in 2^-40 ns. -/
def lockRaw (s : State) : Int := (s.params.lockThreshold * 2 ^ 40 : Nat)

/-- One edge of the timebase; a residual shrinks by what the edge takes out, and SLEWING ends within LOCK_THRESHOLD
(14 R284). -/
def tick (s : State) : State :=
  if timebaseRuns s then
    let left := s.time.slew.map fun r => r - slewEdge s r
    { s with time := { s.time with
      raw := s.time.raw + edgeStep s
      tclk := s.time.tclk + 1
      elapsed := s.time.elapsed + (perEdge s 2).toNat
      slew := left
      slewing := s.time.slewing && left.any fun r => decide (lockRaw s < r.natAbs) } }
  else s

end Sys2Proof.Machine
end

