-- ==== Sys2Proof/Machine/Dsp.lean ====
section
/-! DEFINITION. The exact fixed-point path of the Plains array: twiddle table, window product, butterfly stages,
four-step transforms, power and log-power (05 R90 to R101), and rounding to binary32. -/

namespace Sys2Proof.Machine

/-- Integer division by a power of two with an arithmetic shift. -/
def sar (x : Int) (s : Nat) : Int := x / (2 ^ s : Nat)

/-- Clamp to [lo, hi], and whether the clamp acted. -/
def clampFlag (lo hi x : Int) : Int × Bool :=
  if x < lo then (lo, true) else if x > hi then (hi, true) else (x, false)

/-- Clamp to a signed 24-bit component, and whether it saturated (05 R92). -/
def clamp24 (x : Int) : Int × Bool := clampFlag (-8388608) 8388607 x

/-- A two's-complement value of `w` bits as an integer. -/
def signed (w n : Nat) : Int :=
  let m := n % 2 ^ w
  if 2 * m < 2 ^ w then (m : Int) else (m : Int) - (2 ^ w : Nat)

/-- An integer as a two's-complement field of `w` bits. -/
def unsigned (w : Nat) (x : Int) : Nat := (x % ((2 ^ w : Nat) : Int)).toNat

/-- Rounding of a quotient half away from zero. -/
def roundAway (x : Int) (d : Nat) : Int :=
  if x < 0 then -((((-x).toNat * 2 + d) / (2 * d) : Nat) : Int) else (((x.toNat * 2 + d) / (2 * d) : Nat) : Int)

/-- floor(pi x 2^96). -/
def pi96 : Nat := 248902613312231085230521944622

/-- Sum of the series of cos or sin at `x` (scaled by 2^96): the term `t` of degree `n`, then `k` more terms. -/
def trigSeries (x2 : Int) : Nat → Nat → Int → Int
  | 0, _, _ => 0
  | k + 1, n, t => t + trigSeries x2 k (n + 2) (-(t * x2) / (2 ^ 96 * ((n + 1) * (n + 2)) : Nat))

/-- 2 pi m / l scaled by 2^96. -/
def angle96 (m l : Nat) : Int := (2 * pi96 * (m % l) / l : Nat)

/-- cos(2 pi m / l) scaled by 2^96. -/
def cos96 (m l : Nat) : Int :=
  let x := angle96 m l
  trigSeries (x * x / (2 ^ 96 : Nat)) 40 0 (2 ^ 96 : Nat)

/-- sin(2 pi m / l) scaled by 2^96. -/
def sin96 (m l : Nat) : Int :=
  let x := angle96 m l
  trigSeries (x * x / (2 ^ 96 : Nat)) 40 1 x

/-- A twiddle-table value: 131,072 times the value, rounded half away from zero, limited to 131,071 in magnitude
(05 R92). -/
def tableQ17 (v : Int) : Int := (clampFlag (-131071) 131071 (roundAway (131072 * v) (2 ^ 96))).1

/-- Rotation by -j, `k` times. -/
def rotExact (z : IQ) (k : Nat) : IQ :=
  match k % 4 with
  | 0 => z
  | 1 => { i := z.q, q := -z.i }
  | 2 => { i := -z.i, q := -z.q }
  | _ => { i := -z.q, q := z.i }

/-- The window product of one component (05 R91), and whether it saturated. -/
def windowProduct (x c : Int) : Int × Bool :=
  let y := sar (x * c + 256) 9
  if y > 8388607 then (8388607, true) else (y, false)

/-- Twiddle, rounding, shift and clamp of one butterfly output: angle 2 pi m / l, stage shift `s` (05 R92). -/
def twiddleShift (y : IQ) (m l s : Nat) : IQ × Bool :=
  let half (x : Int) : Int := if s = 0 then x else sar (x + (2 ^ (s - 1) : Nat)) s
  let (oi, oq) :=
    if (4 * m) % l = 0 then
      let t := rotExact y (4 * m / l)
      (half t.i, half t.q)
    else
      let c := tableQ17 (cos96 m l)
      let sn := tableQ17 (sin96 m l)
      (sar (y.i * c + y.q * sn + (2 ^ (16 + s) : Nat)) (17 + s), sar (y.q * c - y.i * sn + (2 ^ (16 + s) : Nat)) (17 + s))
  let a := clamp24 oi
  let b := clamp24 oq
  ({ i := a.1, q := b.1 }, a.2 || b.2)

/-- y_k: the sum over i of x[n + i L/r] rotated by -j^(4 i k / r) (05 R92 step 1). -/
def butterfly (x : Array IQ) (base n step r k : Nat) : IQ :=
  (List.range r).foldl (fun acc i =>
    let z := rotExact (x.getD (base + n + i * step) default) (4 / r * (i * k))
    { i := acc.i + z.i, q := acc.q + z.q }) { i := 0, q := 0 }

/-- One stage of radix `r` over sub-transforms of length `l` with shift `s`; and whether any component saturated. -/
def fftStage (x : Array IQ) (l r s : Nat) : Array IQ × Bool :=
  let step := l / r
  let out := (List.range x.size).map fun p =>
    let w := p % l
    let k := w / step
    let n := w % step
    twiddleShift (butterfly x (p - w) n step r k) (n * k) l s
  ((out.map Prod.fst).toArray, out.any Prod.snd)

/-- The radices of the stages of an in-pipeline transform of 2^k points (05 R92). -/
def fftRadices (k : Nat) : List Nat := List.replicate (k / 2) 4 ++ (if k % 2 = 1 then [2] else [])

/-- All stages in order from stage `st`, with 2 bits of SCALE per stage; the first saturating stage is kept. -/
def fftStages : List Nat → Nat → Nat → Nat → Array IQ → Option Nat → Array IQ × Option Nat
  | [], _, _, _, x, sat => (x, sat)
  | r :: rs, l, scale, st, x, sat =>
    let (y, hit) := fftStage x l r (scale % 4)
    fftStages rs (l / r) (scale / 4) (st + 1) y (match sat with
      | some a => some a
      | none => if hit then some st else none)

/-- The frequency index held at position `p` after the last stage (digit reversal). -/
def digitIndex : List Nat → Nat → Nat → Nat
  | [], _, _ => 0
  | r :: rs, l, p => p / (l / r) + r * digitIndex rs (l / r) (p % (l / r))

/-- An in-pipeline transform of 2^k points with its stages numbered from `st`: coefficients in natural order, and the
first saturating stage. -/
def fft (k scale st : Nat) (x : Array IQ) : Array IQ × Option Nat :=
  let n := 2 ^ k
  let (y, sat) := fftStages (fftRadices k) n scale st x none
  let z := (List.range n).foldl (fun (acc : Array IQ) p =>
    acc.setIfInBounds (digitIndex (fftRadices k) n p) (y.getD p default)) (Array.replicate n default)
  (z, sat)

/-- The windowed samples, and whether a window product saturated. -/
def windowAll (coeff : Nat → Int) (xs : List IQ) : List IQ × Bool :=
  let ys := xs.zipIdx.map fun (x, n) =>
    let a := windowProduct x.i (coeff n)
    let b := windowProduct x.q (coeff n)
    (({ i := a.1, q := b.1 } : IQ), a.2 || b.2)
  (ys.map Prod.fst, ys.any Prod.snd)

/-- Lowest of two saturation points. -/
def firstSat (a b : Option Nat) : Option Nat :=
  match a, b with
  | some x, some y => some (min x y)
  | some x, none => some x
  | none, b => b

/-- An in-pipeline transform with its window (05 R91, R92). -/
def plainTransform (k scale : Nat) (coeff : Nat → Int) (xs : List IQ) : List IQ × Option Nat :=
  let (ys, wsat) := windowAll coeff xs
  let (z, sat) := fft k scale 1 ys.toArray
  (z.toList, firstSat (if wsat then some 0 else none) sat)

/-- The twiddle product of four-step step 3, angle 2 pi m / n, rounded by 2^16 and shifted by 17 (05 R100, R101). The
factor is the correctly rounded cosine and sine, limited to 131,071 in magnitude as a twiddle of the stages is; it is
multiplied at every angle, also where it is 1 (log entry 59: DESIGN CHOICE). -/
def fourStepTwiddle (z : IQ) (m n : Nat) : IQ × Bool :=
  let c := tableQ17 (cos96 m n)
  let sn := tableQ17 (sin96 m n)
  let a := clamp24 (sar (z.i * c + z.q * sn + 2 ^ 16) 17)
  let b := clamp24 (sar (z.q * c - z.i * sn + 2 ^ 16) 17)
  ({ i := a.1, q := b.1 }, a.2 || b.2)

/-- The column pass of a four-step transform of 2^k points: windowed columns, transforms of N1 points, twiddles, and
the transposed intermediates in row order (05 R100 steps 2 to 4). -/
def fourStepColumns (k scale : Nat) (coeff : Nat → Int) (xs : List IQ) : List IQ × Option Nat :=
  let k1 := (k + 1) / 2
  let n1 := 2 ^ k1
  let n2 := 2 ^ (k / 2)
  let (ws, wsat) := windowAll coeff xs
  let wa := ws.toArray
  let cols := (List.range n2).map fun c =>
    let col := (List.range n1).map fun r => wa.getD (r * n2 + c) default
    let (z, sat) := fft k1 scale 1 col.toArray
    let tw := (List.range n1).map fun f => fourStepTwiddle (z.getD f default) (c * f) (2 ^ k)
    ((tw.map Prod.fst).toArray, firstSat sat (if tw.any Prod.snd then some 7 else none))
  let ca := (cols.map Prod.fst).toArray
  let inter := (List.range n1).flatMap fun f => (List.range n2).map fun c => (ca.getD c #[]).getD f default
  (inter, cols.foldl (fun s c => firstSat s c.2) (if wsat then some 0 else none))

/-- The row pass: N1 row transforms of N2 points; row f holds the coefficients f + N1 x g (05 R100 step 5). -/
def fourStepRows (k scale : Nat) (inter : List IQ) : List IQ × Option Nat :=
  let k1 := (k + 1) / 2
  let n1 := 2 ^ k1
  let k2 := k / 2
  let n2 := 2 ^ k2
  let ia := inter.toArray
  let stages := (fftRadices k1).length
  let rows := (List.range n1).map fun f =>
    fft k2 (scale / 4 ^ stages) 8 ((List.range n2).map fun c => ia.getD (f * n2 + c) default).toArray
  let ra := (rows.map Prod.fst).toArray
  let out := (List.range (2 ^ k)).map fun x => (ra.getD (x % n1) #[]).getD (x / n1) default
  (out, rows.foldl (fun s r => firstSat s r.2) none)

/-- The output bins BIN_FIRST to BIN_FIRST + BIN_COUNT - 1: bin b carries X[(b + N/2) mod N] (05 R89). -/
def selectBins (n first count : Nat) (xs : List IQ) : List IQ :=
  let a := xs.toArray
  (List.range count).map fun b => a.getD ((first + b + n / 2) % n) default

/-- I^2 + Q^2, exact. -/
def powerOf (z : IQ) : Nat := (z.i * z.i + z.q * z.q).toNat

/-- round(num / den) to nearest, ties to even. -/
def roundEven (num den : Nat) : Nat :=
  let f := num / den
  let r := num % den
  if 2 * r > den ∨ (2 * r = den ∧ f % 2 = 1) then f + 1 else f

/-- The binary32 word nearest to num / den, ties to even; 0 gives +0.0. Results too large give infinity. -/
def toF32 (num den : Nat) : Nat :=
  if num = 0 ∨ den = 0 then 0 else
    let e0 : Int := (Nat.log2 num : Int) - (Nat.log2 den : Int)
    let below := if 0 ≤ e0 then num < den * 2 ^ e0.toNat else num * 2 ^ (-e0).toNat < den
    let e1 : Int := if below then e0 - 1 else e0
    let e : Int := if e1 < -126 then -126 else e1
    let sh : Int := 23 - e
    let m := if 0 ≤ sh then roundEven (num * 2 ^ sh.toNat) den else roundEven num (den * 2 ^ (-sh).toNat)
    let word := if m < 2 ^ 23 then (m : Int) else (e + 126) * 2 ^ 23 + m
    if word ≥ 0x7F800000 then 0x7F800000 else word.toNat

/-- A finite binary32 word as a signed integer in units of 2^-149, so that words compare by value. -/
def f32Scaled (w : Nat) : Int :=
  let e : Nat := w / 2 ^ 23 % 256
  let f : Nat := w % 2 ^ 23
  let mag : Nat := if e = 0 then f else (2 ^ 23 + f) * 2 ^ (e - 1)
  if w / 2 ^ 31 % 2 = 1 then -(mag : Int) else mag

/-- The power output P = (I^2 + Q^2) x 2^-46 as binary32 (05 R95). -/
def powerF32 (z : IQ) : Nat := toF32 (powerOf z) (2 ^ 46)

/-- p x 2^-46 lies below 10^((2 l - 1) / 5120), the lower edge of the values that round to l. -/
def belowLogEdge (p : Nat) (l : Int) : Bool :=
  let e := 2 * l - 1
  let lhs := p ^ 5120
  let rhs := 2 ^ (46 * 5120)
  if 0 ≤ e then decide (lhs < 10 ^ e.toNat * rhs) else decide (lhs * 10 ^ (-e).toNat < rhs)

/-- Largest l in [lo, lo + 2^k) whose lower edge is not above p (bisection). -/
def logSearch (p : Nat) : Nat → Int → Int
  | 0, lo => lo
  | k + 1, lo =>
    let mid := lo + (2 ^ k : Nat)
    if belowLogEdge p mid then logSearch p k lo else logSearch p k mid

/-- round(2560 x log10(p x 2^-46)) for p > 0 (05 R96). -/
def logExact (p : Nat) : Int := logSearch p 16 (-36000)

/-- The log table: the exact value within 1 LSB; the error is open (log entry 1: DESIGN CHOICE). -/
def logTable (p : Nat) : Int := logExact p + ((Config.logError p : Nat) : Int) - 1

/-- The log-power of a bin with gain, in Q8.8, and whether it was clamped at the top (05 R96). -/
def logPower (z : IQ) (gain : Int) : Int × Bool :=
  if z.i = 0 ∧ z.q = 0 then (-32768, false)
  else
    let l := logTable (powerOf z) + gain
    if l > 32767 then (32767, true) else if l < -32768 then (-32768, false) else (l, false)

end Sys2Proof.Machine
end

