-- ==== Sys2Proof/Machine/Operands.lean ====
section
/-! DEFINITION. The operand forms of commands: the payload fields of a request (19 R371), the reserved-bit check
(19 R374), and the entries of status responses. -/

namespace Sys2Proof.Machine

/-- A field of a request: its size in bytes and the bits that are not reserved. -/
abbrev Field := Nat × Nat

/-- A whole field of `n` bytes. -/
def whole (n : Nat) : Field := (n, 256 ^ n - 1)

/-- The alignment of a field: its size, 4 for a 12-byte and 8 for a 16-byte field (19 R371). -/
def fieldAlign (n : Nat) : Nat := if n = 12 then 4 else if n = 16 then 8 else max n 1

/-- The lowest offset at or after `a` that a field of `n` bytes may have. -/
def fieldAt (a n : Nat) : Nat := ceilDiv a (fieldAlign n) * fieldAlign n

/-- The end of the last field: the request length (19 R374). -/
def requestEnd : Nat → List Field → Nat
  | a, [] => a
  | a, f :: t => requestEnd (fieldAt a f.1 + f.1) t

/-- A request's payload bytes from an offset, as a number. -/
def Cmd.u (c : Cmd) (off n : Nat) : Nat := ofLe ((c.payload.drop off).take n)

/-- A signed field. -/
def Cmd.int (c : Cmd) (off n : Nat) : Int := signedOf (8 * n) (c.u off n)

/-- A 12-byte station time field (19 R371), in 2^-16 ns. -/
def Cmd.time (c : Cmd) (off : Nat) : Nat := ofTime96 (c.u off 12)

/-- A 12-byte time that is not a station time: its nanosecond field is 10^9 or more (14 R275). -/
def Cmd.badTime (c : Cmd) (off : Nat) : Bool := decide (Config.secUnits ≤ c.u off 12 % 2 ^ 48)

/-- The first byte of a gap that is not zero. -/
def gapBad (c : Cmd) (a b : Nat) : Option Nat :=
  ((List.range (b - a)).find? fun i => c.u (a + i) 1 ≠ 0).map (a + ·)

/-- The payload offset of the first reserved byte or bit that is not 0 (19 R374 check 3). -/
def reservedBad (c : Cmd) : Nat → List Field → Option Nat
  | _, [] => none
  | a, (n, m) :: t =>
    let o := fieldAt a n
    match gapBad c a o with
    | some x => some x
    | none => if (c.u o n) &&& (256 ^ n - 1 - m) ≠ 0 then some o else reservedBad c (o + n) t

/-- The units that SELECT names, in ascending order (19 R377). -/
def selected (select : Nat) : List Nat := (List.range 64).filter fun n => bit n select

/-- A 32-bit word of a status entry. -/
def word (x : Nat) : List Byte := toLe 4 x

end Sys2Proof.Machine
end

