-- ==== Sys2Proof/Machine/Fco.lean ====
section
/-! DEFINITION. The frame-clock outputs: the period grid of an output, the periods that it emits, its level (15 R306 to R311).
Their times are in fifths of a unit of PHASE: 1 ns is 512 of them, and a TREF period 5,120. Every fifth TCLK edge is one of TREF
(15 R305), and the count of the time since reset tells which. -/

namespace Sys2Proof.Machine

/-- The length of an output's phase circle (15 R306). -/
def Fco.circle (f : Fco) : Nat := f.div * 1024

/-- The length of an output's period. -/
def Fco.length (f : Fco) : Nat := f.circle * 5

/-- The present moment of the grids. -/
def gridNow (s : State) : Nat := s.time.elapsed * 512

/-- The last point of an output's period grid up to a moment: PHASE after a whole number of periods (15 R306). -/
def Fco.edgeBefore (f : Fco) (t : Nat) : Option Nat :=
  let p := f.phase * 5
  if t < p then none else some (p + (t - p) / max 1 f.length * f.length)

/-- The moment from which a rising edge begins a period: none while the output is not gated on, and none in the first half of the
period before, which a phase step can have moved (15 R307, R308). -/
def Fco.from_ (f : Fco) : Nat := max f.since ((f.cycle.map fun c => c.1 + c.2 / 2 + 1).getD 0)

/-- The station time of a rising edge, as the loopback measures it within 10 ps (15 R310). -/
def edgeTime (s : State) (i : Fin 8) (e : Nat) : Nat :=
  let past : Int := ((gridNow s - e) * 128 : Nat) * ((incNominal : Int) + freqInForce s) / (incNominal : Int)
  ((now s : Int) - past + ((Config.edgeError i.val e).val : Int) - 655).toNat

/-- The periods that an output has begun until now: the last of them, and its measured edge (15 R308, R310, R311). -/
def settleFco (s : State) (i : Fin 8) : State :=
  s.modFco i fun f =>
    match f.edgeBefore (gridNow s) with
    | none => f
    | some e =>
      if f.on && s.evt.dllF && decide (f.from_ ≤ e) then { f with cycle := some (e, f.length), lastEdge := edgeTime s i e } else f

/-- The same for every output. -/
def settleFcos (s : State) : State := (List.finRange 8).foldl settleFco s

/-- The level of an output: high in the first half of a period that it emits (15 R306); low in BOOT and SUSPENDED (21 R422). -/
def fcoLevel (s : State) (i : Fin 8) : Bool :=
  s.dev.powered && s.dev.state ≠ .boot && s.dev.state ≠ .suspended &&
    ((vget (settleFco s i).evt.outputs i).cycle.any fun c => decide (gridNow s < c.1 + c.2 / 2))

/-- When an output gated on now may begin a period: now, or after a period of another length has ended (15 R308). -/
def gateFrom (s : State) (f : Fco) : Nat :=
  match f.cycle with
  | some c => if c.2 = f.length then gridNow s else max (gridNow s) (c.1 + c.2)
  | none => gridNow s

/-- Gates an output: a gate-on in the TCLK cycle of a gate-off gives way; a gate-off lets the period in progress finish (15
R308). -/
def gateOne (on : Bool) (s : State) (i : Fin 8) : State :=
  let t := s.time.tclk
  (settleFco s i).modFco i fun f =>
    if on then (if f.lastOff = some t || f.on then f else { f with on := true, since := gateFrom s f })
    else { f with on := false, lastOff := some t }

/-- Gates the outputs of a mask (15 R308, 14 R290). -/
def gateFco (mask : Nat) (on : Bool) (s : State) : State :=
  ((List.finRange 8).filter fun i => bit i.val mask).foldl (gateOne on) s

/-- A step of a schedule is due: the steps of an output follow each other at 1 / rate microseconds from its start on, or from a relock
(15 R307, R311). -/
def stepDue (s : State) (f : Fco) : Bool := decide (f.stepBase * f.rate + f.stepsDone * 1000 ≤ s.time.elapsed * f.rate)

/-- The steps that are left follow from now on. -/
def Fco.rebase (s : State) (f : Fco) : Fco := { f with stepBase := s.time.elapsed, stepsDone := 0 }

end Sys2Proof.Machine
end

