-- ==== Sys2Proof/Machine/Crypto.lean ====
section
/-! DEFINITION. Checksums and signatures: the CRC-32C of 09 R166, the CRC-16 of 04 R68, SHA-384 and ECDSA P-384 as 20
R402 and 21 R412 name them (the algorithms themselves are those of FIPS 180-4, FIPS 186 and SEC 2: log entry 14: PRESUMED). -/

namespace Sys2Proof.Machine

/-- One bit of the reflected CRC-32C. -/
def crc32Bit (c : Nat) : Nat := if c % 2 = 1 then (c / 2) ^^^ 0x82F63B78 else c / 2

/-- One byte of the CRC-32C. -/
def crc32Byte (c : Nat) (b : Byte) : Nat :=
  let x := c ^^^ b.toNat
  crc32Bit (crc32Bit (crc32Bit (crc32Bit (crc32Bit (crc32Bit (crc32Bit (crc32Bit x)))))))

/-- The CRC-32C of bytes (09 R166). -/
def crc32c (bs : List Byte) : Nat := (bs.foldl crc32Byte 0xFFFFFFFF) ^^^ 0xFFFFFFFF

/-- One bit of a CRC with polynomial 0x1021, most significant bit first. -/
def crc16Bit (c : Nat) : Nat := if c / 2 ^ 15 % 2 = 1 then (c * 2 % 2 ^ 16) ^^^ 0x1021 else c * 2 % 2 ^ 16

/-- One byte of that CRC. -/
def crc16Byte (c : Nat) (b : Byte) : Nat :=
  let x := c ^^^ (b.toNat * 256)
  crc16Bit (crc16Bit (crc16Bit (crc16Bit (crc16Bit (crc16Bit (crc16Bit (crc16Bit x)))))))

/-! SHA-384, its constants computed as FIPS 180-4 defines them: 64 fraction bits of the cube roots of the first 80
primes for the rounds, of the square roots of the ninth to the sixteenth prime for the start. -/

/-- The greatest `r + t`, `t` below `2 ^ n`, whose power `e` is at most `x`. -/
def rootBelow (e x : Nat) : Nat → Nat → Nat
  | 0, r => r
  | n + 1, r => rootBelow e x n (if (r + 2 ^ n) ^ e ≤ x then r + 2 ^ n else r)

/-- The first 64 fraction bits of the root `e` of `p`. -/
def rootFraction (e p : Nat) : U64 := BitVec.ofNat 64 (rootBelow e (p * 2 ^ (64 * e)) 68 0)

/-- The first 80 primes: those up to 409. -/
def shaPrimes : List Nat :=
  (List.range 410).filter fun n => 2 ≤ n && (List.range 21).all fun d => d < 2 || d = n || n % d ≠ 0

/-- The 80 round constants. -/
def roundConsts : List U64 := shaPrimes.map (rootFraction 3)

/-- The chaining value that SHA-384 starts from. -/
def chainStart : List U64 := ((shaPrimes.drop 8).take 8).map (rootFraction 2)

/-- The bytes of a message with the padding of SHA-384: blocks of 128 bytes. -/
def shaPad (bs : List Byte) : List Byte :=
  bs ++ [0x80] ++ List.replicate ((111 + 128 - bs.length % 128) % 128) 0 ++ (toLe 16 (8 * bs.length)).reverse

/-- The number that bytes spell, most significant first. -/
def ofBe (bs : List Byte) : Nat := ofLe bs.reverse

/-- The 16 words of a block. -/
def shaWords : Nat → List Byte → List U64
  | 0, _ => []
  | n + 1, bs => BitVec.ofNat 64 (ofBe (bs.take 8)) :: shaWords n (bs.drop 8)

/-- A word turned right by two amounts and a third value, added bit by bit without carry. -/
def stir (x : U64) (i j : Nat) (y : U64) : U64 := x.rotateRight i ^^^ (x.rotateRight j ^^^ y)

/-- The message schedule kept newest first: `n` further words. -/
def shaGrow : Nat → List U64 → List U64
  | 0, ws => ws
  | n + 1, ws =>
    let old (k : Nat) : U64 := ws.getD (k - 1) 0
    shaGrow n ((old 16 + old 7 + stir (old 15) 1 8 (old 15 >>> 7) + stir (old 2) 19 61 (old 2 >>> 6)) :: ws)

/-- One round on the two chains of a hash, newest first: four words `p` of the first, four `q` of the second. `k` is the
round constant added to the schedule's word. -/
def shaRound (pq : List U64 × List U64) (k : U64) : List U64 × List U64 :=
  let p (i : Nat) : U64 := pq.1.getD i 0
  let q (i : Nat) : U64 := pq.2.getD i 0
  let pick := (q 0 &&& (q 1 ^^^ q 2)) ^^^ q 2
  let most := (p 0 &&& (p 1 ||| p 2)) ||| (p 1 &&& p 2)
  let feed := k + q 3 + pick + stir (q 0) 14 18 ((q 0).rotateRight 41)
  ((feed + most + stir (p 0) 28 34 ((p 0).rotateRight 39)) :: pq.1.take 3, (p 3 + feed) :: pq.2.take 3)

/-- The blocks of a padded message taken in turn. -/
def shaBlocks : Nat → List Byte → List U64 → List U64
  | 0, _, h => h
  | n + 1, bs, h =>
    let sched := (shaGrow 64 (shaWords 16 (bs.take 128)).reverse).reverse
    let r := (List.zipWith (· + ·) roundConsts sched).foldl shaRound (h.take 4, h.drop 4)
    shaBlocks n (bs.drop 128) (List.zipWith (· + ·) h (r.1 ++ r.2))

/-- SHA-384 of bytes, as 48 bytes. -/
def sha384 (bs : List Byte) : List Byte :=
  let p := shaPad bs
  ((shaBlocks (p.length / 128) p chainStart).take 6).flatMap fun x => (toLe 8 x.toNat).reverse

/-! ECDSA over P-384 (SEC 2). Points in affine form, none the point at infinity. -/

def p384P : Nat := 39402006196394479212279040100143613805079739270465446667948293404245721771496870329047266088258938001861606973112319
def p384N : Nat := 39402006196394479212279040100143613805079739270465446667946905279627659399113263569398956308152294913554433653942643
def p384B : Nat := 27580193559959705877849011840389048093056905856361568521428707301988689241309860865136260764883745107765439761230575
def p384G : Nat × Nat :=
  (26247035095799689268623156744566981891852923491109213387815615900925518854738050089022388053975719786650872476732087,
   8325710961489029985546751289520108179287853048861315594709205902480503199884419224438643760392947333078086511627871)

/-- x^e mod m, by the bits of e; `n` bounds their number. -/
def powMod (m : Nat) : Nat → Nat → Nat → Nat
  | 0, _, _ => 1 % m
  | n + 1, x, e =>
    let r := powMod m n (x * x % m) (e / 2)
    if e % 2 = 1 then x * r % m else r

/-- The inverse modulo a prime. -/
def invMod (m x : Nat) : Nat := powMod m 384 (x % m) (m - 2)

abbrev EcPoint := Option (Nat × Nat)

def ecAdd (a b : EcPoint) : EcPoint :=
  match a, b with
  | none, q => q
  | p, none => p
  | some (x1, y1), some (x2, y2) =>
    if x1 = x2 ∧ (y1 + y2) % p384P = 0 then none
    else
      let l := if x1 = x2 then (3 * x1 * x1 + p384P - 3) * invMod p384P (2 * y1) % p384P
        else (y2 + p384P - y1) * invMod p384P (x2 + p384P - x1) % p384P
      let x3 := (l * l + 2 * p384P - x1 - x2) % p384P
      some (x3, (l * (x1 + p384P - x3) + p384P - y1) % p384P)

def ecMul : Nat → Nat → EcPoint → EcPoint
  | 0, _, _ => none
  | n + 1, k, p => if k % 2 = 1 then ecAdd p (ecMul n (k / 2) (ecAdd p p)) else ecMul n (k / 2) (ecAdd p p)

/-- A point of the curve. -/
def onCurve (x y : Nat) : Bool :=
  x < p384P && y < p384P && y * y % p384P == (x * x * x + (p384P - 3) * x + p384B) % p384P

/-- ECDSA P-384 with SHA-384: public key 0x04, X, Y; r and s; all big-endian (20 R391, R402). -/
def ecdsaVerify (key : List Byte) (digest : List Byte) (r s : Nat) : Bool :=
  let x := ofBe ((key.drop 1).take 48)
  let y := ofBe ((key.drop 49).take 48)
  if key.length ≠ 97 ∨ key.head? ≠ some 4 ∨ !onCurve x y ∨ r = 0 ∨ s = 0 ∨ p384N ≤ r ∨ p384N ≤ s then false
  else
    let w := invMod p384N s
    let e := ofBe digest
    match ecAdd (ecMul 384 (e * w % p384N) (some p384G)) (ecMul 384 (r * w % p384N) (some (x, y))) with
    | none => false
    | some (vx, _) => vx % p384N == r

end Sys2Proof.Machine
end

