-- ==== Sys2Proof/Machine/Wire.lean ====
section
/-! DEFINITION. The bytes of what leaves on the fabric and on Ethernet: fabric messages (16 R319, R320), every multi-byte
field little-endian (00 R7), and the frames of UDP datagrams (11 R229; the forms of the Ethernet, IP and UDP headers are those
of their standards: log entry 64: PRESUMED). -/

namespace Sys2Proof.Machine

/-- A record's length in bytes, header included. -/
def Record.size (r : Record) : Nat := 32 + r.body.length

/-- The bytes of a record with its path sequence number (11 R211). -/
def Record.bytes (r : Record) (seq : U32) : List Byte :=
  toLe 4 (r.type + r.kind * 2 ^ 8 + 2 ^ 12 + atBit 14 r.stream.isSome + atBit 15 r.view.isSome + r.size / 8 * 2 ^ 16) ++
  toLe 4 (r.node % 64 + r.stream.getD 0 * 2 ^ 6 + r.view.getD 0 * 2 ^ 10 + r.flags.toNat * 2 ^ 16) ++
  toLe 4 seq.toNat ++ toLe 8 r.epoch ++ timeBytes r.time ++ r.body

/-! Fabric messages. -/

/-- The MSG code (16 R320); a block of an unknown type has none. -/
def FabBody.code : FabBody → Option Nat
  | .heartbeat .. => some 0x01
  | .epochMark _ => some 0x02
  | .arm .. => some 0x03
  | .fire f => some (match f.kind with
    | .fire => 0x04
    | .provisional => 0x05
    | .confirm => 0x06
    | .retract => 0x07)
  | .sync _ => some 0x08
  | .probe _ => some 0x09
  | .echo _ => some 0x0A
  | .join .. => some 0x0B
  | .joinAck .. => some 0x0C
  | .tunnelCmd .. => some 0x0D
  | .tunnelRsp .. => some 0x0E
  | .tunnelData .. => some 0x0F
  | .recordFrag .. => some 0x10
  | .other => none

/-- Data block 2 of a HEARTBEAT and of a JOIN (16 R320). -/
def NodeReport.block (r : NodeReport) : Nat :=
  r.state + r.depth * 2 ^ 2 + atBit 4 r.timeValid + r.source * 2 ^ 5 + r.streams.toNat * 2 ^ 7 + r.planId * 2 ^ 23

/-- The data of a message as bytes, its blocks in order, each least significant byte first (16 R320, 00 R7). -/
def FabBody.data : FabBody → List Byte
  | .heartbeat t r => toLe 8 (time64 t) ++ toLe 8 r.block
  | .epochMark k => toLe 8 k
  | .arm e mask disarm seq => toLe 8 e ++ toLe 8 (mask + atBit 8 disarm + seq * 2 ^ 16)
  | .fire f =>
    toLe 12 (time96 f.time) ++ toLe 4 f.seq ++ toLe 8 f.index ++
      toLe 8 (f.channel + f.sequencer * 2 ^ 4 + atBit 8 f.anchorValid + f.anchorStream * 2 ^ 9 + f.reason * 2 ^ 13)
  | .sync ts => toLe 16 (time96 ts)
  | .probe n => toLe 8 n
  | .echo n => toLe 8 n
  | .join k r => toLe 8 k ++ toLe 8 r.block
  | .joinAck j armed accept reason => toLe 8 j ++ toLe 8 (armed + atBit 8 accept + reason * 2 ^ 9)
  | .tunnelCmd _ _ bs => bs
  | .tunnelRsp _ _ bs => bs
  | .tunnelData _ _ bs => bs
  | .recordFrag seq r => r.bytes seq
  | .other => []

/-- Cuts bytes into fragments of at most 128 bytes, the last padded to whole data blocks (16 R331). -/
def fragments : Nat → List Byte → List (List Byte)
  | 0, _ => []
  | n + 1, bs => if bs.length ≤ 128 then [padMul 8 bs] else bs.take 128 :: fragments n (bs.drop 128)

/-- How many messages on the wire a message of the model stands for (16 R319, log entry 20: DEDUCED). -/
def FabBody.messages (b : FabBody) : Nat := max 1 (fragments (b.data.length + 1) b.data).length

/-- Bits [47:0] of the header of one message of `len` blocks (16 R319). -/
def FabricMsg.head (m : FabricMsg) (msg len : Nat) (first last : Bool) : Nat :=
  0xC3 + msg * 2 ^ 8 + m.src % 64 * 2 ^ 14 + m.dst % 64 * 2 ^ 20 + len * 2 ^ 26 + min m.wait 63 * 2 ^ 31 + atBit 37 m.copy +
    atBit 38 first + atBit 39 last + m.mseq % 256 * 2 ^ 40

/-- One message on the wire: the header with its CRC16, over header bits [47:8] from bits [15:8] upward and then the data,
and the data blocks (16 R319). -/
def FabricMsg.packet (m : FabricMsg) (msg : Nat) (first last : Bool) (bs : List Byte) : List Byte :=
  let head := toLe 6 (m.head msg (bs.length / 8) first last)
  head ++ toLe 2 ((head.drop 1 ++ bs).foldl crc16Byte 0xFFFF) ++ bs

/-- The messages on the wire that a message of the model stands for: a record or tunnel transfer is cut into fragments, with
FIRST on the first and LAST on the last, MSEQ going on from one to the next (16 R319, R331; log entry 20: DEDUCED). -/
def FabricMsg.wire (m : FabricMsg) : List (List Byte) :=
  match m.body.code with
  | none => []
  | some msg =>
    let bs := m.body.data
    let parts := fragments (bs.length + 1) bs
    parts.zipIdx.map fun p =>
      { m with mseq := m.mseq + p.2 }.packet msg (m.first && p.2 = 0) (m.last && p.2 + 1 = parts.length) p.1

/-! UDP datagrams. -/

/-- The low `n` bytes of a number, most significant first. -/
def toBe (n x : Nat) : List Byte := (toLe n x).reverse

/-- The 16-bit words of bytes, most significant byte first, added up. -/
def wordSum : List Byte → Nat
  | a :: b :: t => a.toNat * 256 + b.toNat + wordSum t
  | [a] => a.toNat * 256
  | [] => 0

/-- The Internet checksum of bytes: the complement of their sum with the carries added in again. -/
def inetChecksum (bs : List Byte) : Nat :=
  let n := wordSum bs
  if n = 0 then 0xFFFF else 0xFFFF - ((n - 1) % 0xFFFF + 1)

/-- The source address of a destination's packets on a port, and the address that they go to. -/
def UdpDest.addresses (d : UdpDest) (port : Nat) : List Byte × List Byte :=
  if d.ipv6 then (toBe 16 (Config.ipv6Own port), d.addr.take 16) else (toBe 4 (Config.ipv4Own port), d.addr.take 4)

/-- A UDP segment, with its checksum computed (11 R229). -/
def UdpDest.segment (d : UdpDest) (port dest : Nat) (payload : List Byte) : List Byte :=
  let a := d.addresses port
  let n := 8 + payload.length
  let ports := toBe 2 (Config.udpSource dest) ++ toBe 2 d.udpPort
  let pseudo := a.1 ++ a.2 ++ (if d.ipv6 then toBe 4 n ++ toBe 4 17 else toBe 2 17 ++ toBe 2 n)
  let x := inetChecksum (pseudo ++ ports ++ toBe 2 n ++ toBe 2 0 ++ payload)
  ports ++ toBe 2 n ++ toBe 2 (if x = 0 then 0xFFFF else x) ++ payload

/-- The IP packet of a datagram: unfragmented, the DSCP of the destination, DF set in IPv4 (11 R229). -/
def UdpDest.ipPacket (d : UdpDest) (port dest : Nat) (payload : List Byte) : List Byte :=
  let a := d.addresses port
  let seg := d.segment port dest payload
  if d.ipv6 then
    toBe 4 (6 * 2 ^ 28 + d.dscp * 2 ^ 22 + Config.flowLabel dest % 2 ^ 20) ++ toBe 2 seg.length ++ toBe 1 17 ++
      toBe 1 (Config.hopLimit dest) ++ a.1 ++ a.2 ++ seg
  else
    let front := toBe 1 0x45 ++ toBe 1 (d.dscp * 4) ++ toBe 2 (20 + seg.length) ++
      toBe 2 (Config.ipv4Id dest d.dgramSeq.toNat) ++ toBe 2 0x4000 ++ toBe 1 (Config.hopLimit dest) ++ toBe 1 17
    front ++ toBe 2 (inetChecksum (front ++ a.1 ++ a.2)) ++ a.1 ++ a.2 ++ seg

/-- The Ethernet frame of a datagram without its check sequence; VLAN 0 is untagged (11 R229). -/
def UdpDest.etherFrame (d : UdpDest) (port dest : Nat) (payload : List Byte) : List Byte :=
  toBe 6 (d.mac.getD 0) ++ toBe 6 (Config.ethMac port) ++ (if d.vlan = 0 then [] else toBe 2 0x8100 ++ toBe 2 d.vlan) ++
    toBe 2 (if d.ipv6 then 0x86DD else 0x0800) ++ d.ipPacket port dest payload

/-- The bytes of a datagram's frame on the wire: MAC header, tag, check sequence, preamble and gap with it (11, worked
example). -/
def UdpDest.wireBytes (d : UdpDest) (payload : Nat) : Nat :=
  payload + 8 + (if d.ipv6 then 40 else 20) + 14 + (if d.vlan = 0 then 0 else 4) + 4 + 8 + 12

end Sys2Proof.Machine
end

