-- ==== Sys2Proof/Machine/Records.lean ====
section
/-! DEFINITION. Building records, routing them to paths, and the path queues (11 R211 to R231); sending on the fabric (16 R319
to R322). -/

namespace Sys2Proof.Machine

/-- Event-class records: trigger, capture notice, overflow, time status, fault (11 R225). -/
def Record.eventClass (r : Record) : Bool :=
  r.type = 4 || r.type = 5 || r.type = 6 || r.type = 9 || r.type = 11

/-- The sequencer that a trigger record names (11 R218). -/
def Record.sequencer (r : Record) : Nat := (r.body.getD 12 0).toNat % 16

/-- Whether a route matches a record of the node's own; `j` is the transform index of a spectrum (11 R224). -/
def RouteE.takes (t : RouteE) (r : Record) (j : Nat) : Bool :=
  !t.relay && t.type = r.type && (t.every = 0 || j % t.every = 0) &&
    (match t.selKind with
     | 0 => true
     | 1 => r.view = some t.selector
     | 2 => r.stream = some t.selector
     | _ => r.type = 4 && r.sequencer = t.selector)

/-- The union of the masks of the matching routes (11 R224). -/
def Plan.ownMask (p : Plan) (r : Record) (j : Nat) : Nat :=
  p.routes.foldl (fun m t => if t.takes r j then m ||| t.mask else m) 0

/-- The union of the masks of the RELAY routes of a type (11 R231). -/
def Plan.relayMask (p : Plan) (type : Nat) : Nat :=
  p.routes.foldl (fun m t => if t.relay && t.type = type then m ||| t.mask else m) 0

/-- Space of a UDP datagram for records (11 R224, R230). -/
def UdpDest.space (d : UdpDest) : Nat := d.mtu - (if d.ipv6 then 40 else 20) - 8 - 16

/-- The payload of a destination's pending datagram (11 R230). -/
def UdpDest.datagram (d : UdpDest) (node dest : Nat) : List Byte :=
  toLe 4 (0xBD40 + 2 ^ 16 + node * 2 ^ 24 + d.ports * 2 ^ 30) ++ toLe 4 d.dgramSeq.toNat ++
  toLe 4 (d.pending.length + dest * 2 ^ 16) ++ toLe 4 0 ++ d.pending.flatten

/-- The path of a UDP destination. -/
def udpPath (i : Fin 8) : Fin 25 := ⟨16 + i.val, by omega⟩

/-- Counts a dropped record (02 R37). -/
def dropOn (i : Fin 25) (s : State) : State := s.modPath i fun p => { p with drops := satAdd p.drops 1 }

/-- The time that the links of record delivery go by, in 2^-16 ns: TCLK edges, which no step of station time moves. -/
def linkClock (s : State) : Nat := s.time.tclk * 2 * Config.nsUnits

/-- Something that a path has accepted goes out on links, behind what they have accepted before: each takes its own time for it,
and the path holds its `bytes` until the last of them has sent it (11 R225; log entry 65: DESIGN CHOICE). -/
def occupy (i : Fin 25) (links : List (Fin 3)) (time bytes : Nat) (s : State) : State :=
  let t := linkClock s
  let free := links.foldl (fun v l => vmod v l fun x => max x t + time) s.records.linkFree
  let done := (links.map fun l => vget free l).foldl max t
  { s with records := { s.records with linkFree := free } }.modPath i fun p =>
    { p with leaving := p.leaving.filter (fun (e : Nat × Nat) => decide (t < e.1)) ++ [(done, bytes)] }

/-- The Ethernet ports of a destination that are up. -/
def udpPorts (d : UdpDest) (s : State) : List (Fin 2) :=
  (if d.ports ≠ 1 ∧ vget s.time.ethUp 0 = true then [0] else []) ++ (if d.ports ≠ 0 ∧ vget s.time.ethUp 1 = true then [1] else [])

/-- A UDP destination can take records: enabled, resolved, and a port of its own up (11 R229). -/
def udpReady (d : UdpDest) (s : State) : Bool := d.enabled && d.mac.isSome && !(udpPorts d s).isEmpty

/-- A datagram goes out, on both ports the same (11 R229, R230), at 25 Gb/s (14 R278). -/
def sendDatagram (i : Fin 8) (payload : List Byte) (s : State) : State :=
  let d := vget s.records.udp i
  let ports := udpPorts d s
  let s := ports.foldl (fun s p => emitOut (.ether p.val (d.etherFrame p.val i.val payload)) s) (emitOut (.udp i.val d.ports payload) s)
  let s := occupy (udpPath i) (ports.map fun p => ⟨p.val, by omega⟩) (d.wireBytes payload.length * 8 * Config.nsUnits / 25)
    (payload.length - 16) s
  s.modUdp i fun d => { d with dgramSeq := d.dgramSeq + 1 }

/-- Sends the pending datagram, if there is one (11 R230); while no link is up its records are dropped (11 R229). -/
def flushUdp (i : Fin 8) (s : State) : State :=
  let d := vget s.records.udp i
  let s' := s.modUdp i fun d => { d with pending := [] }
  if d.pending.isEmpty then s
  else if udpReady d s then sendDatagram i (d.datagram (nodeId s) i.val) s'
  else d.pending.foldl (fun s _ => dropOn (udpPath i) s) s'

/-- Places a record in the pending datagram, after sending the one in which it does not fit (11 R230). -/
def placeUdp (i : Fin 8) (bs : List Byte) (s : State) : State :=
  let d := vget s.records.udp i
  let s := if d.pending.flatten.length + bs.length > d.space then flushUdp i s else s
  s.modUdp i fun d =>
    { d with pending := d.pending ++ [bs], placedAt := if d.pending.isEmpty then now s else d.placedAt }

/-! Fabric sending. -/

/-- Class of a message: 0 urgent, 1 control, 2 bulk (16 R320). -/
def FabBody.cls : FabBody → Fin 3
  | .epochMark _ | .arm .. | .fire _ | .sync _ => 0
  | .tunnelData .. | .recordFrag .. => 2
  | _ => 1

/-- The lanes that are UP with one of the given uses (16 R315). -/
def upLanesOf (s : State) (uses : List (Fin 4)) : List (Fin 12) :=
  (List.finRange 12).filter fun i => (vget s.fabric.lanes i).state = .up && uses.contains (vget s.fabric.lanes i).use

/-- Uplinks that are UP. -/
def uplinks (s : State) : List (Fin 12) := upLanesOf s [1, 2]
/-- Downlinks that are UP. -/
def downlinks (s : State) : List (Fin 12) := upLanesOf s [3]

/-- Puts a message on lanes; an urgent one twice in succession (16 R321). -/
def sendOn (lanes : List (Fin 12)) (m : FabricMsg) (s : State) : State :=
  lanes.foldl (fun s i =>
    if m.body.cls = 0 then emitOut (.fabric i.val { m with copy := true }) (emitOut (.fabric i.val { m with copy := false }) s)
    else emitOut (.fabric i.val { m with copy := false }) s) s

/-- Originates a message with the next MSEQ of its class (16 R319). -/
def originate (lanes : List (Fin 12)) (dst : Nat) (first last : Bool) (b : FabBody) (s : State) : State :=
  let q := vget s.fabric.mseq b.cls
  let s := { s with fabric := { s.fabric with mseq := vset s.fabric.mseq b.cls ((q + b.messages) % 256) } }
  sendOn lanes
    { src := nodeId s, dst := dst, mseq := q, wait := 0, copy := false, first := first, last := last, crcOk := true, body := b } s

/-- The uplink that bulk and control messages use (16 R327). -/
def activeUplink (s : State) : List (Fin 12) :=
  (uplinks s).filter fun i => i = s.fabric.activeUp

/-- The node passes records up: a worker that is a MEMBER with a connected uplink (11 R231). -/
def fabReady (s : State) : Bool :=
  s.fabric.role = .worker && s.fabric.member = .member && !(activeUplink s).isEmpty

/-! Paths. -/

/-- The space of a path for one record (11 R224). -/
def pathSpace (i : Fin 25) (s : State) : Nat :=
  if i.val < 16 then 65528
  else match unit 8 (i.val - 16) with
    | some d => if i.val < 24 then (vget s.records.udp d).space else 2048
    | none => 2048

/-- The UDP destination of a path. -/
def destOf (i : Fin 25) : Option (Fin 8) := if i.val < 16 then none else unit 8 (i.val - 16)

/-- The bytes of a path's output queue that are taken (11 R225). -/
def pathLoad (i : Fin 25) (s : State) : Nat :=
  let p := vget s.records.paths i
  let dest := (destOf i).map fun d =>
    ((vget s.records.udp d).pending.map (·.length)).sum +
      4096 * ((List.finRange 32).map fun c => ((s.dma c).udpTiles.filter (·.1 = d)).length).sum
  (p.queue.map (·.item.size)).sum + ((p.leaving.filter fun e => decide (linkClock s < e.1)).map (·.2)).sum + dest.getD 0

/-- The output queue of 1 MiB accepts an item: of the bulk class while more than 64 KiB is free, of the event class while it fits
(11 R225). -/
def accepts (i : Fin 25) (event : Bool) (size : Nat) (s : State) : Bool :=
  if event then decide (pathLoad i s + size ≤ 2 ^ 20) else decide (pathLoad i s + 65536 < 2 ^ 20)

/-- A path is in order: its ring is set up and the host link up, its destination can be reached, the node has an uplink. -/
def pathReady (i : Fin 25) (s : State) : Bool :=
  if h : i.val < 16 then
    let g := vget s.records.rings ⟨i.val, h⟩
    g.isUp && (s.port g.port).linkUp
  else match destOf i with
    | some d => udpReady (vget s.records.udp d) s
    | none => fabReady s

/-- A path takes a record that it has accepted: a ring's queue holds it for RING_ENTRY_WRITE, a UDP destination places it in its
datagram, the uplink sends it at 2.0 GB/s (11 R226, R230, R231). -/
def enter (i : Fin 25) (seq : U32) (r : Record) (s : State) : State :=
  if i.val < 16 then s.modPath i fun p => { p with queue := p.queue ++ [{ seq := seq, item := r }] }
  else match destOf i with
    | some d => placeUdp d (r.bytes seq) s
    | none =>
      occupy i [2] (r.size * Config.nsUnits / 2) r.size (originate (activeUplink s) 0 true true (.recordFrag seq r) s)

/-- Hands a record with its SEQ to a path, or drops it (11 R225 to R232). -/
def deliver (i : Fin 25) (seq : U32) (r : Record) (s : State) : State :=
  if pathReady i s && accepts i r.eventClass r.size s then enter i seq r s else dropOn i s

/-- Assigns a record to a path: the SEQ is consumed whether the record is delivered or dropped (11 R213, R224). -/
def assign (r : Record) (s : State) (i : Fin 25) : State :=
  let seq := (vget s.records.paths i).seq
  let s := s.modPath i fun p => { p with seq := p.seq + 1 }
  if pathSpace i s < r.size ∧ ((i.val < 16) ∨ (24 ≤ i.val) ∨ ((unit 8 (i.val - 16)).any fun d => (vget s.records.udp d).enabled)) then
    s.modPath i fun p => { p with oversize := satAdd p.oversize 1 }
  else deliver i seq r s

/-- Assigns a record to every path of a mask. -/
def assignMask (mask : Nat) (r : Record) (s : State) : State :=
  ((List.finRange 25).filter fun i => bit i.val mask).foldl (assign r) s

/-- The paths that a mask names on this node: the FAB bit of the manager stands for the paths of the RELAY routes of the type
(11 R231). -/
def fabPaths (s : State) (p : Plan) (type mask : Nat) : Nat :=
  if s.fabric.role = .manager ∧ bit 24 mask = true then (mask % 2 ^ 24) ||| (p.relayMask type % 2 ^ 24) else mask

/-- The paths of a record of the node's own under a plan. -/
def ownPaths (s : State) (p : Plan) (r : Record) (j : Nat) : Nat := fabPaths s p r.type (p.ownMask r j)

/-- The plan whose routes carry the records of an epoch (03 R49). -/
def routePlan (s : State) (k : Nat) : Plan := ((bankFor s k).map (planIn s)).getD default

/-- Issues a record of the node's own; a record that no route matches is not built (11 R224). -/
def emitSpec (j : Nat) (r : Record) (s : State) : State := assignMask (ownPaths s (routePlan s r.epoch) r j) r s

/-- Issues a record other than a spectrum. -/
def emit (r : Record) (s : State) : State := emitSpec 0 r s

/-- The header flags that follow from an item's time, epoch and stream (11 R213). -/
def headFlags (s : State) (t k : Nat) (stream : Option (Fin 16)) : Nat :=
  let e := stream.bind fun i => epochRec s i k
  atBit 1 (orphanAt s t) + atBit 3 (invalidClock s k) + atBit 4 (e.any (·.extrapolated)) +
    atBit 5 (e.any (·.rateMismatch)) + atBit 6 (e.any (·.fitDegraded))

/-- A record of the node, with the flags of its header and `more` flags besides. -/
def mkRecord (s : State) (type kind : Nat) (stream : Option (Fin 16)) (view : Option Nat) (k t more : Nat)
    (body : List Byte) : Record :=
  { type := type, kind := kind, node := nodeId s, stream := stream.map (·.val), view := view,
    flags := BitVec.ofNat 16 (headFlags s t k stream ||| more), epoch := k, time := t, body := body }

end Sys2Proof.Machine
end

