-- ==== Sys2Proof/Machine/Select.lean ====
section
/-! DEFINITION. Which source governs station time, what a change of it reports, and the links that the PTP domains stand on
(14 R278, R281, R283, R291). -/

namespace Sys2Proof.Machine

def State.domain (s : State) (d : Fin 2) : PtpDomain := vget s.time.domains d

def TimeSource.code : TimeSource → Nat
  | .none => 0
  | .domainA => 1
  | .domainB => 2
  | .pps => 3

def TimeSource.ofCode : Nat → TimeSource
  | 1 => .domainA
  | 2 => .domainB
  | 3 => .pps
  | _ => .none

/-- The domain that governs, if a domain does. -/
def governing (s : State) : Option (Fin 2) :=
  match s.time.source with
  | .domainA => some 0
  | .domainB => some 1
  | _ => none

/-- Records that the firmware builds carry INVALID_CLOCK while PLL_C is unlocked (21 R419). -/
def fwMark (s : State) : Nat := atBit 3 (!locked s 1)

/-- The body of a time-status record, 40 bytes (11 R222, 14 R291). -/
def timeBody (s : State) : List Byte :=
  let g := governing s
  let off := (g.map fun d => (s.domain d).offset).getD 0
  let mpd := (g.map fun d => (s.domain d).meanPathDelay).getD 0
  word (s.time.source.code + atBit 2 (s.domain 0).ok + atBit 3 (s.domain 1).ok + (s.domain 0).number * 2 ^ 8 +
      (s.domain 1).number * 2 ^ 16) ++ word 0 ++
    toLeInt 8 off ++ toLeInt 8 s.time.abOffset ++ toLeInt 8 (s.time.slew.getD 0 / 2 ^ 24) ++ toLeInt 8 mpd

/-- Issues a time-status record (14 R291). -/
def timeRecord (s : State) : State :=
  emit (mkRecord s 9 0 none none (epochNum (epochAt s (now s))) (now s) (fwMark s) (timeBody s)) s

def raiseTime (f : Fin 7) (s : State) : State := { s with time := { s.time with flags := s.time.flags.raise f } }

/-- The port of a domain, and whether its link is up. -/
def portOf (s : State) (d : Fin 2) : Fin 2 := if (s.domain d).port = 0 then 0 else 1
def domUp (s : State) (d : Fin 2) : Bool := vget s.time.ethUp (portOf s d)

/-! Source selection (14 R283). -/

def okOf (s : State) : TimeSource → Bool
  | .domainA => (s.domain 0).ok
  | .domainB => (s.domain 1).ok
  | .pps => s.time.ppsOk
  | .none => false

/-- REVERT_HOLD has run for domain A. -/
def heldLong (s : State) : Bool :=
  decide ((s.domain 0).okSince + s.time.revertHoldS * Config.secUnits ≤ now s)

/-- Steps 1 to 5 of the selection; the source order allows PTP and PPS_IN. -/
def chooseFree (s : State) : TimeSource :=
  let ptp := s.time.order ≤ 1
  let pps := s.time.order = 0 ∨ s.time.order = 2
  let a := ptp && (s.domain 0).ok
  let b := ptp && (s.domain 1).ok
  if a && !(s.time.source = .domainB && b && !(s.time.revertive && heldLong s)) then .domainA
  else if b then .domainB
  else if pps ∧ s.time.ppsOk = true then .pps
  else .none

/-- The source that is to govern; a force that is no longer OK is cleared (14 R283). -/
def chooseSource (s : State) : TimeSource × TimeSource :=
  if s.time.force ≠ .none ∧ okOf s s.time.force = true then (s.time.force, s.time.force) else (chooseFree s, .none)

/-- Runs the selection, and reports a change (14 R283): without a step; the residual is slewed (R284). While PPS_IN
governs FREQ_ADJ is 0 (R285). -/
def select (s : State) : State :=
  let (src, force) := chooseSource s
  let old := s.time.source
  let s := { s with time := { s.time with force := force } }
  if src = old then s
  else
    let gov := s.time.governed || src ≠ .none
    let s := { s with time := { s.time with
      source := src
      governed := gov
      holdover := src = .none && gov
      slewFresh := src ≠ .none
      freqAdj := if src = .pps then 0 else s.time.freqAdj
      switches := satAdd s.time.switches 1 } }
    timeRecord (postEvent 0x8009 0 11 (src.code + old.code * 2 ^ 8) 0 0 (raiseTime 0 s))

/-- A domain becomes or stops being OK: a time-status record (14 R281, R291). -/
def markOk (d : Fin 2) (b : Bool) (s : State) : State :=
  if (s.domain d).ok = b then s
  else timeRecord (s.modDomain d fun x => { x with ok := b, okSince := now s, good := if b then x.good else 0 })

/-- A domain becomes or stops being OK, and the selection runs where that is a change (14 R283). -/
def setOk (d : Fin 2) (b : Bool) (s : State) : State := if (s.domain d).ok = b then s else select (markOk d b s)

/-- What one evaluation finds of both domains; the selection runs once, after both (14 R283). -/
def evaluate (one : Fin 2 → State → State) (s : State) : State :=
  let s' := one 1 (one 0 s)
  if ∀ d : Fin 2, (s'.domain d).ok = (s.domain d).ok then s' else select s'

/-- What a domain knows of masters and of exchanges under way. -/
def PtpDomain.forget (x : PtpDomain) : PtpDomain :=
  { x with gm := none, parent := none, foreign := [], good := 0, syncWait := none, t1 := none, delayReq := none }

/-- The restart of a domain in LISTENING (14 R292); the selection is left to its caller. -/
def restartDomain (d : Fin 2) (s : State) : State :=
  markOk d false (s.modDomain d fun x => { x.forget with portState := .listening, lost := false, lastAnnounce := now s })

/-- The port state of a domain; one other than SLAVE makes it not OK (14 R281). The selection is left to its caller. -/
def enterPortState (d : Fin 2) (p : PortState) (s : State) : State :=
  let s := s.modDomain d fun x => { x with portState := p }
  if p = .slave then s else markOk d false s

/-- The links of Ethernet ports come up or go down (14 R278): the domains of a port that goes down leave SLAVE; those of one that
comes up listen. Both ports are evaluated as one (14 R283). -/
def ethChange (which : Fin 2 → Bool) (up : Bool) (s : State) : State :=
  let s := { s with time := { s.time with ethUp := Vector.ofFn fun p => if which p then up else vget s.time.ethUp p } }
  evaluate (fun d s =>
    if !which (portOf s d) then s
    else if up then restartDomain d s
    else enterPortState d .faulty (s.modDomain d PtpDomain.forget)) s

end Sys2Proof.Machine
end

