-- ==== Sys2Proof/Machine/Faults.lean ====
section
/-! DEFINITION. The stop of the data plane, fault records (21 R415, R424), and the hardware event lines (01 R16 to R18). -/

namespace Sys2Proof.Machine

/-! Faults. -/

/-- The data plane stops and the interfaces go to their state in FAULT (21 R415, R422). -/
def stopDataPlane (s : State) : State :=
  let s := ethChange (fun _ => true) false (settleFcos s)
  let lanes := s.lanes.lanes.map fun l => { l with state := .off, powered := false }
  let streams := s.lanes.streams.map fun t => { t with ready := false, delivering := false, asm := none }
  let outputs := s.caldera.outputs.map fun o => { o with running := false, state := .off }
  let noSub : Vector Nat 4 := Vector.replicate 4 0
  let ports := s.down.ports.map fun p =>
    { p with linkUp := Vector.replicate 4 false, subRate := noSub, subWidth := noSub }
  { s with
    lanes := { s.lanes with lanes := lanes, streams := streams }
    fabric := { s.fabric with lanes := s.fabric.lanes.map fun l => { l with state := .off } }
    caldera := { s.caldera with outputs := outputs }
    evt := { s.evt with outputs := s.evt.outputs.map fun o => { o with on := false } }
    down := { s.down with ports := ports } }

/-- A fault of severity 3 leads to FAULT (21 R415). -/
def enterFault (s : State) : State :=
  stopDataPlane { s with dev := { s.dev with state := .fault, bootStep := 0, aliveRun := false, aliveLevel := false } }

/-- A fault record (11 R222, 21 R424): issued, posted as an event, counted; severity 3 leads to FAULT. The INVALID_CLOCK
of records that the firmware builds holds while PLL_C is unlocked (21 R419). -/
def faultRecord (s : State) (code sev arg0 arg1 arg2 : Nat) (stream : Option (Fin 16)) : Record :=
  mkRecord s 11 0 stream none (epochNum (epochAt s (now s))) (now s) (atBit 3 (s.dev.fwRunning && !locked s 1))
    (toLe 4 (code + sev * 2 ^ 16) ++ toLe 4 arg0 ++ toLe 8 arg1 ++ toLe 8 arg2)

def raiseFault (code sev arg0 arg1 arg2 : Nat) (stream : Option (Fin 16)) (s : State) : State :=
  let s := emit (faultRecord s code sev arg0 arg1 arg2 stream) s
  let s := postEvent code sev (Config.faultDomain code) arg0 arg1 arg2 s
  let s := { s with dev := { s.dev with faultCount := satAdd s.dev.faultCount 1 } }
  if sev = 3 then enterFault s else s

/-! Hardware event lines. -/

/-- A descriptor's fields (13 R256), of a 32-byte descriptor as a number. -/
def dOp (d : Nat) : Nat := bits 3 0 d
def dSrcSpace (d : Nat) : Nat := bits 7 4 d
def dDstSpace (d : Nat) : Nat := bits 11 8 d
def dStream (d : Nat) : Nat := bits 19 16 d
def dDest (d : Nat) : Nat := bits 23 20 d
def dLine (d : Nat) : Nat := bits 30 24 d
def dLength (d : Nat) : Nat := bits 63 32 d
def dSrc (d : Nat) : Nat := bits 127 64 d
def dDst (d : Nat) : Nat := bits 191 128 d
def dTarget (d : Nat) : Nat := bits 199 192 d
def dIter (d : Nat) : Nat := bits 215 200 d

/-- A descriptor is a move. -/
def dMove (d : Nat) : Bool := dOp d = 1 || dOp d = 2

/-- The consumers of an event line (13 R272): the WAIT_EVENT channels that do not stand STOPPED (R264), the rings it
releases, the doorbell writers of the ARCHIVE moves that name it, and the Vent starts. -/
def lineConsumers (s : State) (line : Nat) : List Consumer :=
  let p := planNow s
  let prog := fun c => (s.dma c).program
  ((List.finRange 32).filter fun c => (prog c).any fun d => dOp d = 3 && dLine d = line).map Consumer.dma ++
  ((List.finRange 16).filter fun i =>
    (p.ringOf i.val).present && (p.ringOf i.val).releaseHe = some line).map Consumer.ring ++
  ((List.finRange 16).filter fun a => (List.finRange 32).any fun c =>
    (prog c).any fun d => dMove d && dDstSpace d = 9 && dDest d = a.val && dLine d = line).map Consumer.doorbell ++
  ((List.finRange 2).filter fun v => (p.device.ventStart.getD v.val none) = some line).map Consumer.vent

/-- One more pulse in a crossing; at 7 pending pulses it merges into the seventh and is counted (01 R18). -/
def cross (line : Fin 128) (s : State) (c : Consumer) : State :=
  let key := (line.val, c)
  let n := ((s.down.crossings.find? (·.1 = key)).map (·.2)).getD 0
  let d := s.down
  if n < 7 then
    { s with down := { d with crossings := (key, n + 1) :: d.crossings.filter (fun e => e.1 ≠ key) } }
  else
    { s with down := { d with
      lineMerges := vmod d.lineMerges line (fun x => satAdd x 1), rowMerges := vmod d.rowMerges 5 (fun x => satAdd x 1) } }

/-- A producer pulses an event line: every consumer receives it through a crossing of its own (13 R272). -/
def pulse (line : Fin 128) (s : State) : State :=
  emitOut (.eventLine line.val) ((lineConsumers s line.val).foldl (cross line) s)

/-- A pulse of a line that the plan names by number, if it names one. -/
def pulseOpt (line : Option Nat) (s : State) : State :=
  match line.bind (unit 128) with
  | some l => pulse l s
  | none => s

end Sys2Proof.Machine
end

