-- ==== Sys2Proof/Machine/GeyserOps.lean ====
section
/-! DEFINITION. Condition events on their way to the sequencers: which program names which condition, and the reorder
queues (07 R135 to R140). -/

namespace Sys2Proof.Machine

/-- The opcode of an instruction word (07 R141). -/
def iOp (w : Nat) : Nat := bits 3 0 w

/-- The go terms of a WAIT (07 R141). -/
def waitTerms (w : Nat) : List Nat := ([bits 15 7 w, bits 24 16 w, bits 33 25 w]).take (bits 6 5 w + 1)

/-- The abort term of a WAIT, if enabled. -/
def waitAbort (w : Nat) : Option Nat := if bit 34 w then some (bits 43 35 w) else none

/-- A program names a condition (07 R138). -/
def GeyserE.names (g : GeyserE) (c : Nat) : Bool :=
  g.instrs.any fun w => iOp w = 1 && ((waitTerms w).contains c || waitAbort w = some c)

/-- Puts a late event behind the late ones that are already to be taken (07 R139). -/
def insertLate (t : Taking) : List Taking → List Taking
  | [] => [t]
  | x :: r => if x.late then x :: insertLate t r else t :: x :: r

/-- The epoch of a condition event (07 R137, 03 R49): by index for a spectral condition, else by station time. -/
def eventEpoch (s : State) (e : Event) : Option Nat :=
  match e.anchor with
  | some a => if e.cond < 256 then (unit 16 a.stream).bind fun i => epochOfIndex s i a.index else epochAt s e.time
  | none => epochAt s e.time

/-- The event belongs to an epoch at or after `k`. -/
def eventFrom (s : State) (e : Event) (k : Nat) : Bool := (eventEpoch s e).any fun x => decide (k ≤ x)

/-- The bank whose program takes an event: the one that the sequencer is to switch to has every event from its flip's
epoch on, and events before the program's first epoch belong to none (07 R146). -/
def programFor (s : State) (r : Seq) (e : Event) : Option (Fin 2) :=
  match r.switchAt with
  | some (k, b) => if eventFrom s e k then some b else r.bank
  | none => if r.since = 0 || eventFrom s e r.since then r.bank else none

/-- An event reaches a sequencer's reorder queue, if the program that takes it names the condition; a late one is to be
taken next, in arrival order (07 R138, R139). An event that finds 16,384 in the queue is dropped. -/
def enqueue (e : Event) (s : State) (q : Fin 16) : State :=
  let r := s.seqr q
  let named := (programFor s r e).any fun b => ((planIn s b).seqOf q.val).names e.cond
  let late := r.lastTaken.any fun t => decide (e.time < t)
  let n := r.queue.length + r.released.length
  if r.run = .stopped || !named || (late && r.run = .halted) || decide (16384 ≤ n) then s
  else
    (s.modSeq q fun r =>
      if late then { r with released := insertLate { event := e, late := true } r.released }
      else { r with queue := r.queue ++ [e] }).modStat q
      fun t => { t with queuePeak := BitVec.ofNat 16 (max t.queuePeak.toNat (n + 1)) }

/-- A condition event goes to every sequencer (07 R136, R138). -/
def condEvent (cond time : Nat) (anchor : Option Anchor) (s : State) : State :=
  (List.finRange 16).foldl (enqueue { cond := cond, time := time, anchor := anchor }) s

/-- A capture's post-trigger region has ended: holdoffs that wait for it go on (07 R144 CAPTURE). -/
def captureDone (i : Fin 16) (id : U32) (s : State) : State :=
  (List.finRange 16).foldl (fun s q =>
    if (s.seqr q).captures.contains (i.val, id.toNat) then
      s.modSeq q fun r => { r with captures := r.captures.filter (· ≠ (i.val, id.toNat)), capEnd := max r.capEnd (now s) }
    else s) s

end Sys2Proof.Machine
end

