-- ==== Sys2Proof/Machine/Cxl.lean ====
section
/-! DEFINITION. CXL windows, request credits and transfers (12 R236 to R240). -/

namespace Sys2Proof.Machine

/-- 512 GiB, the largest window. -/
def windowMax : Nat := 512 * 2 ^ 30

/-- The mapped window of a port in bytes, 0 while it cannot be used (12 R236, R237, R240). -/
def windowOf (p : Port) : Nat :=
  let cap := fun n : Fin 4 => if vget p.linkUp n then vget p.capacity n else 0
  match p.mode.val with
  | 1 => min (cap 0) windowMax
  | 2 => min (2 * min (cap 0) (cap 1)) windowMax
  | _ => 0

def downPort (s : State) (p : Fin 4) : Port := vget s.down.ports p

/-- The port that a number names. -/
def cxlPort (n : Nat) : Fin 4 := ⟨n % 4, Nat.mod_lt _ (by decide)⟩

/-- The window takes accesses up to an address. -/
def windowHolds (s : State) (p : Fin 4) (addr len : Nat) : Bool :=
  locked s 4 && decide (addr + len ≤ windowOf (downPort s p))

/-- The CXL device on a sub-link of a port. -/
def cxlDevice (p : Fin 4) (sub : Nat) : Fin 8 := ⟨2 * p.val + sub % 2, by omega⟩

/-- Where a window address lies in a mode: sub-link and device address (12 R236). -/
def deviceAddr (mode a : Nat) : Nat × Nat :=
  if mode = 2 then (a / 2 ^ 12 % 2, a / 2 ^ 13 * 2 ^ 12 + a % 2 ^ 12) else (0, a)

/-- The end, within `len` bytes from a window address, of what lies on one device. -/
def pieceLen (a len : Nat) : Nat := min len (4096 - a % 4096)

/-- Bytes go to the devices of a window piece by piece; `n` bounds the pieces. -/
def putPieces (p : Fin 4) (mode : Nat) : Nat → Nat → List Byte → State → State
  | 0, _, _, s => s
  | n + 1, a, bs, s =>
    if bs.isEmpty then s
    else
      let k := pieceLen a bs.length
      let d := deviceAddr mode a
      putPieces p mode n (a + k) (bs.drop k) (s.modCxl (cxlDevice p d.1) fun m => memWrite m d.2 (bs.take k))

/-- Bytes from the devices of a window. -/
def getPieces (s : State) (p : Fin 4) (mode : Nat) : Nat → Nat → Nat → List Byte
  | 0, _, _ => []
  | n + 1, a, len =>
    if len = 0 then []
    else
      let k := pieceLen a len
      let d := deviceAddr mode a
      memRead (vget s.down.cxl (cxlDevice p d.1)) d.2 k ++ getPieces s p mode n (a + k) (len - k)

/-- Bytes of a window change. -/
def cxlPut (p : Fin 4) (addr : Nat) (bs : List Byte) (s : State) : State :=
  putPieces p (downPort s p).mode.val (bs.length / 4096 + 2) addr bs s

/-- Bytes of a window. -/
def cxlPeek (s : State) (p : Fin 4) (addr len : Nat) : List Byte :=
  getPieces s p (downPort s p).mode.val (len / 4096 + 2) addr len

/-- Bytes written to the window at once: what the writer side completes without a request of its own. -/
def cxlPoke (p : Fin 4) (addr : Nat) (bs : List Byte) (s : State) : State :=
  if windowHolds s p addr bs.length then cxlPut p addr bs s else s

/-- Credits that transfers hold (12 R238). -/
def creditsOf (rs : List CxlReq) : Nat := (rs.map (·.held)).sum

/-- Credits that a transfer takes of a pool: one per 64 bytes, and of a pool that has fewer all of them, while its requests
follow one another (log entry 61: DEDUCED). -/
def creditNeed (pool len : Nat) : Nat := min (ceilDiv len 64) pool

/-- The transfers of a Basin writer on a port. -/
def writerReqs (s : State) (p : Fin 4) (i : Fin 16) : List CxlReq :=
  (downPort s p).requests.filter fun r => r.user = .writer i

/-- Reads of a port's reader pool. -/
def readReqs (s : State) (p : Fin 4) : List CxlReq := (downPort s p).requests.filter fun r => !r.write

/-- REQ_PEAK follows the credits held (12 R243), of which there are 1,024. -/
def Port.notePeak (d : Port) (held : Nat) : Port :=
  { d with reqPeak := BitVec.ofNat 16 (max d.reqPeak.toNat (min 1024 held)) }

/-- Issues a transfer. -/
def cxlIssue (p : Fin 4) (r : CxlReq) (s : State) : State :=
  s.modDown p fun d =>
    let rs := d.requests ++ [r]
    ({ d with requests := rs } : Port).notePeak (creditsOf rs)

end Sys2Proof.Machine
end

