-- ==== Sys2Proof/Machine/Rings.lean ====
section
/-! DEFINITION. Basin rings: tiles, captures, entries, descriptor tiles, and the change of rings at a flip (09 R163 to R171,
R182). -/

namespace Sys2Proof.Machine

/-! Tiles. -/

/-- Samples of a data tile (09 R163). -/
def tileSamples (packed : Bool) : Nat := if packed then 1344 else 1008

def RingRt.samples (r : RingRt) : Nat := tileSamples r.packed

/-- The 64 header bytes of a tile with CRC32C 0 (09 R163). -/
def tileHeader (kind stream : Nat) (packed : Bool) (node seq flags first time epoch delivered aux : Nat) : List Byte :=
  toLe 4 0xB5A10640 ++ toLe 4 (kind + stream * 2 ^ 4 + atBit 8 packed + node * 2 ^ 10 + 2 ^ 16) ++ toLe 6 seq ++
  toLe 2 flags ++ toLe 8 first ++ timeBytes time ++ toLe 8 epoch ++ toLe 2 delivered ++ toLe 2 0 ++ toLe 8 aux ++ toLe 8 0

/-- A tile with its CRC32C (09 R166). -/
def sealTile (header payload : List Byte) : List Byte :=
  let p := padTo 4032 payload
  header.take 60 ++ toLe 4 (crc32c (header.take 60 ++ [0, 0, 0, 0] ++ p)) ++ p

/-- The stored CRC32C matches (09 R166, R167). -/
def tileGood (t : List Byte) : Bool :=
  decide (ofLe ((t.drop 60).take 4) = (crc32c (t.take 60 ++ [0, 0, 0, 0] ++ t.drop 64)))

/-- A header rewrite: the new flags, and the CRC32C from the old one and the header difference (09 R172). -/
def rewriteFlags (flags : Nat → Nat) (t : List Byte) : List Byte :=
  let old := t.take 60
  let new := t.take 14 ++ toLe 2 (flags (ofLe ((t.drop 14).take 2))) ++ (t.drop 16).take 44
  let part := fun h : List Byte => (crc32c (h ++ List.replicate 4036 0))
  new ++ toLe 4 (ofLe ((t.drop 60).take 4) ^^^ part old ^^^ part new) ++ t.drop 64

/-- The payload of a data tile (09 R163): samples as the stream carries them, 0 where undelivered. -/
def tilePayload (packed : Bool) (xs : List (Option IQ)) : List Byte :=
  let z := fun x : Option IQ => x.getD default
  if packed then xs.flatMap fun x => toLe 3 (unsigned 12 (sar (z x).i 4) + unsigned 12 (sar (z x).q 4) * 2 ^ 12)
  else xs.flatMap fun x => toLe 2 (unsigned 16 (z x).i) ++ toLe 2 (unsigned 16 (z x).q)

/-- Window address of data tile `seq` and of descriptor slot `n` (09 R169). -/
def RingRt.tileAddr (r : RingRt) (seq : Nat) : Nat := r.cfg.base + (64 + seq % max r.cfg.ringTiles 1) * 4096
def RingRt.slotAddr (r : RingRt) (n : Nat) : Nat := r.cfg.base + n * 4096

/-! Captures. -/

/-- The grid tiles that hold a capture's range. -/
def Capture.gridLo (c : Capture) (n : Nat) : Nat := c.lo / n
def Capture.gridHi (c : Capture) (n : Nat) : Nat := (c.hi - 1) / n

/-- The capture protects tiles: it is OPEN or CLOSED, or retracted while a move still reads it (08 R159). -/
def Capture.protects (c : Capture) : Bool :=
  match c.state with
  | .opened | .closed => true
  | .retracted => decide (0 < c.readers)
  | _ => false

/-- A slot is FREE: it holds no capture that protects tiles (09 R173). -/
def slotFree (o : Option Capture) : Bool := o.all fun c => !c.protects

/-- A written tile belongs to the capture: it lies in its range, or among the tiles that a recovered entry names. -/
def Capture.holds (c : Capture) (n : Nat) (t : TileInfo) : Bool :=
  decide (c.firstSeq ≤ t.seq) &&
    (match c.stopSeq with
     | some l => decide (t.seq < l)
     | none => decide (c.gridLo n ≤ t.grid ∧ t.grid ≤ c.gridHi n))

/-- The captures of a ring, by slot. -/
def RingRt.captures (r : RingRt) : List (Fin 64 × Capture) :=
  (List.finRange 64).filterMap fun n => (vget r.slots n).map fun c => (n, c)

/-- The tiles that a capture holds, oldest first. -/
def RingRt.heldTiles (r : RingRt) (c : Capture) : List TileInfo := (r.tiles.filter (c.holds r.samples)).reverse

/-- The captures that hold a tile. -/
def RingRt.holders (r : RingRt) (t : TileInfo) : List Capture :=
  (r.captures.map (·.2)).filter fun c => c.protects && c.holds r.samples t

/-- PROVISIONAL of a tile: it is held, and every capture that holds it is provisional (09 R165). -/
def RingRt.tileProv (r : RingRt) (t : TileInfo) : Bool :=
  let hs := r.holders t
  !hs.isEmpty && hs.all (·.provisional)

/-- The tile in the ring position of `seq`, written a whole turn before, is held (09 R176). -/
def RingRt.positionHeld (r : RingRt) (seq : Nat) : Bool :=
  r.tiles.any fun t => decide (t.seq + r.cfg.ringTiles = seq) && !(r.holders t).isEmpty

/-- Samples before the trigger index, from the range's start on, that the capture holds (09 R171). -/
def RingRt.preHeld (r : RingRt) (c : Capture) : Nat :=
  let n := r.samples
  ((r.heldTiles c).map fun t => min c.trigIndex ((t.grid + 1) * n) - max c.lo (t.grid * n)).sum

/-- Tiles of the range that were not written because the writer stood (09 R173). -/
def RingRt.lostTiles (r : RingRt) (c : Capture) : Nat :=
  c.lost + (r.unwritten.filter fun g => decide (c.gridLo r.samples ≤ g ∧ g ≤ c.gridHi r.samples)).length

def CapState.code : CapState → Nat
  | .free => 0
  | .opened => 1
  | .closed => 2
  | .released => 3
  | .retracted => 4

/-- A capture entry (09 R182). -/
def RingRt.entry (r : RingRt) (c : Capture) : List Byte :=
  let lost := r.lostTiles c
  let gap := c.gap || decide (0 < lost)
  toLe 4 c.id.toNat ++
  toLe 4 (c.state.code + atBit 3 c.provisional + atBit 4 c.truncated + atBit 5 gap + atBit 6 c.orphan + atBit 7 c.recovered +
    atBit 8 c.fabric + c.source * 2 ^ 9 + c.origin * 2 ^ 13) ++
  toLe 4 c.fireSeq ++ toLe 4 (min 65535 c.badCrc) ++ toLe 8 c.trigIndex ++ timeBytes c.trigTime ++ toLe 8 c.epoch ++
  toLe 8 (c.firstSeq % 2 ^ 48) ++ toLe 4 (r.heldTiles c).length ++ toLe 4 lost ++ toLe 4 (r.preHeld c)

/-- A descriptor tile (09 R164). -/
def descTile (s : State) (i : Fin 16) (r : RingRt) (n : Fin 64) (entry : List Byte) (trig : Nat) : List Byte :=
  sealTile (tileHeader 2 i.val r.packed (nodeId s) (vget r.descs n % 2 ^ 48) 0 trig (now s) (epochNum (epochAt s (now s))) 0
    (r.cfg.ringTiles + n.val * 2 ^ 32)) entry

/-! Rings of a stream: the one in use and the retired ones. -/

/-- Two values stand for the same ring, at different times. -/
def RingRt.isRing (a b : RingRt) : Bool := a.cfg = b.cfg && a.start = b.start

/-- All rings of a stream change alike. -/
def modRings (i : Fin 16) (f : RingRt → RingRt) (s : State) : State :=
  s.modBasin i fun b => { b with ring := f b.ring, retired := b.retired.map f }

/-- The rings of a stream: the one in use first. -/
def ringsOf (s : State) (i : Fin 16) : List RingRt := (s.basinOf i).ring :: (s.basinOf i).retired

/-- A ring lies in use of the stream: it has a place in CXL memory. -/
def findCap (s : State) (i : Fin 16) (id : U32) : Option (RingRt × Fin 64 × Capture) :=
  (ringsOf s i).findSome? fun r => (r.captures.find? fun c => c.2.id = id).map fun c => (r, c.1, c.2)

/-- A capture changes. -/
def modCap (i : Fin 16) (id : U32) (f : Capture → Capture) (s : State) : State :=
  modRings i (fun r => { r with slots := r.slots.map fun o => o.map fun c => if c.id = id then f c else c }) s


/-! A flip. -/

/-- The ring is done: a flip has ended it, every tile has been written, and every slot is FREE. -/
def RingRt.spent (r : RingRt) : Bool :=
  r.queue.isEmpty && r.endGrid.any (fun g => decide (g ≤ r.nextGrid)) && r.slots.toList.all slotFree

/-- The descriptor tiles of a new ring: every slot FREE (09 R169). -/
def freeDescs (i : Fin 16) (r : RingRt) (s : State) : State :=
  (List.finRange 64).foldl (fun s n =>
    cxlPoke (cxlPort r.cfg.port) (r.slotAddr n.val) (descTile s i r n (List.replicate 64 0) 0) s) s

/-- The envelopes of a stream at a flip (09 R177). -/
def flipEnvelopes (e : BasinE) (b : Nat) (l : List Envelope) : List Envelope :=
  let on := e.present && decide (0 < e.envK)
  match l.getLast? with
  | some x =>
    if x.endAt.isNone && on && x.k = e.envK then l
    else
      (l.map fun y => { y with endAt := some (y.endAt.getD b) }) ++
        (if on then [{ k := e.envK, next := ceilDiv b (2 ^ e.envK), begun := false, endAt := none }] else [])
  | none => if on then [{ k := e.envK, next := ceilDiv b (2 ^ e.envK), begun := false, endAt := none }] else []

/-- A flip reaches the Basin writer of a stream at B_k = `b` (09 R169, R183): an identical ring goes on, a recovered one
begins, any other is retired, and the new bank's starts anew. -/
def basinFlip (i : Fin 16) (new : Fin 2) (b : Nat) (s : State) : State :=
  let e := (planIn s new).ringOf i.val
  let packed := ((planIn s new).stream i.val).packed
  let x := s.basinOf i
  let cur := x.ring
  let inUse := decide (x.state ≠ .off)
  let env := flipEnvelopes e b x.env
  if inUse && e.present && cur.cfg = e && cur.packed = packed then s.modBasin i fun x => { x with env := env }
  else if !inUse && e.present && cur.cfg = e && s.basin.recover = some new then
    s.modBasin i fun x =>
      { x with state := .writing, env := env
               ring := { cur with packed := packed, start := b, nextGrid := ceilDiv b (tileSamples packed) } }
  else
    let old : List RingRt := if inUse then [{ cur with endGrid := some (ceilDiv b cur.samples) }] else []
    let keep := (old ++ x.retired).filter fun r => !r.spent
    if e.present then
      let ring := { RingRt.reset with cfg := e, packed := packed, start := b, nextGrid := ceilDiv b (tileSamples packed) }
      let s := s.modBasin i fun x =>
        { x with ring := ring, retired := keep, env := env, state := if x.stop.isSome then x.state else .writing }
      freeDescs i ring s
    else s.modBasin i fun x => { x with ring := RingRt.reset, retired := keep, env := env, state := .off, stop := none }

end Sys2Proof.Machine
end

