-- ==== Sys2Proof/Machine/Serve.lean ====
section
/-! DEFINITION. Core 0 serving the mailboxes: taking the command at the head of the serial order, its checks, its
response, the semaphores it pins, and the commands whose response comes later (18 R355 to R366, 19 R371 to R377). -/

namespace Sys2Proof.Machine

/-- The owner codes (18 R362). -/
def Owner.code : Owner → Nat
  | .portA => 1
  | .portB => 2
  | .tunnelA => 3
  | .tunnelB => 4

def ownerCode : Option Owner → Nat
  | some o => o.code
  | none => 0

def portOwner (p : PortId) : Owner := if p = 0 then .portA else .portB

/-- The owner for whom a command runs (16 R332, 18 R362). -/
def Source.owner : Source → Owner
  | .slot p _ => portOwner p
  | .tunnel o _ => o

/-- The values of STATUS (19 R372). -/
def Status.code : Status → Nat
  | .ok => 0
  | .busyRunning => 1
  | .notOwner => 2
  | .badParam => 3
  | .badAlign => 4
  | .budgetExceeded => 5
  | .planLate => 6
  | .crcFail => 7
  | .notReady => 8
  | .timeout => 9
  | .refusedState => 10
  | .stepLate => 11

/-- The codes of the command table (19 R375). -/
def commandCodes : List Nat :=
  [0x101, 0x102, 0x103, 0x104, 0x105, 0x106, 0x201, 0x202, 0x203, 0x204, 0x301, 0x302, 0x303, 0x401, 0x501, 0x502,
   0x503, 0x504, 0x505, 0x601, 0x602, 0x603, 0x604, 0x701, 0x702, 0x703, 0x704, 0x705, 0x706, 0x707, 0x801, 0x802,
   0x803, 0x804, 0x805, 0x806, 0x807, 0x901, 0x902, 0x903, 0xA01, 0xA02, 0xA03, 0xA04, 0xA05, 0xA06, 0xB01, 0xB02,
   0xB03, 0xB04, 0xB05, 0xB06, 0xC01, 0xC02, 0xC03, 0xC04, 0xD01, 0xD02, 0xD03, 0xD04, 0xE01, 0xE02, 0xE03, 0xE04,
   0xF01, 0xF02, 0xF03, 0xF04, 0xF05, 0xF06, 0x1001]

/-- A response: status, DETAIL, payload. -/
structure Reply where
  status  : Status
  detail  : Nat
  payload : List Byte
  deriving DecidableEq, Repr, Inhabited

/-- What deciding a command yields: a response now, a response under a domain of its own finding (19 R387), or a wait
for a later event (18 R359). -/
inductive Verdict where
  | reply (r : Reply)
  | replyIn (domain : Fin 16) (r : Reply)
  | wait (w : Wait)
  deriving DecidableEq, Repr

/-- OK with a response payload. -/
def ok (bs : List Byte) : Verdict := .reply { status := .ok, detail := 0, payload := bs }
/-- A refusal that changes nothing. -/
def refuse (st : Status) (detail : Nat) : Verdict := .reply { status := st, detail := detail, payload := [] }
/-- BAD_PARAM at a payload offset (19 R373). -/
def bad (off : Nat) : Verdict := refuse .badParam off

/-- How a command's request is checked before its outcome table (19 R374). -/
structure CmdSpec where
  code   : Nat
  domain : Cmd → Option (Fin 16)
  fields : Cmd → List Field
  length : Cmd → Nat
  boot   : Cmd → Bool

/-- A command of fixed request fields. -/
def fixedSpec (code : Nat) (domain : Option (Fin 16)) (fields : List Field) : CmdSpec :=
  { code := code, domain := fun _ => domain, fields := fun _ => fields, length := fun _ => requestEnd 0 fields,
    boot := fun _ => false }

/-! Semaphores. -/

def semOwner (s : State) (i : Fin 64) : Option Owner := vget s.host.owner i

def setSem (i : Fin 64) (o : Option Owner) (s : State) : State :=
  { s with host := { s.host with owner := vset s.host.owner i o, held := vset s.host.held i false } }

/-- A command that awaits its response pins the semaphore (18 R364). -/
def pinned (s : State) (i : Fin 64) : Bool := s.host.deferred.any fun d => d.pin = some i

/-- A release by the owner: at once, or held while a command pins the semaphore (18 R362, R364). -/
def releaseSem (i : Fin 64) (s : State) : State :=
  if pinned s i then { s with host := { s.host with held := vset s.host.held i true } } else setSem i none s

/-- After a response, a held release takes effect unless another command still pins the semaphore (18 R364). -/
def settle (i : Fin 64) (s : State) : State :=
  if vget s.host.held i && !pinned s i then setSem i none s else s

/-- The semaphore of a domain (18 R361). -/
def domainSem (d : Fin 16) : Fin 64 := ⟨d.val, by omega⟩

/-- The mask of the semaphores that an owner holds. -/
def ownedMask (s : State) (o : Owner) : Nat :=
  (List.finRange 64).foldl (fun m i => m + atBit i.val (semOwner s i == some o)) 0

/-- Forced release of an owner's semaphores (18 R365): every pin of the owner's commands ends, their responses are
discarded, and an event names what was released. -/
def forceRelease (o : Owner) (s : State) : State :=
  let mask := ownedMask s o
  let h := s.host
  let deferred := h.deferred.map fun d => if d.cmd.source.owner = o then { d with pin := none, discard := true } else d
  let owner := h.owner.map fun x => if x = some o then none else x
  let held := Vector.ofFn fun i : Fin 64 => vget h.held i && !(vget h.owner i == some o)
  let s := { s with host := { h with deferred := deferred, owner := owner, held := held } }
  if mask = 0 then s
  else
    let flag := fun p (s : State) => if (s.port p).linkUp then raiseHost p .semForcedRelease s else s
    postEvent 0x800C 0 31 o.code mask 0 (flag 1 (flag 0 s))

/-! Responses. -/

/-- The 32-byte header of a completed slot, from RSP_LENGTH on (18 R355). -/
def responseHeader (c : Cmd) (domain : Option (Fin 16)) (r : Reply) : List Byte :=
  toLe 2 r.payload.length ++ toLe 4 ((domain.map (·.val)).getD 31) ++ toLe 2 r.status.code ++ toLe 2 r.detail ++
  toLe 4 c.seq.toNat ++ toLe 8 c.order.toNat

/-- A response's slot image, as the tunnel carries it back (16 R331). -/
def responseImage (c : Cmd) (domain : Option (Fin 16)) (r : Reply) : List Byte :=
  toLe 4 c.seq.toNat ++ toLe 2 c.code.toNat ++ toLe 2 c.flags.toNat ++ toLe 2 c.length.toNat ++
  responseHeader c domain r ++ r.payload

/-- Sends a transfer as messages in order, FIRST on the first and LAST on the last (16 R331). -/
def sendFragments (lanes : List (Fin 12)) (dst : Nat) (mk : List Byte → FabBody) (bs : List Byte) (s : State) : State :=
  let fs := fragments (bs.length + 1) bs
  (fs.zip (List.range fs.length)).foldl
    (fun s f => originate lanes dst (f.2 = 0) (f.2 + 1 = fs.length) (mk f.1) s) s

/-- The index of a tunnel owner among the two that store responses (16 R332). -/
def Owner.tunnelIndex : Owner → Fin 2
  | .tunnelB => 1
  | _ => 0

/-- Completes a slot in the order of 18 R356, or returns the inner response through the tunnel (16 R331, R332). -/
def respond (c : Cmd) (domain : Option (Fin 16)) (r : Reply) (s : State) : State :=
  match c.source with
  | .slot p n =>
    let fill := fun sl : Slot =>
      { state := .done, bytes := memWrite (memWrite sl.bytes 0x20 r.payload) 0x0A (responseHeader c domain r) }
    let s := s.modPort p fun h => { h with slots := vmod h.slots n fill }
    if bit 0 c.flags.toNat then sendMsix p 1 s else s
  | .tunnel o tag =>
    let image := responseImage c domain r
    let keep := fun l : List (Nat × List Byte) => ((tag, image) :: l.filter (fun e => e.1 ≠ tag)).take 16
    let s := { s with fabric := { s.fabric with stored := vmod s.fabric.stored o.tunnelIndex keep } }
    sendFragments (activeUplink s) 0 (.tunnelRsp o.tunnelIndex.val tag) image s

/-- The deferred command that the predicate picks responds now; its pin ends and a held release takes effect. A
response whose port was reset is discarded (18 R364, R365). -/
def finish (pick : Wait → Bool) (reply : Deferred → State → State × Reply) (s : State) : State :=
  match s.host.deferred.find? (fun d => pick d.wait) with
  | none => s
  | some d =>
    let s := { s with host := { s.host with deferred := s.host.deferred.erase d } }
    let (s, r) := reply d s
    let s := if d.discard then s else respond d.cmd d.domain r s
    match d.pin with
    | some i => settle i s
    | none => s

/-- A deferred command that the predicate picks exists. -/
def waits (pick : Wait → Bool) (s : State) : Bool := s.host.deferred.any fun d => pick d.wait

/-! Deciding. -/

/-- The commands that BOOT and FAULT allow, and a full boot after a bad firmware copy (21 R413, R414 to R416). -/
def bootRefuses (spec : CmdSpec) (c : Cmd) (s : State) : Bool :=
  (s.dev.state = .boot || s.dev.state = .fault || s.dev.bootStep ≠ 0) && !spec.boot c

/-- A tunnelled command that names a host address: a ring's base, or a HOST address in a descriptor of DMA_LOAD (16
R333). -/
def foreignHost (c : Cmd) : Bool :=
  match c.source with
  | .slot .. => false
  | .tunnel .. =>
    c.code = 0x0901 || (c.code = 0x0F01 && (List.range (c.u 2 1)).any fun i =>
      let d := c.u (8 + 32 * i) 32
      dMove d && ([6, 7].contains (dSrcSpace d) || [6, 7].contains (dDstSpace d)))

/-- The checks before the outcome table, in order (18 R357, 19 R374); the domain is that which the ownership check
names, none where it was not reached or the command has none. -/
def precheck (spec : CmdSpec) (c : Cmd) (s : State) : Option (Option (Fin 16) × Status × Nat) :=
  if 480 < c.length.toNat ∨ 1 < c.flags.toNat ∨ foreignHost c = true then some (none, .badParam, 0)
  else if bootRefuses spec c s then some (none, .notReady, 0)
  else if c.length.toNat ≠ spec.length c then some (none, .badParam, spec.length c)
  else match reservedBad c 0 (spec.fields c) with
    | some o => some (none, .badParam, o)
    | none =>
      match spec.domain c with
      | none => none
      | some d =>
        if semOwner s (domainSem d) = some c.source.owner then none
        else some (some d, .notOwner, ownerCode (semOwner s (domainSem d)))

/-- The slot of a command that core 0 has taken is EXECUTING (18 R356). -/
def markExecuting (c : Cmd) (s : State) : State :=
  match c.source with
  | .slot p n => s.modPort p fun h => { h with slots := vmod h.slots n fun sl => { sl with state := .executing } }
  | .tunnel _ _ => s

/-- Commands of an unknown CODE at the head of the serial order complete with BAD_PARAM (18 R357); `n` bounds how many
there can be. -/
def drainUnknown : Nat → State → State
  | 0, s => s
  | n + 1, s =>
    match s.host.serial with
    | [] => s
    | c :: rest =>
      if commandCodes.contains c.code.toNat then s
      else
        let s := { s with host := { s.host with serial := rest } }
        drainUnknown n (respond c none { status := .badParam, detail := 0, payload := [] } s)

/-- Core 0 goes on to the next command it knows, where its firmware runs. -/
def drain (s : State) : State := if firmware s then drainUnknown s.host.serial.length s else s

/-- Acts on what deciding yields: the response, or the wait with the semaphore pinned (18 R359, R364). -/
def conclude (c : Cmd) (domain : Option (Fin 16)) (v : Verdict) (s : State) : State :=
  match v with
  | .reply r => respond c domain r s
  | .replyIn d r => respond c (some d) r s
  | .wait w =>
    let d : Deferred := { cmd := c, domain := domain, pin := domain.map domainSem, discard := false, wait := w }
    { s with host := { s.host with deferred := s.host.deferred ++ [d] } }

/-- Core 0 takes the command at the head of the serial order, when it is one of this code and the firmware runs, and
decides it completely (18 R359, R364). -/
def serve (spec : CmdSpec) (body : Cmd → State → State × Verdict) (s : State) : State :=
  match s.host.serial with
  | [] => s
  | c :: rest =>
    if firmware s = true ∧ c.code.toNat = spec.code then
      let s := markExecuting c { s with host := { s.host with serial := rest } }
      match precheck spec c s with
      | some (d, st, x) => drain (respond c d { status := st, detail := x, payload := [] } s)
      | none => let (s, v) := body c s; drain (conclude c (spec.domain c) v s)
    else s

/-! Status commands (19 R377). -/

/-- The request of a status command: SELECT, FLAGS, CLEAR. -/
def statusSpec (code : Nat) (domain : Fin 16) : CmdSpec :=
  let fields := [whole 8, (1, 1), whole 4]
  { code := code, domain := fun c => if bit 0 (c.u 8 1) then some domain else none, fields := fun _ => fields,
    length := fun _ => requestEnd 0 fields, boot := fun _ => false }

/-- The request of a status command of a single unit: FLAGS, CLEAR (19 R375). -/
def singleSpec (code : Nat) (domain : Fin 16) : CmdSpec :=
  let fields := [(1, 1), whole 4]
  { code := code, domain := fun c => if bit 0 (c.u 0 1) then some domain else none, fields := fun _ => fields
    length := fun _ => requestEnd 0 fields, boot := fun c => !bit 0 (c.u 0 1) }

/-- A status command over `units` units with entries of `size` bytes after `head`: the checks of 19 R377, then the
entries from before the clear, then the clear of every selected unit. -/
def statusBody (units size : Nat) (head : State → List Byte) (entry : State → Nat → List Byte)
    (clear : Nat → Nat → State → State) (c : Cmd) (s : State) : State × Verdict :=
  let sel := selected (c.u 0 8)
  let bs := head s
  if sel.isEmpty ∨ sel.any (fun n => decide (units ≤ n)) ∨ 480 < bs.length + size * sel.length then (s, bad 0)
  else if bit 0 (c.u 8 1) = false ∧ c.u 12 4 ≠ 0 then (s, bad 12)
  else
    let rsp := bs ++ (sel.map (entry s)).flatten
    if bit 0 (c.u 8 1) then (sel.foldl (fun s n => clear n (c.u 12 4) s) s, ok rsp) else (s, ok rsp)

end Sys2Proof.Machine
end

