-- ==== Sys2Proof/Machine/Sources.lean ====
section
/-! DEFINITION. Sources of views: delivered samples and their marks, the hop grid and its ready transforms (05 R84, R85,
R104), the zoom channels (06 R107 to R116), and a flip as it reaches a source (03 R50 step 5). -/

namespace Sys2Proof.Machine

/-! Samples and marks. -/

/-- A delivered sample. -/
def sampleAt (segs : List Seg) (x : Nat) : Option IQ :=
  match segs.find? fun g => decide (g.start ≤ x ∧ x < g.start + g.data.length) with
  | some g => g.data[x - g.start]?
  | none => none

/-- `n` samples from an index on, if all of them were delivered. -/
def window (segs : List Seg) (x n : Nat) : Option (List IQ) := (List.range n).mapM fun i => sampleAt segs (x + i)

/-- Every index from `lo` to `hi` was delivered. -/
def covered (segs : List Seg) (lo hi : Nat) : Bool :=
  (List.range (hi + 1 - lo)).all fun i => (sampleAt segs (lo + i)).isSome

/-- The end of what a stream has delivered or passed: one above the last delivered index. -/
def StreamRt.avail (t : StreamRt) : Nat :=
  match t.last with
  | some e => e + 1
  | none => 0

/-- The union of the marks over the indices `lo` to `hi`: LINK_ERR, OVERRANGE, CONV_UNLOCK (04 R69, R70). -/
def marksOver (marks : List Mark) (lo hi : Nat) : Bool × Bool × Bool :=
  let m := marks.filter fun m => decide (m.lo ≤ hi ∧ lo < m.hi)
  (m.any (·.linkErr), m.any (·.overrange), m.any (·.convUnlock))

/-- The union of marks as header flags: LINK_ERR in bit 2 of the record flags and so on are placed by the caller. -/
def orMarks (a b : Bool × Bool × Bool) : Bool × Bool × Bool := (a.1 || b.1, a.2.1 || b.2.1, a.2.2 || b.2.2)

/-- The flags of a record header that stand for link marks (11 R213). -/
def markFlags (m : Bool × Bool × Bool) : Nat := atBit 7 m.1 + atBit 8 m.2.1 + atBit 9 m.2.2

/-! Sources by number: 0 to 15 streams, 16 to 47 zoom channels (05 R88). -/

/-- The stream that feeds a source. -/
def streamOf (s : State) (src : Nat) : Fin 16 :=
  match unit 16 src with
  | some i => i
  | none =>
    match unit 32 (src - 16) with
    | some c => ⟨(s.zoom c).cfg.source % 16, Nat.mod_lt _ (by decide)⟩
    | none => 0

/-- The index on the stream of an index of a source (06 R48: s0 + m x D for a zoom channel). -/
def streamIndex (s : State) (src x : Nat) : Nat :=
  match unit 32 (src - 16) with
  | some c => if src < 16 then x else (s.zoom c).s0 + x * (s.zoom c).cfg.d
  | none => x

/-- The restart of a source that is in use: of a zoom channel, else 0. -/
def genOf (s : State) (src : Nat) : Nat :=
  match unit 32 (src - 16) with
  | some c => if src < 16 then 0 else (s.zoom c).gen
  | none => 0

/-- The epoch of an index of a source (03 R48, R49). -/
def sourceEpoch (s : State) (src x : Nat) : Nat := epochNum (epochOfIndex s (streamOf s src) (streamIndex s src x))

/-- B_k of a source stream, once it is placed. -/
def boundaryIndex (s : State) (i : Fin 16) (k : Nat) : Option Nat := (epochRec s i k).map (·.start)

/-- The first boundary index of a source stream from boundary `k` on. -/
def boundaryFrom (s : State) (i : Fin 16) (k : Nat) : Option Nat :=
  (((s.bound i).hist.filter fun r => decide (k ≤ r.k) && r.k ≠ Config.noEpoch).getLast?).map (·.start)

/-- Trigger time and anchor of an index of a source (07 R136). -/
def indexTime (s : State) (src x : Nat) : Nat := instantOf s (streamOf s src) (streamIndex s src x)

/-- The first index of a stream whose fitted sampling instant is at or after a station time (03 R46): ceil of the fit
with its 32 fraction bits, to which r x (t - t0) is rounded down (log entry 56: DESIGN CHOICE). -/
def fitIndex (f : Fit) (t : Nat) : Nat :=
  (-((-(f.i0 + (f.rate : Int) * ((t : Int) - f.t0) / Config.secUnits)) / (2 ^ 32 : Nat))).toNat

/-- A station time placed on a stream, none without a fit (03 R46, 07 R137). -/
def placeTime (s : State) (i : Fin 16) (t : Nat) : Option Nat := (s.bound i).fit.map fun f => fitIndex f t

/-! The hop grid. -/

/-- The transform size of a view. -/
def ViewE.n (v : ViewE) : Nat := 2 ^ v.log2n
/-- Above 65,536 points a view is four-step (05 R88). -/
def ViewE.fourStep (v : ViewE) : Bool := 16 < v.log2n

/-- The windows of a hop grid, which is anchored at index 0 (02 R30), from `j` on that end within `avail`, oldest last: the samples, or none where the window
includes undelivered samples or the view is barred (05 R104). -/
def gridGo (get : Nat → Option (List IQ)) (h n avail : Nat) (limit : Option Nat) (barred : Nat → Bool) :
    Nat → Nat → List (Nat × Option (List IQ)) → Nat × List (Nat × Option (List IQ))
  | 0, j, acc => (j, acc)
  | f + 1, j, acc =>
    if limit.any (fun l => decide (l ≤ j * h)) ∨ avail < j * h + n then (j, acc)
    else gridGo get h n avail limit barred f (j + 1) ((j, if barred (j * h) then none else get (j * h)) :: acc)

/-- The latest 4,096 results of a verify unit (08 R154). -/
def addVer (x : VerRec) (l : List VerRec) : List VerRec := (x :: l).take 4096

/-- A sequencer's verify unit takes the spectra of a bank: its program, that which a flip is to start, or an undecided
provisional FIRE belongs to that bank, or its program is the same there (07 R146, 08 R154, R161). -/
def verifies (s : State) (q : Fin 16) (bank : Fin 2) : Bool :=
  let r := s.seqr q
  let runs := fun b : Fin 2 => b = bank || (planIn s b).seqOf q.val = (planIn s bank).seqOf q.val
  r.bank.any runs || r.switchAt.any (fun x => runs x.2) ||
    r.prov.any fun p => p.bank = bank

/-- A spectrum of a view is recorded with every verify unit that takes the view: `result` by slot, or missing. -/
def recordVerify (v : Fin 64) (bank : Fin 2) (gen start : Nat) (result : Nat → Option Bool) (s : State) : State :=
  (List.finRange 16).foldl (fun s q =>
    let g := (planIn s bank).seqOf q.val
    if g.present = true ∧ g.forerunner = true ∧ g.verifyCond / 4 = v.val ∧ verifies s q bank = true then
      s.modSeq q fun r => { r with history := addVer { bank := bank, gen := gen, start := start, time := now s, result := result (g.verifyCond % 4) } r.history }
    else s) s

/-- A transform is skipped: SKIPPED counts it, and verify units record it as missing (05 R104, 08 R154). -/
def skipOne (v : Fin 64) (bank : Fin 2) (start : Nat) (s : State) : State :=
  recordVerify v bank (genOf s ((planIn s bank).view v.val).source) start (fun _ => none)
    (s.modView v fun x => { x with flags := x.flags.raise 3, skipped := satAdd x.skipped 1 })

/-- Skips the transforms `j` to `j + n - 1` of a view. -/
def skipRun (v : Fin 64) (bank : Fin 2) (h : Nat) : Nat → Nat → State → State
  | 0, _, s => s
  | n + 1, j, s => skipRun v bank h n (j + 1) (skipOne v bank (j * h) s)

/-- A ready transform goes behind those that became ready in an earlier cycle, or in its own with a view number that is not
higher (05 R85). -/
def insertReady (x : Xform) : List Xform → List Xform
  | [] => [x]
  | y :: t =>
    if y.readyAt < x.readyAt ∨ (y.readyAt = x.readyAt ∧ y.view ≤ x.view) then y :: insertReady x t else x :: y :: t

/-- A transform joins the queue of ready ones. -/
def queueReady (x : Xform) (s : State) : State :=
  { s with plains := { s.plains with ready := insertReady x s.plains.ready } }

/-! Gathers of four-step transforms (05 R100). -/

/-- Where near memory holds transform `j` of a four-step view: the view's transpose space is a ring of places of 12 bytes per
point, 4 for the gathered samples and 8 for the intermediates (20 R399, log entry 59: DESIGN CHOICE). -/
def transposeSlot (p : Plan) (v : Fin 64) (j : Nat) : Nat :=
  let a := (p.allocs.find? fun a => a.kind = 1 && a.owner = v.val).getD default
  let n := 12 * (p.view v.val).n
  a.base + j % max 1 (a.bytes / max 1 n) * n

/-- A 4-byte sample word in the 16-bit form. -/
def sampleWord (z : IQ) : List Byte := toLe 2 (unsigned 16 z.i) ++ toLe 2 (unsigned 16 z.q)

/-- The newly staged samples of a window, those from `lo` to below `hi`, go to its place in near memory. -/
def gatherWindow (p : Plan) (v : Fin 64) (segs : List Seg) (lo hi : Nat) (s : State) (j : Nat) : State :=
  let e := p.view v.val
  let a := max lo (j * e.hop)
  let n := min hi (j * e.hop + e.n) - a
  match window segs a n with
  | some xs => nearPut (transposeSlot p v j + 4 * (a - j * e.hop)) (xs.flatMap sampleWord) s
  | none => s

/-- The newly staged samples are gathered for every open window of a scan of a four-step view, while MCLK runs (05 R100 step
1, R102). -/
def gatherScan (v : Fin 64) (segs : List Seg) (lo avail : Nat) (s : State) (c : Scan) : State :=
  let p := planIn s c.bank
  let e := p.view v.val
  if !e.fourStep || !locked s 3 then s
  else
    let open_ := (List.range (ceilDiv avail (max e.hop 1) - c.next)).map (c.next + ·)
    let open_ := open_.filter fun j => !(c.limit.any fun l => decide (l ≤ j * e.hop))
    open_.foldl (gatherWindow p v segs lo avail) s

/-- A four-step view's transform is barred while MCLK is gated, and until the boundary after its relock (05 R102). -/
def fourBarred (s : State) (v : Fin 64) (e : ViewE) (start : Nat) : Bool :=
  let x := s.view v
  e.fourStep && (x.mHold || x.mResume.any fun k =>
    match boundaryFrom s (streamOf s e.source) k with
    | some b => decide (streamIndex s e.source start < b)
    | none => true)

/-- The range of indices on the feeding stream that the samples `start` to `start + n - 1` of a source cover (04 R70,
06 R111), and whether an output of a zoom source among them saturated (06 R110). -/
def spanOf (s : State) (src gen start n : Nat) : Nat × Nat × Bool :=
  match unit 32 (src - 16) with
  | some c =>
    if src < 16 then (start, start + n - 1, false)
    else
      let ms := (s.zoom c).marks.filter fun x => decide (x.gen = gen ∧ start ≤ x.m ∧ x.m < start + n)
      (((ms.find? fun x => x.m = start).map (·.lo)).getD 0, ((ms.find? fun x => x.m = start + n - 1).map (·.hi)).getD 0,
       ms.any (·.zsat))
  | none => (start, start + n - 1, false)

/-- Scans one view under one bank: what became ready joins the queue, and the scan goes on. -/
def scanOne (v : Fin 64) (segs : List Seg) (avail gen : Nat) (cycle : Nat → Nat) (s : State) (c : Scan) : State :=
  let e := (planIn s c.bank).view v.val
  let (j, found) := gridGo (fun x => window segs x e.n) (max e.hop 1) e.n avail c.limit (fourBarred s v e)
    (avail / max e.hop 1 + 1) c.next []
  let done := c.limit.any fun l => decide (l ≤ j * e.hop)
  let s := s.modView v fun x =>
    { x with scans := if done then x.scans.filter (fun d => d.bank ≠ c.bank)
             else x.scans.map fun d => if d.bank = c.bank then { d with next := j } else d }
  found.reverse.foldl (fun s w =>
    match w.2 with
    | none => skipOne v c.bank (w.1 * e.hop) s
    | some xs =>
      let start := w.1 * e.hop
      let span := spanOf s e.source gen start e.n
      queueReady
        { view := v, j := w.1, bank := c.bank, readyAt := cycle (start + e.n - 1), order := 0, gen := gen
          epoch := sourceEpoch s e.source start, stream := streamOf s e.source, origin := streamIndex s e.source start
          lo := span.1, hi := span.2.1, zsat := span.2.2, data := if e.fourStep then [] else xs, row := false
          sat := none } s) s

/-- The views of a source under any of their banks take what has been staged from index `lo` on; the transforms that became
ready join the queue in order of readiness (05 R85). -/
def scanSource (src : Nat) (segs : List Seg) (lo avail gen : Nat) (cycle : Nat → Nat) (s : State) : State :=
  (List.finRange 64).foldl (fun s v =>
    (((s.view v).scans).filter fun c => decide (((planIn s c.bank).view v.val).source = src)).foldl
      (fun s c => scanOne v segs avail gen cycle (gatherScan v segs lo avail s c) c) s) s

/-- The remaining transforms of a scan that start before `upto` can no longer be delivered: they are skipped, and the
scan ends. -/
def endScan (v : Fin 64) (upto : Nat) (s : State) (c : Scan) : State :=
  let h := max ((planIn s c.bank).view v.val).hop 1
  let stop := match c.limit with
    | some l => min l upto
    | none => upto
  let s := skipRun v c.bank h (ceilDiv stop h - c.next) c.next s
  s.modView v fun x => { x with scans := x.scans.filter fun d => d.bank ≠ c.bank }

/-- A flip reaches the source of a view at source index `b`: older banks start no transform from there on, and the new
bank's grid begins (02 R32, 03 R50). -/
def flipView (v : Fin 64) (src : Nat) (new : Fin 2) (b : Nat) (s : State) : State :=
  let old := fun c : Scan => ((planIn s c.bank).view v.val).source = src && c.bank ≠ new
  let cut := fun c : Scan =>
    if old c then { c with limit := some (match c.limit with | some l => min l b | none => b) } else c
  let e := (planIn s new).view v.val
  let add : List Scan :=
    if e.present && e.source = src then [{ bank := new, next := ceilDiv b (max e.hop 1), limit := none }] else []
  s.modView v fun x => { x with scans := x.scans.map cut ++ add }

/-- A flip reaches every view of a source. -/
def flipViews (src : Nat) (new : Fin 2) (b : Nat) (s : State) : State :=
  (List.finRange 64).foldl (fun s v => flipView v src new b s) s

/-- The scans of other banks than `new` on a source end: what they still had to start or complete is skipped. -/
def endScans (src : Nat) (new : Option (Fin 2)) (upto : Nat) (s : State) : State :=
  (List.finRange 64).foldl (fun s v =>
    (((s.view v).scans).filter fun c =>
      decide (((planIn s c.bank).view v.val).source = src) && decide (some c.bank ≠ new)).foldl (endScan v upto) s) s

/-! Zoom channels. -/

/-- The source number of a zoom channel. -/
def zoomSrc (c : Fin 32) : Nat := 16 + c.val

/-- Sum of Mi - 1 (06 R111). -/
def TerraceE.reach (z : TerraceE) : Nat := ((z.m.take z.sections).map (· - 1)).sum

/-- m_fill (06 R112). -/
def TerraceE.fill (z : TerraceE) : Nat := ceilDiv (z.reach + 1) z.d - 1

/-- A value of the NCO table: 131,072 times the value, rounded, with +1.0 limited (06 R107). -/
def ncoQ17 (v : Int) : Int := min 131071 (roundAway (131072 * v) (2 ^ 96))

/-- The mixer (06 R107). -/
def mix (ftw pow n : Nat) (x : IQ) : IQ :=
  let idx := (pow + n * ftw) % 2 ^ 32 / 2 ^ 14
  let c := ncoQ17 (cos96 idx (2 ^ 18))
  let sn := ncoQ17 (sin96 idx (2 ^ 18))
  { i := sar (x.i * c + x.q * sn + 2 ^ 15) 16, q := sar (x.q * c - x.i * sn + 2 ^ 15) 16 }

/-- Integrators in series, modulo 2^98 (06 R108). -/
def integrate : List Nat → Nat → List Nat
  | [], _ => []
  | r :: t, x => let y := (r + x) % 2 ^ 98; y :: integrate t y

/-- Combs in series, modulo 2^98 (06 R108): the value that leaves the last, and the histories. -/
def combs : List Comb → Nat × Nat → List Comb × (Nat × Nat)
  | [], v => ([], v)
  | c :: t, v =>
    let o := c.hist.headD (0, 0)
    let w := ((v.1 + 2 ^ 98 - o.1) % 2 ^ 98, (v.2 + 2 ^ 98 - o.2) % 2 ^ 98)
    let (t', z) := combs t w
    ({ hist := c.hist.drop 1 ++ [v] } :: t', z)

/-- The rescale of one component and whether it was limited (06 R110). -/
def rescale (zshift zgain z : Nat) : Int × Bool :=
  let v := signedOf 98 z
  let t := if zshift = 0 then v else sar (v + (2 ^ (zshift - 1) : Nat)) zshift
  let a := clampFlag (-8388608) 8388607 t
  let b := clampFlag (-32768) 32767 (sar (a.1 * zgain + 65536) 17)
  (b.1, a.2 || b.2)

/-- The integrators after the D input samples of an output; an undelivered one enters as 0, and reaches no delivered
output (06 R112). -/
def feed (z : ZoomRt) (segs : List Seg) : List Nat × List Nat :=
  (List.range z.cfg.d).foldl (fun a i =>
    let n := z.m * z.cfg.d + i
    let y := mix z.cfg.ftw z.cfg.pow n ((sampleAt segs (z.s0 + n)).getD default)
    (integrate a.1 (unsigned 98 y.i), integrate a.2 (unsigned 98 y.q))) (z.integI, z.integQ)

/-- Output m of a channel is formed (06 R108 to R112). -/
def formOutput (segs : List Seg) (z : ZoomRt) : ZoomRt :=
  let (a, b) := feed z segs
  let (cs, w) := combs z.combs (a.getLastD 0, b.getLastD 0)
  let p := rescale z.cfg.zshift z.cfg.zgain w.1
  let q := rescale z.cfg.zshift z.cfg.zgain w.2
  let hi := z.s0 + (z.m + 1) * z.cfg.d - 1
  let lo := hi - z.cfg.reach
  let gap := !covered segs (z.s0 + z.m * z.cfg.d) hi
  let good := decide (z.cfg.fill ≤ z.m) && covered segs lo hi
  let zs := good && (p.2 || q.2)
  let f1 := if zs then z.flags.raise 0 else z.flags
  { z with
    integI := a, integQ := b, combs := cs, m := z.m + 1
    state := if z.cfg.fill ≤ z.m then .running else z.state
    segs := if good then { start := z.m, data := [{ i := p.1, q := q.1 }] } :: z.segs else z.segs
    marks := { gen := z.gen, m := z.m, lo := lo, hi := hi, zsat := zs } :: z.marks
    flags := if gap then f1.raise 3 else f1
    zsatCount := if zs then satAdd z.zsatCount 1 else z.zsatCount }

/-- The inputs of the next output have all been staged below `upto`. -/
def outputDue (z : ZoomRt) (upto : Nat) : Bool :=
  z.state ≠ .stopped && !z.waiting && decide (0 < z.cfg.d) && decide (z.s0 + (z.m + 1) * z.cfg.d ≤ upto)

/-- One output, and the views that it makes ready. -/
def zoomOne (c : Fin 32) (s : State) : State :=
  let z := s.zoom c
  let s := s.modZoom c (formOutput (s.stream ⟨z.cfg.source % 16, Nat.mod_lt _ (by decide)⟩).segs)
  let z := s.zoom c
  scanSource (zoomSrc c) z.segs (z.m - 1) z.m z.gen (fun _ => dclkOf (now s)) s

/-- Every output whose inputs lie below `upto`; `n` bounds their number. -/
def zoomAdvance (c : Fin 32) (upto : Nat) : Nat → State → State
  | 0, s => s
  | n + 1, s => if outputDue (s.zoom c) upto then zoomAdvance c upto n (zoomOne c s) else s

def zoomCatchUp (c : Fin 32) (upto : Nat) (s : State) : State := zoomAdvance c upto (upto + 1) s

/-- The channel's registers at s0 (06 R108). -/
def ZoomRt.start (z : ZoomRt) (cfg : TerraceE) (s0 : Nat) (waiting : Bool) : ZoomRt :=
  let k := cfg.sections
  { z with
    state := .filling
    cfg := cfg, s0 := s0, m := 0, gen := z.gen + 1, waiting := waiting
    integI := List.replicate k 0, integQ := List.replicate k 0
    combs := (cfg.m.take k).map fun m => { hist := List.replicate (m / max cfg.d 1) (0, 0) }
    segs := []
    grids := { gen := z.gen + 1, s0 := s0, d := cfg.d, outs := 0 } ::
      (if cfg.source = z.cfg.source then z.grids.map fun g => if g.gen = z.gen then { g with outs := z.m } else g else []) }

/-- What the views of a channel have started and cannot complete is skipped. The scan of a draining bank ends; the other
begins its grid again at output 0. -/
def regrid (c : Fin 32) (s : State) : State :=
  (List.finRange 64).foldl (fun s v =>
    (((s.view v).scans).filter fun d => decide (((planIn s d.bank).view v.val).source = zoomSrc c)).foldl (fun s d =>
      let t := endScan v (s.zoom c).m s d
      if d.limit.isSome then t
      else t.modView v fun x => { x with scans := x.scans ++ [{ d with next := 0 }] }) s) s

/-- A channel restarts at a source index with its settings (06 R112, R115). -/
def zoomRestart (c : Fin 32) (s0 : Nat) (s : State) : State :=
  let s := regrid c (zoomCatchUp c s0 s)
  s.modZoom c fun z => z.start z.cfg s0 false

/-- The pending restart of a SYNC takes place. -/
def zoomSync (c : Fin 32) (s0 : Nat) (s : State) : State :=
  (zoomRestart c s0 s).modZoom c fun z => { z with flags := z.flags.raise 1, syncAt := none }

/-- The settings that R114 compares: those that shape the channel's samples and outputs. SYNC_EN and HOST_TUNABLE are not
among them and take their new values without a restart (log entry 60: DEDUCED). -/
def TerraceE.sameGrid (a b : TerraceE) : Bool :=
  a.source = b.source && a.sections = b.sections && a.ftw = b.ftw && a.pow = b.pow && a.zgain = b.zgain &&
    a.zshift = b.zshift && a.d = b.d && a.m = b.m

/-- A flip reaches a channel whose stream it reaches at B_k = `b` (06 R114, R116). A SYNC of an earlier s0 has its
restart first; one of the same s0 falls together with the flip's. -/
def zoomFlip (i : Fin 16) (new : Fin 2) (b : Nat) (waiting : Bool) (s : State) (c : Fin 32) : State :=
  let e := (planIn s new).zoom c.val
  let z := s.zoom c
  let mine := z.cfg.present && z.cfg.source = i.val
  let next := e.present && e.source = i.val
  if !mine && !next then s
  else
    let s := match z.syncAt with
      | some x => if mine && decide (x < b) && z.state ≠ .stopped then zoomSync c x s else s
      | none => s
    let s := if mine then zoomCatchUp c b s else s
    let z := s.zoom c
    let out := ceilDiv (b - z.s0) (max z.cfg.d 1)
    if mine && !next then
      -- absent from the new bank, or fed by another stream from its own B_k on
      let s := endScans (zoomSrc c) (some new) (s.zoom c).m s
      s.modZoom c fun z => { z with state := .stopped, syncAt := none, cfg := if e.present then z.cfg else default, segs := [] }
    else if mine && z.cfg.sameGrid e then
      let s := flipViews (zoomSrc c) new out s
      s.modZoom c fun z => { z with cfg := e }
    else
      let both := decide (z.syncAt = some b)
      let s := endScans (zoomSrc c) (some new) (s.zoom c).m s
      let s := flipViews (zoomSrc c) new 0 s
      s.modZoom c fun z =>
        { z.start e b waiting with
          hostLoaded := false
          syncAt := if both then none else z.syncAt
          flags := if both then z.flags.raise 1 else z.flags }

/-! A flip at a source stream. -/

/-- The link settings of two stream-map entries agree (04 R76). -/
def StreamE.sameLink (a b : StreamE) : Bool :=
  a.run = b.run && a.log2Lanes = b.log2Lanes && a.firstLane = b.firstLane && a.rate = b.rate && a.packed = b.packed &&
    a.lanes = b.lanes

/-- The lanes of an entry, or none where it does not run. -/
def StreamE.group (e : StreamE) : List (Fin 32) := if e.run then e.lanesOf else []

/-- A lane that another stream has not taken since is powered down (04 R72). -/
def lanePowerDown (i : Fin 16) (s : State) (l : Fin 32) : State :=
  if (s.lane l).stream ≠ some i then s
  else (s.modLane l fun x => { x with state := .off, powered := false, stream := none, laneIndex := 0 }).modRx l fun x =>
    { LaneRx.reset with partnerId := x.partnerId }

/-- An accepted STREAM_START whose bundle a flip stops or relinks completes with NOT_READY (19 R379). -/
def endStart (i : Fin 16) (s : State) : State :=
  finish (fun w => match w with | .streamStart j _ => j = i | _ => false)
    (fun _ s => (s, { status := .notReady, detail := 0, payload := [] })) s

/-- The bundle leaves READY: what the lanes hold is dropped, and link-up awaits its start (04 R75). Delivered samples
whose check can no longer arrive count as those of a missing header (R66). -/
def unlink (i : Fin 16) (retry : Option Nat) (s : State) : State :=
  let s := (s.stream i).map.group.foldl (fun s l =>
    (s.modLane l fun x => { x with state := if x.powered then .cdr else x.state }).modRx l fun x =>
      { x with locked := false, window := [], pos := none, missing := 0, equalised := false, framed := false,
               aligned := false, superblocks := 0, marker := none, markers := [], lastMark := none, ebuf := [] }) s
  s.modStream i fun t =>
    { t with ready := false, delivering := false, acquired := false, prevPart := none, failRun := 0, lowPart := none,
             highPart := none, asm := none,
             startDue := false, retryAt := retry, taken := 0, failAt := none
             marks := if t.checkedTo < t.avail then
                 { lo := t.checkedTo, hi := t.avail, linkErr := true, overrange := false, convUnlock := false } :: t.marks
               else t.marks
             checkedTo := max t.checkedTo t.avail }

/-- The stream map of the new bank applies to a stream: the link stays, comes up again, starts, or is powered down
(04 R72, R76, R82). -/
def flipLink (i : Fin 16) (new : Fin 2) (s : State) : State :=
  let e := (planIn s new).stream i.val
  let t := s.stream i
  if t.map.run && e.run then
    if t.map = e then s
    else if t.map.sameLink e then s.modStream i fun t => { t with map := e, mapRaised := false, failRaised := false }
    else
      let s := endStart i s
      let s := (t.map.group.filter fun l => !e.group.contains l).foldl (lanePowerDown i) (unlink i (some (now s)) s)
      s.modStream i fun t => { t with map := e, mapRaised := false, failRaised := false }
  else if t.map.run then
    let s := t.map.group.foldl (lanePowerDown i) (unlink i none (endStart i s))
    s.modStream i fun t => { t with map := e, reversed := false }
  else if e.run then
    let s := s.modStream i fun _ => { StreamRt.reset with map := e, retryAt := some (now s) }
    s.modBound i fun b => { Boundary.reset with flipAt := b.flipAt }
  else s.modStream i fun t => { t with map := e }

/-- A flip of epoch `k` reaches a stream at B_k = `b` (03 R50 step 5): its views, its zoom channels, its Basin writer and
its link. A stream that has never delivered has no index to wait for. -/
def flipSource (i : Fin 16) (new : Fin 2) (b : Nat) (s : State) : State :=
  let t := s.stream i
  let e := (planIn s new).stream i.val
  let s := flipViews i.val new b s
  let s := (List.finRange 32).foldl (zoomFlip i new b t.last.isNone) s
  let s := basinFlip i new b s
  -- nothing at or after B_k comes from a link that relinks or is powered down: what waits for it is skipped
  let s := if t.map.sameLink e && t.map.run then s else endScans i.val (some new) b s
  let s := flipLink i new s
  s.modBound i fun x => { x with flipAt := none }

/-- The flip that waits for a stream's index takes place now, since the stream no longer delivers. -/
def flipStopped (i : Fin 16) (s : State) : State :=
  match (s.bound i).flipAt with
  | none => s
  | some (k, new) => flipSource i new ((boundaryIndex s i k).getD (s.stream i).avail) s

/-- A bundle stops delivering, and its link-up starts again (02 R35, 04 R75). -/
def stopBundle (i : Fin 16) (s : State) : State := flipStopped i (unlink i (some (now s)) s)

end Sys2Proof.Machine
end

