-- ==== Sys2Proof/Machine/BasinOps.lean ====
section
/-! DEFINITION. Captures: notices, freezes, confirm, retract, release (09 R171 to R175; 08 R159). -/

namespace Sys2Proof.Machine

/-- The descriptor tile of a capture's slot is written as the entry stands (09 R172, R173). -/
def writeDesc (i : Fin 16) (id : U32) (s : State) : State :=
  match findCap s i id with
  | none => s
  | some (r, n, _) =>
    let s := modRings i (fun q => if q.isRing r then { q with descs := vmod q.descs n (· + 1) } else q) s
    match findCap s i id with
    | none => s
    | some (r, n, c) => cxlPoke (cxlPort r.cfg.port) (r.slotAddr n.val) (descTile s i r n (r.entry c) c.trigIndex) s

/-- The body of a capture notice (11 R219). -/
def noticeBody (entry : List Byte) (slot : Nat) : List Byte := entry ++ toLe 8 slot

/-- The marks of a capture notice: of the range frozen as known now for OPEN, of the tiles held afterwards (11 R223). -/
def noticeMarks (s : State) (i : Fin 16) (kind : Nat) (r : RingRt) (c : Capture) : Nat :=
  let t := s.stream i
  if kind = 0 then markFlags (marksOver t.marks c.lo (c.hi - 1)) + atBit 12 (decide (t.checkedTo < c.hi))
  else
    let n := r.samples
    markFlags ((r.heldTiles c).foldl
      (fun m x => orMarks m (marksOver t.marks (x.grid * n) ((x.grid + 1) * n - 1))) (false, false, false))

/-- The provisional FIRE is the one of a capture, and its record is not issued yet. -/
def ProvFire.holdsBack (p : ProvFire) (c : Capture) : Bool := !p.issued && p.seq.toNat = c.fireSeq

/-- The sequencer of this node whose trigger record a capture's notices wait for (11 R232). -/
def noticeWaits (s : State) (c : Capture) : Option (Fin 16) :=
  if c.fabric || decide (c.origin ≠ nodeId s) then none
  else (List.finRange 16).find? fun q => q.val = c.source && (s.seqr q).prov.any (·.holdsBack c)

/-- A capture notice (11 R219, R223): behind the trigger record of its FIRE (R232). -/
def capNotice (i : Fin 16) (kind : Nat) (r : RingRt) (c : Capture) (slot : Nat) (s : State) : State :=
  let x := mkRecord s 5 kind (some i) none c.epoch (now s) (atBit 0 c.provisional + noticeMarks s i kind r c)
    (noticeBody (r.entry c) slot)
  match noticeWaits s c with
  | some q => s.modSeq q fun g =>
      { g with prov := g.prov.map fun p => if p.holdsBack c then { p with notices := p.notices ++ [x] } else p }
  | none => emit x s

/-- A change of a capture: the descriptor tile is rewritten, and a notice of the entry as it stands is issued (09 R172,
R173; 11 R219). -/
def announceCap (i : Fin 16) (id : U32) (kind : Nat) (s : State) : State :=
  let s := writeDesc i id s
  match findCap s i id with
  | none => s
  | some (r, n, c) => capNotice i kind r c n.val s

/-- A tile's header is rewritten with the flags that its captures and its history give (09 R172): in the device, with a
writer credit for as long as it takes (12 R238), and in the tile's write while that is outstanding. -/
def rewriteTile (r : RingRt) (t : TileInfo) (s : State) : State :=
  let p := cxlPort r.cfg.port
  let a := r.tileAddr t.seq
  let mine := fun q : CxlReq => q.write && decide (q.addr = a)
  let set := fun f : Nat =>
    f / 64 * 64 + atBit 0 (bit 0 f || t.overflow) + atBit 1 (bit 1 f) + atBit 2 (r.tileProv t) + bits 4 3 f * 8 +
      atBit 5 (bit 5 f || t.recovered)
  if (downPort s p).requests.any mine then
    s.modDown p fun d =>
      { d with requests := d.requests.map fun q => if mine q then { q with data := rewriteFlags set q.data } else q }
  else if windowHolds s p a 4096 && !t.failed then
    cxlPut p a (rewriteFlags set (cxlPeek s p a 4096)) (s.modDown p fun d => d.notePeak (creditsOf d.requests + 1))
  else s

/-- The header rewrites of all tiles that a capture holds. -/
def rewriteHeld (i : Fin 16) (id : U32) (s : State) : State :=
  match findCap s i id with
  | none => s
  | some (r, _, c) => (r.heldTiles c).foldl (fun s t => rewriteTile r t s) s

/-! Capture queues of DMA channels (13 R260). -/

/-- The channel goes on, unless it is paused: the reason for which it waits is gone. -/
def DmaCh.wake (d : DmaCh) : DmaCh :=
  match d.state with
  | .waiting => { d with state := .running, reason := .none }
  | .pausing | .paused => { d with resume := .none }
  | _ => d

/-- The reason for which a channel waits, or will wait when it resumes. -/
def DmaCh.waitsFor (d : DmaCh) : WaitReason :=
  match d.state with
  | .waiting => d.reason
  | .pausing | .paused => d.resume
  | _ => .none

/-- A channel that waits for a capture of a ring goes on (13 R267). -/
def wakeCapture (i : Fin 16) (d : DmaCh) : DmaCh :=
  if d.waitsFor = .capture ∧ dStream (d.program.getD d.pc 0) = i.val then d.wake else d

/-- A capture enters the queues of the channels that a predicate on PROV_SAFE picks. -/
def offerCap (i : Fin 16) (id : U32) (pick : Bool → Bool) (s : State) : State :=
  (List.finRange 32).foldl (fun s c =>
    let e := (planNow s).dmaOf c.val
    if e.present && pick e.provSafe && !((s.dma c).capQ.contains (i, id)) then
      s.modDma c fun d => wakeCapture i { d with capQ := d.capQ ++ [(i, id)] }
    else s) s

/-- A move of a channel has taken the capture. -/
def OpenMove.took (m : OpenMove) (i : Fin 16) (id : U32) : Bool := m.capture.any fun x => x.stream = i && x.id = id

/-- A move that still had tiles of a retracted capture to read is cut short: it ends as complete, CUT_SEEN is set, and the
channel goes on behind it (13 R260). -/
def cutMove (i : Fin 16) (id : U32) (d : DmaCh) : DmaCh :=
  if d.moves.any fun m => m.took i id && !m.issuedAll then
    { d.wake with
      moves := d.moves.map fun m =>
        if m.took i id && !m.issuedAll then
          { m with issuedAll := true, capture := m.capture.map fun x => { x with left := [], cut := true } }
        else m
      count := 0, pc := d.pc + 1, flags := d.flags.raise 6 }
  else d

/-- A capture leaves the queues of every channel that does not move it (13 R260, R261). -/
def withdrawCap (i : Fin 16) (id : U32) (s : State) : State :=
  (List.finRange 32).foldl (fun s c => s.modDma c fun d =>
    if d.moves.any fun m => m.took i id then d else { d with capQ := d.capQ.filter fun e => e ≠ (i, id) }) s

/-- The moves of a retracted capture are cut short (13 R260). -/
def cutMoves (i : Fin 16) (id : U32) (s : State) : State :=
  (List.finRange 32).foldl (fun s c => s.modDma c (cutMove i id)) s

/-- A CLOSED capture is ordinary: it takes its place in the order of release, and the channels that `pick` names by PROV_SAFE
are offered it (13 R260). -/
def closeOrdinary (pick : Bool → Bool) (i : Fin 16) (id : U32) (s : State) : State :=
  let s := modRings i (fun r =>
    if r.captures.any (fun c => c.2.id = id) then { r with order := r.order ++ [id] } else r) s
  offerCap i id pick s

/-! Freezes. -/

/-- The ring that a trigger index belongs to: the latest one that starts at or before it (03 R49). -/
def ringFor (s : State) (i : Fin 16) (x : Nat) : Option RingRt :=
  let rs := (ringsOf s i).filter (·.cfg.present)
  match rs.find? fun r => decide (r.start ≤ x) with
  | some r => some r
  | none => rs.getLast?

/-- The capture that a freeze of a ring makes (09 R171). -/
def newCapture (r : RingRt) (id : U32) (x : Nat) (c : Capture) : Capture :=
  let lo := x - r.cfg.pre
  let hi := x + r.cfg.post
  let n := r.samples
  let floor_ := r.nextSeq + 64 - r.cfg.ringTiles
  let inRange := fun t : TileInfo => decide (lo / n ≤ t.grid ∧ t.grid ≤ (hi - 1) / n)
  let good := r.tiles.filter fun t => inRange t && decide (floor_ ≤ t.seq)
  let first := (good.getLast?.map (·.seq)).getD r.nextSeq
  let beyond := match r.tiles.getLast? with
    | some t => decide (0 < t.seq ∧ lo / n < t.grid)
    | none => decide (0 < r.nextSeq)
  { c with id := id, state := .opened, trigIndex := x, lo := lo, hi := hi, firstSeq := first
           truncated := beyond || r.tiles.any fun t => inRange t && decide (t.seq < floor_) }

/-- A freeze of a stream at a trigger index (09 R171, R172): the captures it starts are named by stream and CAPTURE_ID.
`c` carries what the trigger gives: time, epoch, source, origin, FIRE_SEQ, PROVISIONAL, FABRIC. -/
def freeze (i : Fin 16) (x : Nat) (c : Capture) (s : State) : State × List (Nat × Nat) :=
  match ringFor s i x with
  | none => (s, [])
  | some r =>
    let id := s.basin.captureId
    let s := { s with basin := { s.basin with captureId := id + 1 } }
    let cap := newCapture r id x { c with orphan := orphanAt s (now s) }
    match (List.finRange 64).find? fun n => slotFree (vget r.slots n) with
    | none =>
      let s := s.modBasin i fun b => { b with flags := b.flags.raise 4, refused := satAdd b.refused 1 }
      let none_ := { cap with state := .free, truncated := false, firstSeq := 0 }
      (capNotice i 4 { RingRt.reset with packed := r.packed } none_ 0 s, [])
    | some n =>
      let s := modRings i (fun q => if q.isRing r then { q with slots := vset q.slots n (some cap) } else q) s
      let s := if cap.truncated then s.modBasin i fun b => { b with flags := b.flags.raise 3 } else s
      (announceCap i id 0 s, [(i.val, id.toNat)])

/-- Freezes of a mask of streams at a trigger time and anchor (07 R137): the anchored index on its own stream, the fit
elsewhere. -/
def freezeMask (mask : Nat) (time : Nat) (anchor : Option Anchor) (c : Capture) (s : State) : State × List (Nat × Nat) :=
  ((List.finRange 16).filter fun i => bit i.val mask).foldl (fun a i =>
    let x := match anchor with
      | some g => if g.node = nodeId a.1 ∧ g.stream = i.val then some g.index else placeTime a.1 i time
      | none => placeTime a.1 i time
    match x with
    | some x => let r := freeze i x c a.1; (r.1, a.2 ++ r.2)
    | none => a) (s, [])

/-! Confirm, retract, release. -/

/-- A capture leaves the order of release. -/
def unorder (i : Fin 16) (id : U32) (s : State) : State :=
  modRings i (fun r => { r with order := r.order.filter (· ≠ id) }) s

/-- The captures that a predicate picks, over all rings: stream and CAPTURE_ID. -/
def capsWhere (s : State) (p : Capture → Bool) : List (Fin 16 × U32) :=
  (List.finRange 16).flatMap fun i => (ringsOf s i).flatMap fun r =>
    (r.captures.filter fun c => p c.2).map fun c => (i, c.2.id)

/-- A provisional capture becomes ordinary: its tiles' headers are rewritten, the notice is issued (08 R159). A
provisional-safe channel has been offered a CLOSED one already (13 R260). -/
def confirmCap (s : State) (k : Fin 16 × U32) : State :=
  let s := rewriteHeld k.1 k.2 (modCap k.1 k.2 (fun c => { c with provisional := false }) s)
  let s := announceCap k.1 k.2 5 s
  match findCap s k.1 k.2 with
  | some (_, _, c) => if c.state = .closed then closeOrdinary (fun safe => !safe) k.1 k.2 s else s
  | none => s

/-- A capture reaches its last state; its TILE_COUNT stands from then on (09 R173, R184). -/
def endCap (st : CapState) (i : Fin 16) (id : U32) (s : State) : State :=
  let n := (findCap s i id).map fun x => (x.1.heldTiles x.2.2).length
  modCap i id (fun c => { c with state := st, heldAtEnd := n }) s

/-- A provisional capture is retracted; while a move reads it, its tiles stay, and its slot is not FREE (08 R159). -/
def retractCap (s : State) (k : Fin 16 × U32) : State :=
  let s := endCap .retracted k.1 k.2 s
  rewriteHeld k.1 k.2 (captureDone k.1 k.2 (cutMoves k.1 k.2 (withdrawCap k.1 k.2 (announceCap k.1 k.2 3 s))))

/-- A capture is released, and its slot is FREE (09 R173, R175). -/
def releaseCap (i : Fin 16) (id : U32) (s : State) : State :=
  let s := endCap .released i id s
  unorder i id (withdrawCap i id (announceCap i id 2 s))

/-- Provisional captures of a FIRE of this node or of a channel of another. -/
def provisionalOf (fabric : Bool) (source origin sequencer seq : Nat) (c : Capture) : Bool :=
  c.provisional && c.fabric = fabric && c.source = source && c.origin = origin && c.sequencer = sequencer &&
    c.fireSeq = seq && c.protects

end Sys2Proof.Machine
end

