-- ==== Sys2Proof/Machine/Plains.lean ====
section
/-! DEFINITION. The Plains array: dispatch, transforms, spectra with their flags, spectrum records, view status (05 R84 to
R105, 11 R214, R216). -/

namespace Sys2Proof.Machine

/-! The tables of a bank (20 R396, R397): coefficients and pairs take 4 bytes each, thresholds 2. -/

/-- Coefficient `n` of a view (05 R90). -/
def windowCoeff (b : Bank) (v : ViewE) : Nat → Int :=
  let half := v.n / 2
  let bs := memRead b.coeffs (4 * v.windowBase) (4 * (if v.symmetric then half + 1 else v.n))
  let a := bs.toArray
  fun n =>
    let i := if v.symmetric && half < n then v.n - n else n
    signed 18 (ofLe [a.getD (4 * i) 0, a.getD (4 * i + 1) 0, a.getD (4 * i + 2) 0])

/-- The byte address of a table in the table store, none for a REF that means none (20 R395, R396). -/
def tableAt (ref : Nat) : Option Nat := if ref = 0xFFFFFFFF then none else some (64 * ref)

/-- Entry `b` of a view's gain table (05 R97). -/
def gainOf (bk : Bank) (v : ViewE) (b : Nat) : Int :=
  match tableAt v.gainRef with
  | some a => signed 16 (memLe bk.tables (a + 2 * b) 2)
  | none => 0

/-- The log-power of a spectrum's bin with gain, and whether it was clamped at the top (05 R96). -/
def logBin (bk : Bank) (v : ViewE) (b : Nat) (z : IQ) : Int × Bool := logPower z (gainOf bk v b)

/-- The log-power output is computed: some consumer takes it (05 R99). -/
def ViewE.wantsLog (v : ViewE) : Bool := v.geyser || v.caldera ≠ 0 || bit 2 v.formats

/-- A log-power bin of a spectrum is clamped at the top; only a gain table can cause it (05 R96). -/
def clampHigh (bk : Bank) (v : ViewE) (bins : List IQ) : Bool :=
  v.wantsLog && (tableAt v.gainRef).isSome && bins.zipIdx.any fun z => (logBin bk v z.2 z.1).2

/-! Dispatch. -/

def pipeOf (s : State) (p : Fin 96) : Option Xform := vget s.plains.pipes p

def setPipe (p : Fin 96) (x : Option Xform) (s : State) : State :=
  { s with plains := { s.plains with pipes := vset s.plains.pipes p x } }

/-- The pipelines that are busy. -/
def busyPipes (s : State) : List Xform := s.plains.pipes.toList.filterMap id

/-- TRANSFORM_DISPATCH (05 R85, R87). -/
def execTransformDispatch (pipe : Fin 96) (s : State) : Host.Outcome State Fault Refusal :=
  .next <|
    match pipeOf s pipe, s.plains.ready with
    | none, x :: rest =>
      if !dclk s then s
      else
        let s := setPipe pipe (some { x with order := s.plains.dispatched }) s
        { s with plains := { s.plains with
          ready := rest
          dispatched := s.plains.dispatched + 1
          peakBusy := max s.plains.peakBusy (busyPipes s).length
          maxWait := max s.plains.maxWait (dclkOf (now s) - x.readyAt) } }
    | _, _ => s

/-- The view of a transform, in the bank that computes it. -/
def xView (s : State) (x : Xform) : ViewE := (planIn s x.bank).view x.view.val

/-- The samples of a four-step transform as they stand in near memory (05 R100 step 1). -/
def gathered (s : State) (x : Xform) : List IQ :=
  let n := (xView s x).n
  let bs := (nearBytes s 1 (transposeSlot (planIn s x.bank) x.view x.j) (4 * n)).toArray
  (List.range n).map fun k =>
    let w := fun a => signed 16 (ofLe [bs.getD a 0, bs.getD (a + 1) 0])
    { i := w (4 * k), q := w (4 * k + 2) }

/-- Where a four-step transform's intermediates stand: behind its samples, in row order (05 R100 step 4, log entry 59: DESIGN CHOICE). -/
def interAt (s : State) (x : Xform) : Nat := transposeSlot (planIn s x.bank) x.view x.j + 4 * (xView s x).n

/-- An intermediate as two 32-bit words, each a 24-bit component sign-extended (05 R100). -/
def interBytes (z : IQ) : List Byte := toLeInt 4 z.i ++ toLeInt 4 z.q

/-- The intermediates of a four-step transform as they stand in near memory. -/
def interOf (s : State) (x : Xform) : List IQ :=
  let n := (xView s x).n
  let bs := (nearBytes s 1 (interAt s x) (8 * n)).toArray
  (List.range n).map fun k =>
    let w := fun a => signed 24 (ofLe [bs.getD a 0, bs.getD (a + 1) 0, bs.getD (a + 2) 0])
    { i := w (8 * k), q := w (8 * k + 4) }

/-- FOUR_STEP_PASS_DONE (05 R100): the columns are done and their result is written back, and the row pass waits for a
pipeline. While MCLK is gated near memory's requests wait (21 R418). -/
def execFourStepPassDone (pipe : Fin 96) (s : State) : Host.Outcome State Fault Refusal :=
  .next <|
    match pipeOf s pipe with
    | some x =>
      let v := xView s x
      if dclk s && locked s 3 && v.fourStep && !x.row then
        let (inter, sat) := fourStepColumns v.log2n v.scale (windowCoeff (s.bank x.bank) v) (gathered s x)
        let s := nearPut (interAt s x) (inter.flatMap interBytes) (nearTaken 1 (transposeSlot (planIn s x.bank) x.view x.j) (4 * v.n) s)
        queueReady { x with row := true, sat := sat, readyAt := dclkOf (now s) } (setPipe pipe none s)
      else s
    | none => s

/-- The coefficients of a transform and its first saturating point (05 R92, R100). -/
def transformOf (s : State) (x : Xform) : List IQ × Option Nat :=
  let v := xView s x
  if x.row then
    let (z, sat) := fourStepRows v.log2n v.scale (interOf s x)
    (z, firstSat x.sat sat)
  else plainTransform v.log2n v.scale (windowCoeff (s.bank x.bank) v) x.data

/-- A row pass has received its intermediates (12 R250). -/
def rowTaken (x : Xform) (s : State) : State := if x.row then nearTaken 1 (interAt s x) (8 * (xView s x).n) s else s

/-- The spectrum of a transform with its header (05 R89, R103). -/
def spectrumOf (s : State) (x : Xform) : Spectrum :=
  let v := xView s x
  let start := x.j * v.hop
  let (z, sat) := transformOf s x
  let bins := selectBins v.n v.binFirst v.binCount z
  let m := marksOver (s.stream x.stream).marks x.lo x.hi
  let e := epochRec s x.stream x.epoch
  { view := x.view, j := x.j, order := x.order, gen := x.gen, start := start, epoch := x.epoch, bank := x.bank, stream := x.stream, origin := x.origin,
    lo := x.lo, hi := x.hi, bins := bins,
    sat := sat, clamp := clampHigh (s.bank x.bank) v bins, linkErr := m.1, overrange := m.2.1, convUnlock := m.2.2,
    zsat := x.zsat, invalid := invalidClock s x.epoch,
    extrapolated := e.any (·.extrapolated), rateMismatch := e.any (·.rateMismatch), fitDegraded := e.any (·.fitDegraded),
    fourStep := v.fourStep }

/-- Of transform `y` the spectrum leaves before that of `x`: same view, earlier start (05 R85). -/
def leavesBefore (s : State) (x y : Xform) : Bool :=
  y.view = x.view &&
    decide (y.gen < x.gen ∨ (y.gen = x.gen ∧ y.j * (xView s y).hop < x.j * (xView s x).hop))

/-- A spectrum goes to the consumers of its view (01 R14, 05 R99), and is counted (05 R105). -/
def handSpectrum (x : Spectrum) (s : State) : State :=
  let p := planIn s x.bank
  let v := p.view x.view.val
  s.modView x.view fun r =>
    let f := if x.sat.isSome then r.flags.raise 0 else r.flags
    let f := if x.clamp then f.raise 1 else f
    let f := if x.invalid then f.raise 4 else f
    { r with
      flags := f, spectra := r.spectra + 1, lastBank := x.bank
      satCount := if x.sat.isSome then satAdd r.satCount 1 else r.satCount
      maskQ := if v.geyser then r.maskQ ++ [x] else r.maskQ
      poolQ := if (p.poolOf x.view.val).present then r.poolQ ++ [x] else r.poolQ
      calQ := if v.caldera ≠ 0 then r.calQ ++ [x] else r.calQ
      recQ := r.recQ ++ [x] }

/-- SPECTRUM_COMPLETE (05 R86): the pipeline's last bin leaves. -/
def execSpectrumComplete (pipe : Fin 96) (s : State) : Host.Outcome State Fault Refusal :=
  .next <|
    match pipeOf s pipe with
    | some x =>
      let open_ := s.plains.ready ++ busyPipes s
      if !dclk s || ((xView s x).fourStep && !(x.row && locked s 3)) || open_.any (leavesBefore s x) then s
      else handSpectrum (spectrumOf s x) (rowTaken x (setPipe pipe none s))
    | none => s

/-! Spectrum records. -/

/-- The flag word of a spectrum (05 R103). -/
def Spectrum.word (x : Spectrum) : Nat :=
  atBit 0 x.sat.isSome + atBit 1 x.clamp + atBit 2 x.linkErr + atBit 3 x.overrange + atBit 4 x.convUnlock + atBit 5 x.zsat +
    atBit 6 x.invalid + atBit 7 x.extrapolated + atBit 8 x.rateMismatch + atBit 9 x.fitDegraded + atBit 10 x.fourStep +
    (x.sat.getD 0) * 2 ^ 12

/-- The segments of an item of `count` bins: first bin and bins of each (11 R214). -/
def segmentsOf (segBins count : Nat) : List (Nat × Nat) :=
  let n := if segBins = 0 ∨ count ≤ segBins then max count 1 else segBins
  (List.range (ceilDiv count n)).map fun k => (k * n, min n (count - k * n))

/-- The arrays of a segment, by format (11 R216). -/
def spectrumArrays (bk : Bank) (v : ViewE) (first : Nat) (bins : List IQ) : List Byte :=
  (if bit 0 v.formats then padMul 8 (bins.flatMap fun z => toLe 3 (unsigned 24 z.i) ++ toLe 3 (unsigned 24 z.q)) else []) ++
  (if bit 1 v.formats then padMul 8 (bins.flatMap fun z => toLe 4 (powerF32 z)) else []) ++
  (if bit 2 v.formats then
    padMul 8 (bins.zipIdx.flatMap fun z => toLe 2 (unsigned 16 (logBin bk v (first + z.2) z.1).1)) else [])

/-- The body of a segment of a spectrum record (11 R216). -/
def spectrumBody (bk : Bank) (v : ViewE) (x : Spectrum) (segs k first n : Nat) : List Byte :=
  toLe 8 x.start ++ toLe 4 x.word ++ toLe 4 (first + v.formats * 2 ^ 23 + x.bank.val * 2 ^ 26) ++ toLe 4 n ++
  toLe 2 k ++ toLe 2 segs ++ spectrumArrays bk v first ((x.bins.drop first).take n)

/-- Builds the records of a spectrum, segment by segment (11 R214, R216). -/
def emitSpectrum (x : Spectrum) (m : Bool × Bool × Bool) (s : State) : State :=
  let v := (planIn s x.bank).view x.view.val
  let segs := segmentsOf v.segBins v.binCount
  segs.zipIdx.foldl (fun s g =>
    let more := atBit 10 (g.2 + 1 < segs.length)
    emitSpec x.j (mkRecord s 1 0 (some x.stream) (some x.view.val) x.epoch (instantOf s x.stream x.origin)
      (markFlags m + more) (spectrumBody (s.bank x.bank) v x segs.length g.2 g.1.1 g.1.2)) s) s

/-- SPECTRUM_RECORD (11 R216): the oldest spectrum of a view whose samples have all been checked (04 R70). -/
def execSpectrumRecord (view : Fin 64) (s : State) : Host.Outcome State Fault Refusal :=
  .next <|
    match (s.view view).recQ with
    | [] => s
    | x :: rest =>
      let v := (planIn s x.bank).view view.val
      if !engines s || (s.stream x.stream).checkedTo ≤ x.hi then s
      else
        let m := marksOver (s.stream x.stream).marks x.lo x.hi
        -- a clock of its epoch has lost lock since the spectrum left the array (21 R419)
        let late := !x.invalid && invalidClock s x.epoch
        let x := { x with linkErr := m.1, overrange := m.2.1, convUnlock := m.2.2
                          invalid := x.invalid || late }
        let s := s.modView view fun r =>
          let f := if m.1 then r.flags.raise 2 else r.flags
          { r with recQ := rest, flags := if late then f.raise 4 else f }
        if v.formats = 0 then s else emitSpectrum x m s

/-! View status. -/

/-- Transforms of a view from a bank other than the running one are in flight (05 R105): that bank. -/
def drainingBank (s : State) (v : Fin 64) : Option (Fin 2) :=
  let other := fun b : Fin 2 => decide (some b ≠ bankNow s)
  let xs := (s.plains.ready ++ busyPipes s).filter fun x => decide (x.view = v) && other x.bank
  match xs with
  | x :: _ => some x.bank
  | [] => (((s.view v).scans).find? fun c => other c.bank).map (·.bank)

/-- An entry of VIEW_STATUS (05 R105). -/
def viewEntry (s : State) (n : Nat) : List Byte :=
  match unit 64 n with
  | none => padTo 32 []
  | some v =>
    let r := s.view v
    let active := (planNow s).view n
    let drain := drainingBank s v
    let e := if active.present then active else match drain with
      | some b => (planIn s b).view n
      | none => default
    let bank := if active.present then r.lastBank.val else (drain.map (·.val)).getD 0
    word (e.source + atBit 6 active.present + e.log2n * 2 ^ 7 + atBit 12 e.fourStep + bank * 2 ^ 13 + atBit 14 drain.isSome) ++
    word r.flags.now.toNat ++ toLe 8 r.spectra.toNat ++ word r.satCount.toNat ++ word r.skipped.toNat ++
    toLe 8 (r.flags.occWord 0 5)

/-- Clears the flags that a mask names, and the counters of a view (05 R105). -/
def viewClear (n mask : Nat) (s : State) : State :=
  match unit 64 n with
  | some v => s.modView v fun r => { r with flags := r.flags.statusClear mask, satCount := 0, skipped := 0 }
  | none => s

/-- VIEW_STATUS (05 R105). -/
def execViewStatus (s : State) : Host.Outcome State Fault Refusal :=
  .next <| serve (statusSpec 0x0401 3) (statusBody 64 32 (fun _ => []) viewEntry viewClear) s

end Sys2Proof.Machine
end

