-- ==== Sys2Proof/Machine/Masks.lean ====
section
/-! DEFINITION. Geyser's mask units: threshold pairs, band power, slots, condition events, results for the verify units
(07 R129 to R136, 08 R154; 20 R399). -/

namespace Sys2Proof.Machine

/-- The address that an item of epoch `k` reads for address `a` of a table memory (20 R399): within the target range of an
epoch schedule entry it is that of one of the three rotating copies. -/
def schedAddr (b : Bank) (pairs : Bool) (k a : Nat) : Nat :=
  match b.plan.sched.find? fun e => e.pairs = pairs && decide (e.base ≤ a ∧ a < e.base + e.count) with
  | some e => a + (k - b.k0) % 3 * e.count
  | none => a

/-- LOWER and UPPER of a pair address, for an item of epoch `k` (07 R130). -/
def pairAt (b : Bank) (k a : Nat) : Int × Int :=
  let w := memLe b.pairs (4 * schedAddr b true k a) 4
  (signed 16 w, signed 16 (w / 2 ^ 16))

/-- The count of qualifying bins and the longest run of adjacent ones (07 R130): count, run, longest. -/
def runCount : List Bool → Nat × Nat × Nat → Nat × Nat × Nat
  | [], a => a
  | q :: t, (n, r, m) => if q then runCount t (n + 1, r + 1, max m (r + 1)) else runCount t (n, 0, m)

/-- ln 10 scaled by 2^96. -/
def ln10Q96 : Nat := 182429585950654714090129938606

/-- Sum of the exponential series at `x` (scaled by 2^96): term `t` of degree `n`, then `k` more. -/
def expSeries (x : Nat) : Nat → Nat → Nat → Nat
  | 0, _, _ => 0
  | k + 1, n, t => t + expSeries x k (n + 1) (t * x / (2 ^ 96 * (n + 1)))

/-- 10^(num / den) scaled by 2^96. -/
def pow10Q96 (num den : Nat) : Nat :=
  10 ^ (num / den) * expSeries (num % den * ln10Q96 / den) 60 0 (2 ^ 96)

/-- The least `d` from `lo` on for which a sum lies below 10^((2 d + 1) / 5120); bisection over 2^k values. -/
def bandSearch (sum : Nat) : Nat → Nat → Nat
  | 0, lo => lo
  | k + 1, lo => if sum < pow10Q96 (2 * (lo + 2 ^ k) - 1) 5120 then bandSearch sum k lo else bandSearch sum k (lo + 2 ^ k)

/-- Band power B over log-power bins (07 R131), with its error within 2 LSB open (log entry 1: DESIGN CHOICE); none when no bin
contributes. -/
def bandPower (ls : List Int) : Int :=
  let xs := ls.filter (· ≠ -32768)
  match xs with
  | [] => -32768
  | x :: t =>
    let top := t.foldl max x
    let sum := (xs.map fun l =>
      let k := (top - l).toNat
      let q := k / 2560 + 1
      pow10Q96 (2560 * q - k) 2560 / 10 ^ q).sum
    top + (bandSearch sum 16 0 : Nat) + ((Config.bandError ls : Nat) : Int) - 2

/-- A flag that an EXCLUDE mask names: SAT, ZSAT, OVERRANGE, CONV_UNLOCK from bit 0 (20 R395). -/
def Spectrum.excludedBy (x : Spectrum) (mask : Nat) : Bool :=
  (bit 0 mask && x.sat.isSome) || (bit 1 mask && x.zsat) || (bit 2 mask && x.overrange) || (bit 3 mask && x.convUnlock)

/-- The log-power of the bins `lo` to `hi` of a spectrum. -/
def logBins (s : State) (x : Spectrum) (lo hi : Nat) : List Int :=
  let bk := s.bank x.bank
  let v := bk.plan.view x.view.val
  (((x.bins.drop lo).take (hi + 1 - lo)).zipIdx).map fun z => (logBin bk v (lo + z.2) z.1).1

/-- A per-spectrum slot is true for a spectrum (07 R130, R131). -/
def slotTrue (s : State) (x : Spectrum) (m : MaskE) : Bool :=
  let ls := logBins s x m.binLo m.binHi
  match m.kind with
  | 1 =>
    let q := ls.zipIdx.map fun l =>
      let p := pairAt (s.bank x.bank) x.epoch (m.table + l.2)
      decide (l.1 < p.1) || decide (p.2 < l.1)
    let r := runCount q (0, 0, 0)
    decide (m.minBins ≤ r.1 ∧ m.minRun ≤ r.2.2)
  | 2 => decide (m.threshold < bandPower ls)
  | 3 => decide (bandPower ls < m.threshold)
  | _ => false

/-- The place of a slot in the state, and its condition number (07 R135). -/
def slotIndex (v : Fin 64) (k : Fin 4) : Fin 256 := ⟨4 * v.val + k.val, by omega⟩

/-- One slot decides for a spectrum: the state, and the result as the verify units take it (07 R129, R133; 08 R154). -/
def decideSlot (x : Spectrum) (acc : State × List Bool) (k : Fin 4) : State × List Bool :=
  let (s, rs) := acc
  let n := slotIndex x.view k
  let m := (planIn s x.bank).mask n.val
  if m.kind = 0 ∨ m.kind = 4 then
    ({ s with geyser := { s.geyser with slotPrev := vset s.geyser.slotPrev n false } }, rs ++ [false])
  else
    let out := x.excludedBy m.exclude
    let r := !out && slotTrue s x m
    let prev := vget s.geyser.slotPrev n
    let g := s.geyser
    let s := { s with geyser := { g with
      slotPrev := vset g.slotPrev n r
      excluded := if out then vmod g.excluded n (fun c => satAdd c 1) else g.excluded } }
    let s := if r && !(m.edge && prev) then
        condEvent n.val (instantOf s x.stream x.origin)
          (some { node := nodeId s, stream := x.stream.val, index := x.origin }) s
      else s
    (s, rs ++ [r])

/-- MASK_EVALUATE (07 R130, R133): the mask unit takes its view's next spectrum. -/
def execMaskEvaluate (view : Fin 64) (s : State) : Host.Outcome State Fault Refusal :=
  .next <|
    match (s.view view).maskQ with
    | [] => s
    | x :: rest =>
      if !dclk s then s
      else
        let s := s.modView view fun r => { r with maskQ := rest }
        let (s, rs) := (List.finRange 4).foldl (decideSlot x) (s, [])
        recordVerify view x.bank x.gen x.start (fun k => rs[k]?) s

/-- At a flip, the slots of a view whose spectra the old bank does not hand to its mask unit were not true for its previous
spectrum (07 R129 EDGE). -/
def maskFlip (old : Option (Fin 2)) (s : State) : State :=
  let off := fun v : Fin 64 => old.any fun o => let e := (planIn s o).view v.val; e.present && !e.geyser
  { s with geyser := { s.geyser with
    slotPrev := (List.finRange 64).foldl (fun p v =>
      if off v then (List.finRange 4).foldl (fun p k => vset p (slotIndex v k) false) p else p) s.geyser.slotPrev } }

/-- The RFI slots of a view for a closed Pool period, from its mask bits (07 R132, R136): `tc` is the closing boundary. -/
def rfiSlots (view : Fin 64) (bank : Fin 2) (bits : List Bool) (tc : Nat) (s : State) : State :=
  (List.finRange 4).foldl (fun s k =>
    let n := slotIndex view k
    let m := (planIn s bank).mask n.val
    let c := (((bits.drop m.binLo).take (m.binHi + 1 - m.binLo)).filter id).length
    if m.kind = 4 ∧ m.minBins ≤ c then condEvent n.val tc none s else s) s

end Sys2Proof.Machine
end

