-- ==== Sys2Proof/Machine/Geyser.lean ====
section
/-! DEFINITION. Geyser's sequencers: the reorder queue, instructions, timers, arming, FIREs and their decisions, the
commands of CD5 (07 R138 to R152; 08 R154 to R161). -/

namespace Sys2Proof.Machine

/-- Two nanoseconds, the unit of durations (07 R141). -/
def twoNs : Nat := 2 * Config.nsUnits

/-! Programs. -/

/-- The program entry that a sequencer runs. -/
def progOf (s : State) (q : Fin 16) : GeyserE :=
  (((s.seqr q).bank).map fun b => (planIn s b).seqOf q.val).getD default

/-- The instruction at the present address; beyond the program's end it reads as STOP. -/
def instrNow (s : State) (q : Fin 16) : Nat := (progOf s q).instrs.getD (s.seqr q).pc.toNat 0

/-- The sequencer executes an instruction of the given opcode now. -/
def runs (s : State) (q : Fin 16) (op : Nat) : Bool :=
  dclk s && (s.seqr q).run = .executing && iOp (instrNow s q) = op

/-- Execution goes on at the next address. -/
def Seq.fall (r : Seq) : Seq := { r with pc := r.pc + 1 }

/-- A branch to a state (07 R141, R142). -/
def branch (q : Fin 16) (st : Nat) (s : State) : State :=
  let g := progOf s q
  s.modSeq q fun r => { r with state := BitVec.ofNat 5 st, pc := BitVec.ofNat 8 ((g.states.getD st none).getD 0) }

/-- The ARM and DISARM of the system that apply to a program from a station time on (07 R149). -/
def armsFrom (s : State) (g : GeyserE) (t : Nat) : List ArmChange :=
  (s.fabric.arms.filter fun a => (a.mask &&& g.armGroups) ≠ 0 && decide (t ≤ boundaryTime s a.e)).map
    fun a => { start := boundaryTime s a.e, arm := !a.disarm }

/-- A program starts at address 0: counters, timers, holdoff and arming are reset; the verify unit goes on (07 R143, R149,
R151; 08 R161). TT stands at the start until an event is taken. -/
def startProgram (q : Fin 16) (b : Fin 2) (since : Nat) (queue : List Event) (t : Nat) (s : State) : State :=
  let arms := armsFrom s ((planIn s b).seqOf q.val) t
  s.modSeq q fun r =>
    { Seq.reset with
      run := .executing, bank := some b, since := since, queue := queue, arms := arms
      tt := { event := { cond := 0, time := now s, anchor := none }, late := false }
      history := r.history, prov := r.prov }

/-- The program ends, and none takes its place. -/
def endProgram (q : Fin 16) (s : State) : State :=
  s.modSeq q fun r => { Seq.reset with history := r.history, prov := r.prov }

/-- An event is the expiry of a timer of the sequencer's own (07 R135). -/
def Event.ofTimer (e : Event) : Bool := decide (337 ≤ e.cond ∧ e.cond ≤ 344)

/-- The new bank's program takes the place of a sequencer's, with every event of epoch `k` onward; the old one's timer
expiries and held FIREs are discarded (07 R146). -/
def switchProgram (q : Fin 16) (k : Nat) (b : Fin 2) (s : State) : State :=
  let r := s.seqr q
  let keep := (r.queue ++ r.released.map (·.event)).filter fun e => eventFrom s e k && !e.ofTimer
  let s := s.modStat q fun x => { x with heldCount := 0 }
  if ((planIn s b).seqOf q.val).present then startProgram q b k keep (boundaryTime s k) s else endProgram q s

/-- A sequencer that a flip ends has taken every event before epoch `k` (07 R146): it waits, its alignment delay has passed
since t_k, and no earlier event is left. -/
def switchDue (s : State) (q : Fin 16) (k : Nat) : Bool :=
  let r := s.seqr q
  match r.run with
  | .stopped | .halted => true
  | .executing => false
  | .waiting =>
    decide (boundaryTime s k + (progOf s q).alignUs * Config.usUnits ≤ now s) &&
      (r.queue ++ r.released.map (·.event)).all fun e => eventFrom s e k

/-- Carries out a switch that is due. -/
def maybeSwitch (q : Fin 16) (s : State) : State :=
  match (s.seqr q).switchAt with
  | some (k, b) => if switchDue s q k then switchProgram q k b s else s
  | none => s

/-- The conditions that a program names (07 R138). -/
def GeyserE.conds (g : GeyserE) : List Nat :=
  g.instrs.flatMap fun w => if iOp w = 1 then waitTerms w ++ (waitAbort w).toList else []

/-- Program, header, named mask slots and named regions are identical in two plans (07 R146). -/
def sameProgram (a b : Plan) (q : Nat) : Bool :=
  let g := a.seqOf q
  (b.seqOf q).present && g.present && g = b.seqOf q &&
    g.conds.all fun c =>
      if c < 256 then a.mask c = b.mask c else if c < 272 then a.region (c - 256) = b.region (c - 256) else true

/-- A flip to epoch `k` under a new bank, as sequencer `q` meets it (07 R146). -/
def seqFlip (k : Nat) (new : Fin 2) (s : State) (q : Fin 16) : State :=
  let r := s.seqr q
  match r.bank with
  | some old =>
    if sameProgram (planIn s old) (planIn s new) q.val then s.modSeq q fun r => { r with bank := some new }
    else maybeSwitch q (s.modSeq q fun r => { r with switchAt := some (k, new) })
  | none => switchProgram q k new s

/-! Placement on views and timers. -/

/-- The first output of a zoom channel at or after an index of its stream, as its restart and number there (03 R48, 07
R137): the grids are newest first, and `newer` is the one that follows. -/
def placeOnGrids (x : Nat) : Option ZGrid → List ZGrid → Nat × Nat
  | newer, [] => ((newer.getD default).gen, 0)
  | newer, g :: t =>
    if g.s0 ≤ x then
      let m := ceilDiv (x - g.s0) (max g.d 1)
      match newer with
      | some h => if h.s0 ≤ g.s0 + m * g.d then (h.gen, 0) else (g.gen, m)
      | none => (g.gen, m)
    else placeOnGrids x (some g) t

/-- Where an event lies on a view's source (07 R137, 03 R48), by its anchor on that stream, else by the fit: the restart of a
zoom source, and the index from it on. -/
def placeOnSource (s : State) (src : Nat) (e : Event) : Option (Nat × Nat) :=
  let i := streamOf s src
  let x := match e.anchor with
    | some a => if a.node = nodeId s ∧ a.stream = i.val then some a.index else placeTime s i e.time
    | none => placeTime s i e.time
  x.map fun x =>
    match unit 32 (src - 16) with
    | some c => if src < 16 then (0, x) else placeOnGrids x none (s.zoom c).grids
    | none => (0, x)

/-- The grid of a restart of a zoom channel. -/
def ZoomRt.grid (z : ZoomRt) (gen : Nat) : ZGrid :=
  if gen = z.gen then { gen := gen, s0 := z.s0, d := z.cfg.d, outs := z.m }
  else (z.grids.find? fun g => g.gen = gen).getD default

/-- The index on the stream of an index of a source, counted from a restart. -/
def indexOnStream (s : State) (src gen x : Nat) : Nat :=
  match unit 32 (src - 16) with
  | some c => if src < 16 then x else ((s.zoom c).grid gen).s0 + x * ((s.zoom c).grid gen).d
  | none => x

/-- The first grid point at or after `d` hops from an event, on a view of a program's bank (07 R143). -/
def hopsFrom (s : State) (v : ViewE) (d : Nat) (e : Event) : Option (Nat × Nat) :=
  let h := max v.hop 1
  (placeOnSource s v.source e).map fun x => (x.1, ceilDiv (x.2 + d * h) h * h)

/-- The view of a program. -/
def progView (s : State) (q : Fin 16) (v : Nat) : ViewE :=
  (((s.seqr q).bank).map fun b => (planIn s b).view v).getD default

/-- What a source has delivered or formed so far, from a restart on. -/
def sourceAvail (s : State) (src gen : Nat) : Nat :=
  match unit 32 (src - 16) with
  | some c => if src < 16 then (s.stream (streamOf s src)).avail else ((s.zoom c).grid gen).outs
  | none => (s.stream (streamOf s src)).avail

/-- The expiry of a timer, when it has come (07 R143). -/
def timerExpiry (s : State) (q : Fin 16) (t : TimerRt) : Option Event :=
  match t with
  | .at x => if x ≤ now s then some { cond := 0, time := x, anchor := none } else none
  | .hops v gen x =>
    let e := progView s q v.val
    let i := streamOf s e.source
    if x + e.n ≤ sourceAvail s e.source gen then
      let index := indexOnStream s e.source gen x
      some { cond := 0, time := instantOf s i index, anchor := some { node := nodeId s, stream := i.val, index := index } }
    else none

/-- A timer of a sequencer expires, when its time has come: an event of condition 337 + n (07 R143). -/
def expireTimer (q : Fin 16) (n : Fin 8) (s : State) : State :=
  match vget (s.seqr q).timers n with
  | none => s
  | some t =>
    match timerExpiry s q t with
    | none => s
    | some e => enqueue { e with cond := 337 + n.val } (s.modSeq q fun r => { r with timers := vset r.timers n none }) q

/-- Every timer of a sequencer that has run out expires. -/
def expireDue (q : Fin 16) (s : State) : State := (List.finRange 8).foldl (fun s n => expireTimer q n s) s

/-! The reorder queue. -/

/-- An event is taken before another (07 R138). -/
def Event.before (a b : Event) : Bool := decide (a.time < b.time ∨ (a.time = b.time ∧ a.cond < b.cond))

/-- The first of a list of events in the order of taking. -/
def firstEvent : List Event → Option Event
  | [] => none
  | e :: t =>
    match firstEvent t with
    | some f => if f.before e then some f else some e
    | none => some e

/-- A released event takes its place behind the late ones and those before it (07 R138, R139). -/
def insertReleased (t : Taking) : List Taking → List Taking
  | [] => [t]
  | x :: r => if !x.late && t.event.before x.event then t :: x :: r else x :: insertReleased t r

/-- A sequencer that neither a STOP nor GEYSER_STOP has halted (07 R142, R151). -/
def Seq.running (r : Seq) : Bool := r.run = .waiting || r.run = .executing

/-- Releases the first event of a queue whose alignment delay has passed (07 R138); a halted sequencer discards it (07
R151). -/
def releaseOne (q : Fin 16) (s : State) : State :=
  let r := s.seqr q
  let delay := (progOf s q).alignUs * Config.usUnits
  match firstEvent r.queue with
  | none => s
  | some e =>
    if e.time + delay ≤ now s then
      s.modSeq q fun r =>
        { r with queue := r.queue.erase e
                 released := if r.running then insertReleased { event := e, late := false } r.released
                   else r.released }
    else s

/-- Releases every event that is due; `n` bounds their number. -/
def releaseDue (q : Fin 16) : Nat → State → State
  | 0, s => s
  | n + 1, s => releaseDue q n (releaseOne q s)

/-- EVENT_RELEASE (07 R138). -/
def execEventRelease (seqr : Fin 16) (s : State) : Host.Outcome State Fault Refusal :=
  .next <| if dclk s then maybeSwitch seqr (releaseOne seqr s) else s

/-! WAIT. -/

/-- The program that runs takes an event: the new bank's events of a flip wait (07 R146). -/
def takable (s : State) (r : Seq) (t : Taking) : Bool :=
  match r.switchAt with
  | some (k, _) => !eventFrom s t.event k
  | none => true

/-- The terms of a WAIT ALL after an event has been taken: those outside the span of a later one are forgotten (07 R142). -/
def keepTerms (w : Nat) (ts : List (Nat × Taking)) (t : Taking) : List (Nat × Taking) :=
  let terms := waitTerms w
  let mine := (List.range terms.length).filter fun i => terms.getD i 512 = t.event.cond
  let all := (ts.filter fun x => !mine.contains x.1) ++ mine.map fun i => (i, t)
  let top := all.foldl (fun m x => max m x.2.event.time) 0
  all.filter fun x => decide (top ≤ x.2.event.time + bits 63 49 w * twoNs)

/-- The earliest of the takings (07 R142). -/
def earliest (d : Taking) (ts : List (Nat × Taking)) : Taking :=
  ts.foldl (fun m x => if x.2.event.before m.event then x.2 else m) d

/-- A released event has been taken: late ones are counted (07 R139, R140). -/
def takeEvent (q : Fin 16) (t : Taking) (s : State) : State :=
  let s := s.modSeq q fun r =>
    { r with released := r.released.erase t
             lastTaken := some (match r.lastTaken with | some x => max x t.event.time | none => t.event.time) }
  if t.late then
    s.modStat q fun x => { x with lateEvents := satAdd x.lateEvents 1, flags := x.flags.raise 3 }
  else s

/-- A taken event as the WAIT at hand handles it (07 R140, R142). -/
def handleTaken (q : Fin 16) (w : Nat) (t : Taking) (s : State) : State :=
  if (waitTerms w).contains t.event.cond then
    let s := s.modSeq q fun r => { r with tt := t, late := r.late || t.late }
    if bit 4 w then
      let ts := keepTerms w (s.seqr q).terms t
      if (List.range (waitTerms w).length).all fun i => ts.any fun x => x.1 = i then
        s.modSeq q fun r => { r with run := .executing, pc := r.pc + 1, terms := [], tt := earliest t ts }
      else s.modSeq q fun r => { r with terms := ts }
    else s.modSeq q fun r => { r with run := .executing, pc := r.pc + 1 }
  else if waitAbort w = some t.event.cond then
    branch q (bits 48 44 w) (s.modSeq q fun r => { r with run := .executing, terms := [], late := r.late || t.late })
  else s

/-- Takes released events while the WAIT goes on; `n` bounds their number. -/
def waitLoop (q : Fin 16) (w : Nat) : Nat → State → State
  | 0, s => s
  | n + 1, s =>
    let r := s.seqr q
    if r.run ≠ .waiting then s
    else match r.released.find? (takable s r) with
      | none => s
      | some t => waitLoop q w n (handleTaken q w t (takeEvent q t s))

/-- WAIT (07 R140, R142). -/
def execWait (seqr : Fin 16) (s : State) : Host.Outcome State Fault Refusal :=
  .next <|
    let r := s.seqr seqr
    let w := instrNow s seqr
    if dclk s && (r.run = .executing || r.run = .waiting) && iOp w = 1 then
      let s := if r.run = .executing then s.modSeq seqr fun r => { r with run := .waiting, terms := [] } else s
      let s := expireDue seqr s
      let s := releaseDue seqr (s.seqr seqr).queue.length s
      maybeSwitch seqr (waitLoop seqr w (s.seqr seqr).released.length s)
    else s

/-! COUNT, TIMER, GOTO, HOLDOFF, STOP. -/

/-- The counter or timer that an instruction names. -/
def iUnit (w : Nat) : Fin 8 := ⟨bits 6 4 w, by simp only [bits]; omega⟩

/-- COUNT (07 R143). -/
def execCount (seqr : Fin 16) (s : State) : Host.Outcome State Fault Refusal :=
  .next <|
    if !runs s seqr 2 then s
    else
      let w := instrNow s seqr
      let set := fun x : U32 => s.modSeq seqr fun r => { r with counters := vset r.counters (iUnit w) x }
      if bit 7 w then (set 0).modSeq seqr Seq.fall
      else
        let c := satAdd (vget (s.seqr seqr).counters (iUnit w)) 1
        if bits 39 8 w ≤ c.toNat then branch seqr (bits 44 40 w) (set 0) else (set c).modSeq seqr Seq.fall

/-- TIMER (07 R143). A timer in hops of a view whose source has no fit and no anchor to place TT by does not run. A START
restarts a timer whose expiry has not been taken, and a STOP discards the expiry. -/
def execTimer (seqr : Fin 16) (s : State) : Host.Outcome State Fault Refusal :=
  .next <|
    if !runs s seqr 3 then s
    else
      let w := instrNow s seqr
      let n := iUnit w
      let d := bits 47 16 w
      let e := (s.seqr seqr).tt.event
      let v : Fin 64 := ⟨bits 15 10 w, by simp only [bits]; omega⟩
      let t : Option TimerRt :=
        if bits 8 7 w = 1 then none
        else if bit 9 w then (hopsFrom s (progView s seqr v.val) d e).map fun x => TimerRt.hops v x.1 x.2
        else some (.at (e.time + d * twoNs))
      s.modSeq seqr fun r =>
        { r.fall with
          timers := vset r.timers n t
          queue := r.queue.filter fun e => e.cond ≠ 337 + n.val
          released := r.released.filter fun t => t.event.cond ≠ 337 + n.val }

/-- GOTO (07 R142). -/
def execGoto (seqr : Fin 16) (s : State) : Host.Outcome State Fault Refusal :=
  .next <| if runs s seqr 4 then branch seqr (bits 8 4 (instrNow s seqr)) s else s

/-- HOLDOFF (07 R144): it applies from the last effective FIRE on. -/
def execHoldoff (seqr : Fin 16) (s : State) : Host.Outcome State Fault Refusal :=
  .next <|
    if !runs s seqr 7 then s
    else
      let w := instrNow s seqr
      s.modSeq seqr fun r =>
        { r.fall with holdoff := { mode := bits 5 4 w, view := bits 11 6 w, duration := bits 43 12 w } }

/-- STOP (07 R142). -/
def execStop (seqr : Fin 16) (s : State) : Host.Outcome State Fault Refusal :=
  .next <| if runs s seqr 0 then maybeSwitch seqr (s.modSeq seqr fun r => { r with run := .halted }) else s

/-- TIMER_EXPIRY (07 R143). -/
def execTimerExpiry (seqr : Fin 16) (timer : Fin 8) (s : State) : Host.Outcome State Fault Refusal :=
  .next <| if dclk s then expireTimer seqr timer s else s

/-! Arming. -/

/-- The arming at a trigger time: the change with the latest start at or before it, of equal ones the last executed (07
R149). -/
def armedAt (arms : List ArmChange) (t : Nat) : Bool :=
  ((arms.filter fun a => decide (a.start ≤ t)).foldl
    (fun m a => match m with
      | some x => if x.start ≤ a.start then some a else some x
      | none => some a) (none : Option ArmChange)).any (·.arm)

/-- An ARM or DISARM applies on this node from a trigger time on, to the sequencers of a group mask (07 R149). -/
def applyArm (mask : Nat) (arm : Bool) (start : Nat) (s : State) : State :=
  (List.finRange 16).foldl (fun s q =>
    if ((progOf s q).armGroups &&& mask) ≠ 0 then
      s.modSeq q fun r => { r with arms := r.arms ++ [{ start := start, arm := arm }] }
    else s) s

/-- The epoch floor((x - O) / P) + 2 of station time x (07 R149, 16 R330). -/
def nextButOne (s : State) : Nat := ((epochAt s (now s)).getD 0) + 2

/-- A SYSTEM ARM or DISARM is kept, so that later programs and joining workers have it (16 R330). -/
def keepOrder (o : ArmOrder) (s : State) : State :=
  { s with fabric := { s.fabric with armSeq := s.fabric.armSeq + 1, arms := s.fabric.arms ++ [o] } }

/-- The message of a SYSTEM ARM or DISARM (07 R149). -/
def armMsg (s : State) (o : ArmOrder) : FabBody := .arm o.e o.mask o.disarm s.fabric.armSeq.toNat

/-- A SYSTEM ARM or DISARM as the manager executes it, and a node whose role is OFF: it names the epoch after the next, and
goes to every node (07 R149). -/
def systemArm (mask : Nat) (arm : Bool) (s : State) : State :=
  let o : ArmOrder := { e := nextButOne s, mask := mask, disarm := !arm }
  let s := applyArm mask arm (boundaryTime s o.e) s
  keepOrder o (if s.fabric.role = .manager then originate (downlinks s) 0x3F true true (armMsg s o) s else s)

/-- ARM (07 R149). -/
def execArm (seqr : Fin 16) (s : State) : Host.Outcome State Fault Refusal :=
  .next <|
    if !runs s seqr 5 then s
    else
      let w := instrNow s seqr
      let mask := bits 13 6 w
      let arm := !bit 4 w
      let s := s.modSeq seqr Seq.fall
      if !bit 5 w then applyArm mask arm (s.seqr seqr).tt.event.time s
      else if s.fabric.role = .worker then
        applyArm mask arm (s.seqr seqr).tt.event.time
          (s.modStat seqr fun t => { t with armNotManager := satAdd t.armNotManager 1 })
      else systemArm mask arm s

/-! FIRE. -/

/-- The fields of a FIRE (07 R141). -/
def fireSpec (w : Nat) : FireSpec :=
  { fabric := bit 4 w, channel := bits 8 5 w, heEn := bit 9 w, he := bits 16 10 w, mask := bits 32 17 w }

/-- A fire time lies inside the holdoff of the last effective FIRE (07 R144). -/
def insideHoldoff (s : State) (q : Fin 16) (t : Nat) : Bool :=
  let r := s.seqr q
  match r.lastFire with
  | none => false
  | some f =>
    decide (f.time ≤ t) &&
      (match r.holdoff.mode with
       | 1 => decide (t < f.time + r.holdoff.duration * twoNs)
       | 2 =>
         let v := progView s q r.holdoff.view
         (hopsFrom s v r.holdoff.duration f).any fun x =>
           decide (t < instantOf s (streamOf s v.source) (indexOnStream s v.source x.1 x.2))
       | 3 => !r.captures.isEmpty || decide (t < r.capEnd)
       | _ => false)

/-- The range of indices on the anchor's stream that the window of a mask condition covers (04 R70, 06 R111). -/
def eventRange (s : State) (b : Fin 2) (e : Event) : Option (Fin 16 × Nat × Nat) :=
  match e.anchor with
  | none => none
  | some a =>
    if e.cond < 256 && a.node = nodeId s then
      let v := (planIn s b).view (e.cond / 4)
      match unit 16 a.stream, unit 32 (v.source - 16) with
      | some i, some c =>
        if v.source < 16 then some (i, a.index, a.index + v.n - 1)
        else
          let z := (s.zoom c).cfg
          some (i, a.index + z.d - 1 - z.reach, a.index + v.n * z.d - 1)
      | some i, none => some (i, a.index, a.index + v.n - 1)
      | none, _ => none
    else none

/-- The marks of the window that set TT as known now, and whether it is unchecked in part (11 R223). -/
def eventMarks (s : State) (b : Fin 2) (e : Event) : Nat :=
  match eventRange s b e with
  | some (i, lo, hi) =>
    markFlags (marksOver (s.stream i).marks lo hi) + atBit 12 (decide ((s.stream i).checkedTo ≤ hi))
  | none => 0

/-- The body of a trigger record (11 R218). -/
def triggerBody (q : Fin 16) (t : Taking) (seq : Nat) (sent : Option Nat) (reason held mask : Nat) : List Byte :=
  let e := t.event
  toLe 8 ((e.anchor.map (·.index)).getD 0) ++ toLe 4 seq ++
  toLe 4 (q.val + e.cond * 2 ^ 4 + atBit 13 e.anchor.isSome + atBit 14 t.late + atBit 15 sent.isSome +
    sent.getD 0 * 2 ^ 16 + reason * 2 ^ 20) ++
  toLe 4 held ++ toLe 4 mask

/-- Issues a trigger record (11 R215, R218, R223); kind 2 carries PROVISIONAL. -/
def triggerRecord (q : Fin 16) (b : Fin 2) (kind : Nat) (t : Taking) (seq : Nat) (sent : Option Nat) (reason held mask : Nat)
    (s : State) : State :=
  let e := t.event
  let own := e.anchor.bind fun a => if a.node = nodeId s then unit 16 a.stream else none
  let view := if e.cond < 256 then some (e.cond / 4) else none
  let r := mkRecord s 4 kind own view (epochNum (eventEpoch s e)) e.time (eventMarks s b e + atBit 0 (kind = 2))
    (triggerBody q t seq sent reason held mask)
  emit { r with stream := e.anchor.map (·.stream) } s

/-- The message that tells other nodes of a FIRE or its decision (16 R320): it names the anchor where that lies on this
node, since the anchor node is its sender. -/
def fireMsg (s : State) (kind : FireClass) (q : Fin 16) (t : Taking) (seq channel reason : Nat) : FireMsg :=
  let a := t.event.anchor.filter fun a => a.node = nodeId s
  { kind := kind, time := t.event.time, seq := seq, index := (a.map (·.index)).getD 0, channel := channel
    sequencer := q.val, anchorValid := a.isSome, anchorStream := (a.map (·.stream)).getD 0, reason := reason }

/-- The lanes on which a node sends what every other node is to get (16 R322). -/
def broadcastLanes (s : State) : List (Fin 12) :=
  match s.fabric.role with
  | .manager => downlinks s
  | .worker => uplinks s
  | .off => []

/-- A FIRE of this spec goes to other nodes: the channel, when it does. -/
def sentOn (s : State) (f : FireSpec) : Option Nat :=
  if f.fabric && !(broadcastLanes s).isEmpty then some f.channel else none

def sendFire (f : FireSpec) (m : FireMsg) (s : State) : State :=
  if (sentOn s f).isSome then originate (broadcastLanes s) 0x3F true true (.fire m) s else s

/-- What a freeze of a local FIRE carries besides its range (09 R182). -/
def fireCapture (s : State) (q : Fin 16) (t : Taking) (seq : Nat) (prov : Bool) : Capture :=
  { (default : Capture) with
    provisional := prov, source := q.val, origin := nodeId s, sequencer := q.val, fireSeq := seq, trigTime := t.event.time
    epoch := epochNum (eventEpoch s t.event) }

/-- The effects of an ordinary FIRE (07 R147). -/
def fireEffects (q : Fin 16) (b : Fin 2) (t : Taking) (seq held : Nat) (f : FireSpec) (s : State) : State × List (Nat × Nat) :=
  let s := triggerRecord q b 0 t seq (sentOn s f) 0 held f.mask s
  let (s, caps) := freezeMask f.mask t.event.time t.event.anchor (fireCapture s q t seq false) s
  let s := if f.heEn then pulseOpt (some f.he) s else s
  let s := sendFire f (fireMsg s .fire q t seq f.channel 0) s
  (condEvent (321 + q.val) t.event.time t.event.anchor s, caps)

/-- Issues the PROVISIONAL record of a FIRE, and behind it the notices of its captures that it has held back (08 R157, R158;
11 R232). -/
def issueProv (q : Fin 16) (p : ProvFire) (s : State) : State :=
  p.notices.foldl (fun s r => emit r s)
    (triggerRecord q p.bank 2 p.event p.seq.toNat (sentOn s p.spec) 0 p.held.toNat p.captured s)

/-- The effects of a provisional FIRE (08 R156 to R158): its record waits for the decisions of earlier ones. -/
def provEffects (q : Fin 16) (b : Fin 2) (t : Taking) (seq held : Nat) (f : FireSpec) (s : State) : State × List (Nat × Nat) :=
  let first := (s.seqr q).prov.isEmpty
  let p : ProvFire :=
    { seq := BitVec.ofNat 32 seq, event := t, spec := f, bank := b, held := BitVec.ofNat 32 held, captured := f.mask
      issued := first, notices := [] }
  let s := s.modSeq q fun r => { r with prov := r.prov ++ [p] }
  let s := if first then issueProv q p s else s
  let (s, caps) := freezeMask f.mask t.event.time t.event.anchor (fireCapture s q t seq true) s
  let s := pulseOpt ((planIn s b).seqOf q.val).provHe s
  (sendFire f (fireMsg s .provisional q t seq f.channel 0) s, caps)

/-- An effective FIRE: what it leaves in the sequencer, and its effects (07 R144, R147, R149). -/
def fireEffective (q : Fin 16) (b : Fin 2) (t : Taking) (f : FireSpec) (s : State) : State :=
  let g := (planIn s b).seqOf q.val
  let st := vget s.geyser.stats q
  let held := st.heldCount.toNat
  let s := s.modStat q fun x =>
    { x with heldCount := 0, fireSeq := x.fireSeq + 1, fires := x.fires + 1, flags := x.flags.raise 0 }
  let s := s.modSeq q fun r =>
    { r with lastFire := some t.event, capEnd := t.event.time
             arms := if g.oneShot then r.arms ++ [{ start := t.event.time, arm := false }] else r.arms }
  let (s, caps) :=
    if g.forerunner then provEffects q b t st.fireSeq.toNat held f s else fireEffects q b t st.fireSeq.toNat held f s
  s.modSeq q fun r => { r with captures := caps }

/-- FIRE (07 R142, R144, R147, R149; 08 R156, R157). A FIRE that arming refuses has no effect, also inside a holdoff. -/
def execFire (seqr : Fin 16) (s : State) : Host.Outcome State Fault Refusal :=
  .next <|
    if !runs s seqr 6 then s
    else
      let r := s.seqr seqr
      let g := progOf s seqr
      let f := fireSpec (instrNow s seqr)
      let t := { r.mark.getD r.tt with late := r.late }
      let s := s.modSeq seqr fun r => { r.fall with mark := none, late := false }
      if g.requireArm && !armedAt r.arms t.event.time then
        s.modStat seqr fun x => { x with notArmed := satAdd x.notArmed 1, flags := x.flags.raise 2 }
      else if insideHoldoff s seqr t.event.time || (g.forerunner && decide (4 ≤ r.prov.length)) then
        s.modStat seqr fun x =>
          { x with trigHeld := satAdd x.trigHeld 1, heldCount := satAdd x.heldCount 1, flags := x.flags.raise 1 }
      else match r.bank with
        | some b => fireEffective seqr b t f s
        | none => s

/-- MARK (07 R142): with RECORD set it emits a record, and has no other effect. -/
def execMark (seqr : Fin 16) (s : State) : Host.Outcome State Fault Refusal :=
  .next <|
    if !runs s seqr 8 then s
    else
      let r := s.seqr seqr
      let w := instrNow s seqr
      let held := (vget s.geyser.stats seqr).heldCount.toNat
      let s := s.modSeq seqr fun r => { r.fall with mark := some r.tt }
      match bit 4 w, r.bank with
      | true, some b => triggerRecord seqr b 1 { r.tt with late := r.late } 0 none 0 held 0 s
      | _, _ => s

/-! The verify unit. -/

/-- The deadline t_{e+2} of a FIRE (08 R155). -/
def provDeadline (s : State) (e : Event) : Nat := boundaryTime s ((eventEpoch s e).getD 0 + 2)

/-- The result of a spectrum of the verify view of a FIRE, by its restart and start index, as recorded by the deadline: none
while it is not (08 R154, R155). -/
def verResult (s : State) (q : Fin 16) (p : ProvFire) (at_ : Nat × Nat) : Option (Option Bool) :=
  let g := (planIn s p.bank).seqOf q.val
  let v := g.verifyCond / 4
  ((s.seqr q).history.find? fun x =>
    x.gen = at_.1 && x.start = at_.2 && decide (x.time ≤ provDeadline s p.event.event) && (x.bank = p.bank ||
      ((planIn s x.bank).seqOf q.val = g && (planIn s x.bank).view v = (planIn s p.bank).view v))).map (·.result)

/-- The covering set of a FIRE: the restart of a zoom source, and the start indices (08 R155). -/
def coveringSet (s : State) (q : Fin 16) (p : ProvFire) : List (Nat × Nat) :=
  let v := (planIn s p.bank).view (((planIn s p.bank).seqOf q.val).verifyCond / 4)
  let h := max v.hop 1
  match placeOnSource s v.source p.event.event with
  | none => []
  | some (gen, x) =>
    (((List.range (min (v.n / h) (x / h) + 1)).map fun i => (x / h - i) * h).filter fun a => decide (x < a + v.n)).map
      fun a => (gen, a)

/-- What the recorded spectra decide of a FIRE: confirm, retract, or nothing yet (08 R155). -/
def verDecision (s : State) (q : Fin 16) (p : ProvFire) : Option Bool :=
  let rs := (coveringSet s q p).map (verResult s q p)
  if rs.any (· = some (some true)) then some true
  else if !rs.isEmpty && rs.all (· = some (some false)) then some false
  else none

/-- The first undecided FIRE leaves the verify unit; the next one's record may be issued (08 R156, R158). -/
def nextProv (q : Fin 16) (s : State) : State :=
  let s := s.modSeq q fun r => { r with prov := r.prov.drop 1 }
  match (s.seqr q).prov with
  | p :: _ =>
    if p.issued then s
    else issueProv q p (s.modSeq q fun r => { r with prov := { p with issued := true, notices := [] } :: r.prov.drop 1 })
  | [] => s

/-- CONFIRM of a FIRE (08 R157, R159). -/
def confirmFire (q : Fin 16) (p : ProvFire) (s : State) : State :=
  let t := p.event
  let seq := p.seq.toNat
  let s := triggerRecord q p.bank 3 t seq (sentOn s p.spec) 0 p.held.toNat p.captured s
  let s := (capsWhere s (provisionalOf false q.val (nodeId s) q.val seq)).foldl confirmCap s
  let s := if p.spec.heEn then pulseOpt (some p.spec.he) s else s
  let s := sendFire p.spec (fireMsg s .confirm q t seq p.spec.channel 0) s
  nextProv q (condEvent (321 + q.val) t.event.time t.event.anchor s)

/-- RETRACT of a FIRE with its reason (08 R157, R159, R162). -/
def retractFire (q : Fin 16) (p : ProvFire) (reason : Nat) (s : State) : State :=
  let t := p.event
  let seq := p.seq.toNat
  let s := triggerRecord q p.bank 4 t seq (sentOn s p.spec) reason p.held.toNat p.captured s
  let s := (capsWhere s (provisionalOf false q.val (nodeId s) q.val seq)).foldl retractCap s
  nextProv q (sendFire p.spec (fireMsg s .retract q t seq p.spec.channel reason) s)

/-- VERIFY_CONFIRM (08 R155): the earliest undecided FIRE. -/
def execVerifyConfirm (seqr : Fin 16) (s : State) : Host.Outcome State Fault Refusal :=
  .next <|
    match (s.seqr seqr).prov with
    | p :: _ => if dclk s && verDecision s seqr p = some true then confirmFire seqr p s else s
    | [] => s

/-- VERIFY_RETRACT (08 R155). -/
def execVerifyRetract (seqr : Fin 16) (s : State) : Host.Outcome State Fault Refusal :=
  .next <|
    match (s.seqr seqr).prov with
    | p :: _ => if dclk s && verDecision s seqr p = some false then retractFire seqr p 1 s else s
    | [] => s

/-- VERIFY_TIMEOUT (08 R155). -/
def execVerifyTimeout (seqr : Fin 16) (s : State) : Host.Outcome State Fault Refusal :=
  .next <|
    match (s.seqr seqr).prov with
    | p :: _ =>
      if dclk s && decide (provDeadline s p.event.event ≤ now s) && (verDecision s seqr p).isNone then
        retractFire seqr p 2 s
      else s
    | [] => s

/-! Commands. -/

/-- What GEYSER_STOP and GEYSER_START check first (07 R151): a bank is ACTIVE, and the active plan holds the sequencer. -/
def seqChecked (c : Cmd) (s : State) (body : Fin 16 → State × Verdict) : State × Verdict :=
  if (activeBank s).isNone then (s, refuse .notReady 0)
  else match (unit 16 (c.u 0 1)).filter fun q => ((planNow s).seqOf q.val).present with
    | none => (s, bad 0)
    | some q => body q

/-- GEYSER_STOP (07 R151): RUN then reads STOPPED, since HALTED names the instruction STOP (R152, log entry 33: DEDUCED). -/
def execGeyserStop (s : State) : Host.Outcome State Fault Refusal :=
  .next <| serve (fixedSpec 0x0601 (some 5) [whole 1])
    (fun c s => seqChecked c s fun q =>
      if (s.seqr q).running then (s.modSeq q fun r => { r with run := .stopped }, ok []) else (s, ok [])) s

/-- GEYSER_START (07 R151). -/
def execGeyserStart (s : State) : Host.Outcome State Fault Refusal :=
  .next <| serve (fixedSpec 0x0602 (some 5) [whole 1])
    (fun c s => seqChecked c s fun q =>
      if (s.seqr q).running then (s, refuse .refusedState 0)
      else match bankNow s with
        | some b => (startProgram q b 0 [] (now s + 1) s, ok [])
        | none => (s, refuse .notReady 0)) s

/-- GEYSER_TRIGGER (07 R136, R151). -/
def execGeyserTrigger (s : State) : Host.Outcome State Fault Refusal :=
  .next <| serve (fixedSpec 0x0603 (some 5) [whole 1])
    (fun c s =>
      if (activeBank s).isNone then (s, refuse .notReady 0)
      else if 15 < c.u 0 1 then (s, bad 0)
      else (condEvent (305 + c.u 0 1) c.recorded none s, ok (timeBytes c.recorded))) s

/-- RUN of GEYSER_STATUS (07 R152). -/
def SeqRun.code : SeqRun → Nat
  | .stopped => 0
  | .waiting => 1
  | .executing => 2
  | .halted => 3

/-- An entry of GEYSER_STATUS (07 R152). -/
def seqEntry (s : State) (n : Nat) : List Byte :=
  match unit 16 n with
  | none => padTo 32 []
  | some q =>
    let r := s.seqr q
    let x := vget s.geyser.stats q
    word (r.run.code + r.state.toNat * 2 ^ 2 + r.pc.toNat * 2 ^ 7 + atBit 15 (r.lastTaken.any (armedAt r.arms)) +
      atBit 16 (r.lastTaken.any (insideHoldoff s q)) + atBit 17 (progOf s q).forerunner + atBit 18 r.mark.isSome) ++
    word x.flags.now.toNat ++ toLe 8 x.fires.toNat ++ word x.trigHeld.toNat ++ word x.lateEvents.toNat ++
    word (x.notArmed.toNat + x.queuePeak.toNat * 2 ^ 16) ++ word (x.flags.occWord 0 4)

/-- Clears the flags that a mask names, and the counters of a sequencer (07 R152). -/
def seqClear (n mask : Nat) (s : State) : State :=
  match unit 16 n with
  | some q => s.modStat q fun x =>
    { x with flags := x.flags.statusClear mask, trigHeld := 0, lateEvents := 0, notArmed := 0, queuePeak := 0 }
  | none => s

/-- GEYSER_STATUS (07 R152). -/
def execGeyserStatus (s : State) : Host.Outcome State Fault Refusal :=
  .next <| serve (statusSpec 0x0604 5) (statusBody 16 32 (fun _ => []) seqEntry seqClear) s

end Sys2Proof.Machine
end

