-- ==== Sys2Proof/Machine/Basin.lean ====
section
/-! DEFINITION. The Basin writer, captures as the writer and the host see them, envelopes, ring recovery, and the status of
a stream (09 R163 to R178, R183 to R185). -/

namespace Sys2Proof.Machine

/-! The writer. -/

/-- The rings of a stream, oldest first. -/
def ringsOldest (s : State) (i : Fin 16) : List RingRt := (ringsOf s i).reverse

/-- One ring of a stream changes. -/
def modRing (i : Fin 16) (r : RingRt) (f : RingRt → RingRt) (s : State) : State :=
  modRings i (fun q => if q.isRing r then f q else q) s

/-- The stream no longer runs, so its last tiles and intervals take in no more samples. -/
def StreamRt.ended (t : StreamRt) : Bool := !t.map.run

/-- The first grid tile of `n` samples, from `g` on, that holds a delivered sample (09 R168, R170). -/
def firstTile (segs : List Seg) (n g : Nat) : Option Nat :=
  (segs.filter fun x => !x.data.isEmpty && decide (g * n < x.start + x.data.length)).foldl
    (fun m x =>
      let t := max g (x.start / n)
      some (match m with | some y => min y t | none => t)) none

/-- The next tile of a ring that holds a delivered sample. -/
def nextTile (t : StreamRt) (r : RingRt) : Option Nat :=
  (firstTile t.segs r.samples r.nextGrid).filter fun g => r.endGrid.all fun e => decide (g < e)

/-- Every sample of a grid tile has been delivered or passed. -/
def tileFull (t : StreamRt) (r : RingRt) (g : Nat) : Bool := decide ((g + 1) * r.samples ≤ t.avail) || t.ended

/-- The tiles in the write queue of a stream: those of its ring, and of retired ones that a flip has left (09 R170). -/
def queuedTiles (s : State) (i : Fin 16) : Nat := ((ringsOf s i).map (·.queue.length)).sum

/-- The first tile in a stream's write queue, with its ring: those of a retired ring go first. -/
def queueHead (s : State) (i : Fin 16) : Option (RingRt × QTile) :=
  (ringsOldest s i).findSome? fun r => r.queue.head?.map fun q => (r, q)

/-- The writer stops (09 R176): reason 1 BACKPRESSURE, 2 HELD, and the first index not written. The stream's whole queue is
discarded, and the last tile issued receives OVERFLOW. -/
def stopWriter (i : Fin 16) (reason first : Nat) (s : State) : State :=
  let n := queuedTiles s i
  let s := modRings i (fun q => { q with queue := [], unwritten := q.queue.map (·.grid) ++ q.unwritten }) s
  let last := (ringsOf s i).find? fun q => !q.tiles.isEmpty
  let s := match last with
    | some r => modRing i r (fun q =>
        { q with tiles := match q.tiles with | t :: rest => { t with overflow := true } :: rest | [] => [] }) s
    | none => s
  let s := s.modBasin i fun x =>
    { x with state := if reason = 1 then .stoppedOverflow else .stoppedHeld
             stop := some { reason := reason, first := first, discarded := n }
             flags := x.flags.raise (if reason = 1 then 0 else 1), gapTiles := satAdd x.gapTiles n }
  let s := match (ringsOf s i).find? fun q => !q.tiles.isEmpty with
    | some q => (match q.tiles with | t :: _ => rewriteTile q t s | [] => s)
    | none => s
  postEvent 0x8004 0 6 (i.val + reason * 2 ^ 8) first 0 s

/-- A tile of the grid as its samples came (09 R163, R170). -/
def cutTile (t : StreamRt) (r : RingRt) (g : Nat) : QTile :=
  let xs := (List.range r.samples).map fun n => sampleAt t.segs (g * r.samples + n)
  { grid := g, payload := tilePayload r.packed xs, delivered := (xs.filter (·.isSome)).length }

/-- The tile is not written, since the writer stands. -/
def leaveTile (i : Fin 16) (r : RingRt) (g : Nat) (s : State) : State :=
  (modRing i r (fun q => { q with unwritten := g :: q.unwritten }) s).modBasin i fun x =>
    { x with gapTiles := satAdd x.gapTiles 1 }

/-- A completed tile enters the queue, or the writer stops (09 R170, R176). -/
def completeTile (i : Fin 16) (r : RingRt) (g : Nat) (s : State) : State :=
  let t := s.stream i
  let s := modRing i r (fun q => { q with nextGrid := g + 1 }) s
  if (s.basinOf i).stop.isSome || decide (g < r.skipTo) then leaveTile i r g s
  else if 64 ≤ queuedTiles s i then
    leaveTile i r g (stopWriter i 1 (((queueHead s i).map fun x => x.2.grid * x.1.samples).getD (g * r.samples)) s)
  else modRing i r (fun q => { q with queue := q.queue ++ [cutTile t r g] }) s

/-- TILE_COMPLETE (09 R168, R170). -/
def execTileComplete (stream : Fin 16) (s : State) : Host.Outcome State Fault Refusal :=
  .next <|
    let t := s.stream stream
    if !dclk s then s
    else match (ringsOldest s stream).findSome? fun r =>
        ((nextTile t r).filter fun g => r.cfg.present && tileFull t r g).map fun g => (r, g) with
      | some (r, g) => completeTile stream r g s
      | none => s

/-- The flags of a tile that its header gives when it is issued (09 R165). -/
def tileFlags (s : State) (i : Fin 16) (r : RingRt) (q : QTile) (prov : Bool) : Nat :=
  let t := s.stream i
  let n := r.samples
  let m := marksOver t.marks (q.grid * n) ((q.grid + 1) * n - 1)
  let k := epochOfIndex s i (q.grid * n)
  atBit 1 m.1 + atBit 2 prov + atBit 3 (invalidClock s (epochNum k)) + atBit 4 (orphanAt s (now s)) +
    atBit 6 m.2.1 + atBit 7 m.2.2 + atBit 8 (decide (q.delivered < n)) + atBit 9 r.gapBefore +
    atBit 10 ((k.bind (epochRec s i)).any (·.extrapolated))

/-- The tile at the head of a queue as it goes to the port (09 R163). -/
def sealQueued (s : State) (i : Fin 16) (r : RingRt) (q : QTile) (prov : Bool) : List Byte :=
  let x := q.grid * r.samples
  sealTile (tileHeader 1 i.val r.packed (nodeId s) (r.nextSeq % 2 ^ 48) (tileFlags s i r q prov) x (instantOf s i x)
    (epochNum (epochOfIndex s i x)) q.delivered 0) q.payload

/-- The tile at the head of a queue is issued with the next TILE_SEQ (09 R169, R170). -/
def issueTile (i : Fin 16) (r : RingRt) (q : QTile) (s : State) : State :=
  let info : TileInfo := { seq := r.nextSeq, grid := q.grid, overflow := false, recovered := false, failed := false }
  let old := r
  let r := { r with
    queue := r.queue.drop 1, nextSeq := r.nextSeq + 1
    tiles := info :: r.tiles.filter fun t => decide (r.nextSeq < t.seq + r.cfg.ringTiles) }
  let bs := sealQueued s i old q (r.tileProv info)
  let s := modRing i old (fun _ => { r with gapBefore := false }) s
  let s := s.modBasin i fun x => { x with tilesWritten := x.tilesWritten + 1 }
  cxlIssue (cxlPort r.cfg.port)
    { user := .writer i, write := true, addr := old.tileAddr old.nextSeq, len := 4096, data := bs
      held := creditNeed old.cfg.credits 4096, issued := now s } s

/-- The port takes a tile of the writer now: its window is there, and the credits of the ring that its requests hold are free
(12 R238, R240). -/
def portTakes (s : State) (i : Fin 16) (r : RingRt) : Bool :=
  let p := cxlPort r.cfg.port
  windowHolds s p (r.tileAddr r.nextSeq) 4096 &&
    decide (creditsOf (writerReqs s p i) + creditNeed r.cfg.credits 4096 ≤ r.cfg.credits)

/-- TILE_WRITE (09 R170, R176): after the hold of R70. -/
def execTileWrite (stream : Fin 16) (s : State) : Host.Outcome State Fault Refusal :=
  .next <|
    let t := s.stream stream
    match queueHead s stream with
    | none => s
    | some (r, q) =>
      if !dclk s || decide (t.checkedTo < min ((q.grid + 1) * r.samples) t.avail) then s
      else if r.positionHeld r.nextSeq then stopWriter stream 2 (q.grid * r.samples) s
      else if portTakes s stream r then issueTile stream r q s
      else s

/-- HEADER_REWRITE (09 R172): the tile of this TILE_SEQ. -/
def execHeaderRewrite (stream : Fin 16) (seq : Nat) (s : State) : Host.Outcome State Fault Refusal :=
  .next <|
    if !dclk s then s
    else (ringsOf s stream).foldl (fun s r =>
      match r.tiles.find? (·.seq = seq) with
      | some t => rewriteTile r t s
      | none => s) s

/-- The overflow record of a resumption (11 R220). -/
def overflowRecord (i : Fin 16) (k : Nat) (x : StopInfo) (resumed : Nat) (s : State) : State :=
  emit (mkRecord s 6 0 (some i) none k (boundaryTime s k) 0
    (toLe 8 x.first ++ toLe 8 resumed ++ toLe 8 (resumed - x.first) ++ toLe 4 x.discarded ++ toLe 4 x.reason)) s

/-- BASIN_WRITER_RESUME (09 R176): at the running epoch's boundary. -/
def execBasinWriterResume (stream : Fin 16) (s : State) : Host.Outcome State Fault Refusal :=
  .next <|
    let b := s.basinOf stream
    let r := b.ring
    match b.stop, s.plans.epoch.bind fun k => (boundaryIndex s stream k).map fun x => (k, x) with
    | some x, some (k, bk) =>
      let g := ceilDiv bk r.samples
      if !dclk s || g < r.nextGrid || r.positionHeld r.nextSeq then s
      else
        let s := modRing stream r (fun q => { q with skipTo := g, gapBefore := true }) s
        let s := s.modBasin stream fun b => { b with state := .writing, stop := none }
        overflowRecord stream k x (g * r.samples) s
    | _, _ => s

/-! Captures. -/

/-- The grid tile before which the writer of a capture's ring has to be done: one past the range's last, or that from which a
flip has taken the stream away. -/
def closeLimit (r : RingRt) (c : Capture) : Nat :=
  match r.endGrid with
  | some e => min (c.gridHi r.samples + 1) e
  | none => c.gridHi r.samples + 1

/-- The writer has written or discarded the last grid tile of a capture (09 R173). -/
def capPassed (s : State) (i : Fin 16) (r : RingRt) (c : Capture) : Bool :=
  let t := s.stream i
  let g := closeLimit r c
  (r.queue.all fun q => decide (g ≤ q.grid)) && ((nextTile t r).all fun x => decide (g ≤ x)) &&
    (decide (g ≤ r.nextGrid ∨ g * r.samples ≤ t.avail) || t.ended)

/-- An OPEN capture becomes CLOSED (09 R173); tiles of its range that a retired ring no longer takes count as lost. -/
def closeCap (i : Fin 16) (r : RingRt) (c : Capture) (s : State) : State :=
  let lost := c.gridHi r.samples + 1 - max (closeLimit r c) (c.gridLo r.samples)
  let s := modCap i c.id (fun c => { c with state := .closed, lost := c.lost + lost }) s
  let s := announceCap i c.id 1 (captureDone i c.id s)
  if c.provisional then offerCap i c.id id s else closeOrdinary (fun _ => true) i c.id s

/-- CAPTURE_CLOSE (09 R173): of the ring that the slot's OPEN capture belongs to. -/
def execCaptureClose (stream : Fin 16) (slot : Fin 64) (s : State) : Host.Outcome State Fault Refusal :=
  .next <|
    match (ringsOldest s stream).findSome? fun r =>
        ((vget r.slots slot).filter fun c => c.state = .opened && capPassed s stream r c).map fun c => (r, c) with
    | some (r, c) => if dclk s then closeCap stream r c s else s
    | none => s

/-- A pulse on a ring's RELEASE_HE (09 R175). -/
def releasePulse (i : Fin 16) (s : State) : State :=
  match (s.basinOf i).ring.order with
  | id :: _ => releaseCap i id s
  | [] => s.modBasin i fun x => { x with flags := x.flags.raise 5 }

/-- A pulse leaves the crossing to a consumer (13 R272), if one is there. -/
def takeCrossing (line : Nat) (c : Consumer) (s : State) : Option State :=
  let key := (line, c)
  match s.down.crossings.find? fun e => e.1 = key && decide (0 < e.2) with
  | some (_, n + 1) =>
    let rest := s.down.crossings.filter fun e => e.1 ≠ key
    some { s with down := { s.down with crossings := if n = 0 then rest else (key, n) :: rest } }
  | _ => none

/-- RELEASE_HE_PULSE (09 R175): a pulse reaches the ring. -/
def execReleaseHePulse (stream : Fin 16) (s : State) : Host.Outcome State Fault Refusal :=
  .next <|
    match (s.basinOf stream).ring.cfg.releaseHe.bind fun l => takeCrossing l (.ring stream) s with
    | some s => releasePulse stream s
    | none => s

/-! Envelopes. -/

/-- The delivered samples with indices from `lo` to below `hi`. -/
def samplesIn (segs : List Seg) (lo hi : Nat) : List IQ :=
  segs.flatMap fun g => ((g.data.drop (lo - g.start)).take (hi - max lo g.start))

/-- An interval of an envelope (09 R177, 11 R221). -/
def interval (segs : List Seg) (k m : Nat) : List Byte :=
  let xs := samplesIn segs (m * 2 ^ k) ((m + 1) * 2 ^ k)
  let low := fun f : IQ → Int => xs.foldl (fun a z => min a (f z)) 0x7FFF
  let high := fun f : IQ → Int => xs.foldl (fun a z => max a (f z)) (-0x8000)
  toLeInt 2 (low (·.i)) ++ toLeInt 2 (high (·.i)) ++ toLeInt 2 (low (·.q)) ++ toLeInt 2 (high (·.q))

/-- The next record of an envelope: its first interval and count, where it is complete and checked (09 R177); a count of 0
says that nothing more will come. -/
def envNext (t : StreamRt) (e : Envelope) : Option (Nat × Nat) :=
  let n := 2 ^ e.k
  let first := if e.begun then some e.next else (firstTile t.segs n e.next).map (max e.next)
  let done := if t.ended then ceilDiv t.avail n else t.avail / n
  let stop := e.endAt.map fun b => ceilDiv b n
  match first with
  | none => if stop.any fun l => decide (l ≤ done) then some (e.next, 0) else none
  | some f =>
    let full := min done (stop.getD done)
    let count := if f + 64 ≤ full then some 64 else if stop.any fun l => decide (l ≤ done) then some (full - f) else none
    (count.filter fun c => decide (min ((f + c) * n) t.avail ≤ t.checkedTo)).map fun c => (f, c)

/-- The first envelope that has a record to issue, with those that are done before it gone. -/
def envPick (t : StreamRt) : List Envelope → List Envelope × Option (Nat × Nat × Nat)
  | [] => ([], none)
  | e :: rest =>
    match envNext t e with
    | some (f, c) =>
      if c = 0 then envPick t rest
      else if c < 64 then (rest, some (e.k, f, c))
      else ({ e with next := f + c, begun := true } :: rest, some (e.k, f, c))
    | none => (e :: rest, none)

/-- ENVELOPE_RECORD (09 R177, 11 R221). -/
def execEnvelopeRecord (stream : Fin 16) (s : State) : Host.Outcome State Fault Refusal :=
  .next <|
    if !engines s then s
    else
      let t := s.stream stream
      let (env, rec_) := envPick t (s.basinOf stream).env
      let s := s.modBasin stream fun x => { x with env := env }
      match rec_ with
      | none => s
      | some (k, f, c) =>
        let x := f * 2 ^ k
        let body := toLe 8 x ++ toLe 4 (k + c * 2 ^ 8) ++ toLe 4 0 ++
          (List.range c).flatMap fun m => interval t.segs k (f + m)
        emit (mkRecord s 7 0 (some stream) none (epochNum (epochOfIndex s stream x)) (instantOf s stream x)
          (markFlags (marksOver t.marks x ((f + c) * 2 ^ k - 1))) body) s

/-! Captures and the host. -/

/-- The write of a ring's tile has failed (12 R239). -/
def writeFailed (s : State) (i : Fin 16) (seq : Nat) : Bool :=
  (ringsOf s i).any fun r => r.tiles.any fun t => t.seq = seq && t.failed

/-- The use of a ring tile (09 R167): a CRC that does not match is counted and reported. `bad` says that the read was
poisoned or timed out (12 R239). -/
def useTile (i : Fin 16) (id : Option U32) (seq : Nat) (tile : List Byte) (bad : Bool) (s : State) : Bool × State :=
  if !bad && tileGood tile && !writeFailed s i seq then (false, s)
  else
    let s := s.modBasin i fun x => { x with flags := x.flags.raise 2, badCrc := satAdd x.badCrc 1 }
    let s := match id with
      | some id => modCap i id (fun c => { c with badCrc := c.badCrc + 1 }) s
      | none => s
    (true, postEvent 0x8005 0 6 i.val seq ((id.map (·.toNat)).getD 0) s)

/-! Tile reads of CAPTURE_READ and of ring recovery: each is a transfer of the port's reader pool (12 R238). -/

def jobOf (s : State) (n : Nat) : Option TileJob := s.basin.jobs.find? (·.serial = n)

def modJob (n : Nat) (f : TileJob → TileJob) (s : State) : State :=
  { s with basin := { s.basin with jobs := s.basin.jobs.map fun j => if j.serial = n then f j else j } }

/-- Every tile of a job has been answered; a job that is gone has none. -/
def jobDone (s : State) (n : Nat) : Bool := (jobOf s n).all fun j => j.left.isEmpty && j.waiting = 0

/-- A read without a response: it counts as timed out (12 R239, R240). -/
def countTimeout (p : Fin 4) (requests : Nat) (s : State) : State :=
  s.modDown p fun d => { d with errors := satAdd d.errors requests, flags := d.flags.raise 4 }

/-- The next tile of a job is requested; while the window cannot be used it is answered as timed out (12 R240). -/
def askTile (j : TileJob) (key a : Nat) (s : State) : State :=
  if windowHolds s j.port a 4096 then
    cxlIssue j.port
      { user := .reader j.serial key, write := false, addr := a, len := 4096, data := [], held := creditNeed j.pool 4096
        issued := now s }
      (modJob j.serial (fun j => { j with left := j.left.drop 1, waiting := j.waiting + 1 }) s)
  else
    modJob j.serial (fun j => { j with left := j.left.drop 1, got := j.got ++ [(key, List.replicate 4096 0, true)] })
      (countTimeout j.port 64 s)

/-- A job requests its tiles as far as the pool's credits go; `n` bounds their number. -/
def pumpJob (serial : Nat) : Nat → State → State
  | 0, s => s
  | n + 1, s =>
    match jobOf s serial with
    | none => s
    | some j =>
      match j.left with
      | [] => s
      | (key, a) :: _ =>
        if !windowHolds s j.port a 4096 ||
            decide (creditsOf (readReqs s j.port) + creditNeed j.pool 4096 ≤ j.pool) then
          pumpJob serial n (askTile j key a s)
        else s

/-- Every job of a port requests what it can. -/
def pumpPort (p : Fin 4) (s : State) : State :=
  (s.basin.jobs.filter fun j => j.port = p).foldl (fun s j => pumpJob j.serial j.left.length s) s

/-- A job begins: its number, and the state with what it requests at once. -/
def startJob (p : Fin 4) (pool : Nat) (tiles : List (Nat × Nat)) (s : State) : Nat × State :=
  let n := s.basin.jobSerial
  let j : TileJob := { serial := n, port := p, pool := pool, left := tiles, waiting := 0, got := [] }
  (n, pumpJob n tiles.length { s with basin := { s.basin with jobs := s.basin.jobs ++ [j], jobSerial := n + 1 } })

def dropJob (n : Nat) (s : State) : State :=
  { s with basin := { s.basin with jobs := s.basin.jobs.filter fun j => j.serial ≠ n } }

/-- The answers of a job in the order of their keys. -/
def insertGot (x : Nat × List Byte × Bool) : List (Nat × List Byte × Bool) → List (Nat × List Byte × Bool)
  | [] => [x]
  | y :: t => if x.1 < y.1 then x :: y :: t else y :: insertGot x t

def TileJob.answers (j : TileJob) : List (Nat × List Byte × Bool) := j.got.foldl (fun l x => insertGot x l) []

/-- The answer of a job to a key, if it was read without poison or time-out. -/
def jobTile (s : State) (n key : Nat) : Option (List Byte) :=
  ((jobOf s n).bind fun j => j.got.find? fun x => x.1 = key && !x.2.2).map (·.2.1)

/-- A capture that a command names: its ring and entry, also of a slot that has become FREE since (09 R184). -/
def namedCap (s : State) (stream id : Nat) : Option (Fin 16 × RingRt × Capture) :=
  (unit 16 stream).bind fun i => (findCap s i (BitVec.ofNat 32 id)).map fun x => (i, x.1, x.2.2)

/-- The tiles by which a range of CAPTURE_READ is bounded: those of the grid while the capture is OPEN, else those that it
holds, or held when it was released or retracted. -/
def tileBound (r : RingRt) (c : Capture) : Nat :=
  if c.state = .opened then c.gridHi r.samples + 1 - c.gridLo r.samples
  else c.heldAtEnd.getD (r.heldTiles c).length

/-- CAPTURE_READ (09 R178, R184). -/
def execCaptureRead (s : State) : Host.Outcome State Fault Refusal :=
  .next <| serve (fixedSpec 0x0701 none [whole 1, whole 1, whole 4, whole 4, whole 4, whole 8])
    (fun c s =>
      let first := c.u 8 4
      let n := c.u 12 4
      if ([0, 1].all fun b => !decide ((s.bank b).state = .active ∨ (s.bank b).state = .draining)) then (s, refuse .notReady 0)
      else match unit 2 (c.u 1 1), namedCap s (c.u 0 1) (c.u 4 4) with
        | none, _ => (s, bad 1)
        | some _, none => (s, bad (if 15 < c.u 0 1 then 0 else 4))
        | some p, some (i, r, x) =>
          if tileBound r x < first + n then (s, bad 12)
          else if c.u 16 8 % 64 ≠ 0 then (s, refuse .badAlign 16)
          else if x.state ≠ .opened ∧ x.state ≠ .closed then (s, refuse .refusedState 0)
          else if (r.heldTiles x).length < first + n then (s, refuse .busyRunning 0)
          else
            let due := now s + n * 4096 * Config.secUnits / max r.cfg.readRate 1
            let tiles := (((r.heldTiles x).drop first).take n).map fun t => (t.seq, r.tileAddr t.seq)
            let q := cxlPort r.cfg.port
            let (job, s) := startJob q ((planNow s).device.readCredits.getD q.val 0) tiles s
            (s, .wait (.captureRead i (c.u 4 4) p (c.u 16 8) job due))) s

/-- The response of a CAPTURE_READ: its tiles are checked, and go unchanged to the host, or up the tunnel (09 R178, 16
R333). -/
def captureReply (i : Fin 16) (id : U32) (p : PortId) (addr job : Nat) (d : Deferred) (s : State) : State × Reply :=
  let got := ((jobOf s job).map (·.answers)).getD []
  let (s, bads) := got.foldl (fun (a : State × List Nat) t =>
    let u := useTile i (some id) t.1 t.2.1 t.2.2 a.1
    (u.2, if u.1 then a.2 ++ [t.1] else a.2)) (dropJob job s, [])
  let data := got.flatMap fun t => t.2.1
  let s := match d.cmd.source with
    | .slot .. => if (s.port p).linkUp then s.modHostMem p fun m => memWrite m addr data else s
    | .tunnel o tag =>
      if data.isEmpty then s else sendFragments (activeUplink s) 0 (.tunnelData o.tunnelIndex.val tag) data s
  (s, { status := if bads.isEmpty then .ok else .crcFail, detail := 0
        payload := toLe 4 got.length ++ toLe 4 bads.length ++ toLe 8 (bads.head?.getD 0) })

/-- CAPTURE_READ_DONE (09 R178): every tile has been answered, and its time at HOST_READ_RATE has passed. A read that waits
for credits asks for them again. -/
def execCaptureReadDone (stream : Fin 16) (s : State) : Host.Outcome State Fault Refusal :=
  .next <|
    if !firmware s then s
    else
      let s := (List.finRange 4).foldl (fun s p => pumpPort p s) s
      let mine := fun w : Wait => match w with
        | .captureRead i _ _ _ job due => i = stream && decide (due ≤ now s) && jobDone s job
        | _ => false
      match s.host.deferred.find? fun d => mine d.wait with
      | some d =>
        (match d.wait with
         | .captureRead i id p addr job _ => finish mine (captureReply i (BitVec.ofNat 32 id) p addr job) s
         | _ => s)
      | none => s

/-- CAPTURE_RELEASE (09 R184). -/
def execCaptureRelease (s : State) : Host.Outcome State Fault Refusal :=
  .next <| serve (fixedSpec 0x0702 (some 6) [whole 1, whole 4])
    (fun c s =>
      match namedCap s (c.u 0 1) (c.u 4 4) with
      | none => (s, bad (if 15 < c.u 0 1 then 0 else 4))
      | some (i, _, x) =>
        if x.state ≠ .closed ∨ x.provisional then (s, refuse .refusedState 0)
        else (releaseCap i x.id s, ok [])) s

/-! Ring recovery. -/

/-- Recovery reads the 64 descriptor tiles of a ring of a bank (09 R183 step 1). -/
def readDescs (b : Fin 2) (i : Fin 16) (s : State) : State :=
  let e := (planIn s b).ringOf i.val
  let p := cxlPort e.port
  let r : RingRt := { RingRt.reset with cfg := e }
  let (job, s) := startJob p ((planIn s b).device.readCredits.getD p.val 0)
    ((List.range 64).map fun n => (n, r.slotAddr n)) (s.modBasin i fun x => { x with state := .recovering })
  let x : RecRing := { stream := i, cfg := e, packed := ((planIn s b).stream i.val).packed, descs := job, tiles := none }
  { s with basin := { s.basin with recovery := s.basin.recovery ++ [x] } }

/-- BASIN_RECOVER (09 R183, R184). -/
def execBasinRecover (s : State) : Host.Outcome State Fault Refusal :=
  .next <| serve (fixedSpec 0x0703 (some 6) [whole 1])
    (fun c s =>
      match unit 2 (c.u 0 1) with
      | none => (s, bad 0)
      | some b =>
        if anyBankBusy s || (s.bank b).state ≠ .verified then (s, refuse .refusedState 0)
        else
          let s := { s with plans := { s.plans with recovering := true }, basin := { s.basin with recover := some b } }
          ((List.finRange 16).foldl (fun s i =>
            if ((planIn s b).ringOf i.val).present then readDescs b i s else s) s, ok [])) s

/-- A descriptor tile that recovery accepts: intact, of kind 2 and of the stream (09 R164, R183). -/
def descOk (i : Fin 16) (t : List Byte) : Bool :=
  let f := fun a n => ofLe ((t.drop a).take n)
  tileGood t && decide (f 0 4 = 0xB5A10640) && decide (bits 3 0 (f 4 4) = 2 ∧ bits 7 4 (f 4 4) = i.val)

/-- The capture that a descriptor tile's entry spells (09 R182), with TILE_COUNT: its tiles are those from FIRST_SEQ on, and
its range is that of the ring's settings, or further back where PRE_HELD says so. -/
def entryCap (e : BasinE) (t : List Byte) : Capture × Nat :=
  let f := fun a n => ofLe ((t.drop (64 + a)).take n)
  let w := f 4 4
  let x := f 0x10 8
  ({ id := BitVec.ofNat 32 (f 0 4)
     state := match bits 2 0 w with | 1 => .opened | 2 => .closed | 3 => .released | 4 => .retracted | _ => .free
     provisional := bit 3 w, truncated := bit 4 w, gap := bit 5 w, orphan := bit 6 w, recovered := true
     fabric := bit 8 w, source := bits 12 9 w, origin := bits 18 13 w, sequencer := bits 12 9 w, fireSeq := f 8 4
     badCrc := f 12 2, trigIndex := x, trigTime := ofTime96 (f 0x18 12), epoch := f 0x24 8, firstSeq := f 0x2C 6
     stopSeq := some (f 0x2C 6 + f 0x34 4), heldAtEnd := none, lost := f 0x38 4
     lo := x - max e.pre (f 0x3C 4), hi := x + e.post, readers := 0 }, f 0x34 4)

/-- A data tile of a recovered capture is intact and in its place (09 R183). -/
def recoverOk (i : Fin 16) (seq : Nat) (t : List Byte) : Bool :=
  let f := fun a n => ofLe ((t.drop a).take n)
  tileGood t && decide (f 8 6 = seq % 2 ^ 48) && decide (bits 3 0 (f 4 4) = 1 ∧ bits 7 4 (f 4 4) = i.val)

/-- The counts of a ring's recovery: captures, tiles, tiles lost. -/
structure RecCount where
  caps  : Nat
  tiles : Nat
  lost  : Nat
  deriving DecidableEq, Repr, Inhabited

/-- A provisional entry becomes RETRACTED, with a RETRACT record of reason TIMEOUT (09 R183). What set TT, and the FIREs held
before, are not in the entry: free values (log entry 1: DESIGN CHOICE). -/
def recoverRetract (i : Fin 16) (n : Fin 64) (c : Capture) (r : RingRt) (s : State) : State :=
  let (v, s) := fresh s
  let body := toLe 8 0 ++ toLe 4 c.fireSeq ++
    toLe 4 (c.source + v.toNat % 2 ^ 9 * 2 ^ 4 + 2 * 2 ^ 20) ++ toLe 4 (v.toNat / 2 ^ 9) ++ toLe 4 (2 ^ i.val)
  let s := emit (mkRecord s 4 4 none none c.epoch c.trigTime 0 body) s
  let c := { c with state := .retracted }
  let s := modRing i r (fun q => { q with slots := vset q.slots n (some c) }) s
  announceCap i c.id 3 s

/-- Tiles newest first. -/
def insertTile (t : TileInfo) : List TileInfo → List TileInfo
  | [] => [t]
  | x :: r => if x.seq < t.seq then t :: x :: r else x :: insertTile t r

/-- Captures in the order of their IDs, which is that of their freezes. -/
def insertId (i : U32) : List U32 → List U32
  | [] => [i]
  | x :: r => if i.toNat < x.toNat then i :: x :: r else x :: insertId i r

/-- A taken entry is restored: its tiles are checked and marked RECOVERED (09 R183). `tile` gives what recovery read of a
TILE_SEQ, if it could. -/
def recoverCap (i : Fin 16) (n : Fin 64) (c : Capture) (count : Nat) (r : RingRt) (tile : Nat → Option (List Byte))
    (a : RecCount × State) : RecCount × State :=
  let (cnt, s) := a
  let seqs := (List.range count).map fun k => c.firstSeq + k
  let good := seqs.filter fun q => (tile q).any (recoverOk i q)
  let known := (((ringsOf s i).find? (·.isRing r)).map (·.tiles)).getD []
  let infos := (good.filter fun q => known.all (·.seq ≠ q)).map fun q =>
    let t := (tile q).getD []
    ({ seq := q, grid := ofLe ((t.drop 16).take 8) / r.samples, overflow := bit 0 (ofLe ((t.drop 14).take 2))
       recovered := true, failed := false } : TileInfo)
  let lost := count - good.length
  let c := { c with state := .closed, gap := c.gap || c.state = .opened, lost := c.lost + lost }
  let s := modRing i r (fun q =>
    { q with
      slots := vset q.slots n (some c), tiles := infos.foldl (fun l t => insertTile t l) q.tiles, order := insertId c.id q.order
      nextSeq := max q.nextSeq (((good.getLast?).map (· + 1)).getD 0) }) s
  let s := rewriteHeld i c.id s
  let s := announceCap i c.id 6 s
  let next := c.id.toNat + 1
  let s := { s with basin := { s.basin with
    captureId := if s.basin.captureId.toNat < next then BitVec.ofNat 32 next else s.basin.captureId } }
  ({ caps := cnt.caps + 1, tiles := cnt.tiles + good.length, lost := cnt.lost + lost }, s)

/-- The descriptor tiles of a ring that recovery has read and accepts. -/
def validDescs (s : State) (x : RecRing) : List (Fin 64 × List Byte) :=
  (List.finRange 64).filterMap fun n => ((jobTile s x.descs n.val).filter (descOk x.stream)).map fun t => (n, t)

/-- The descriptors of a ring agree with the bank (09 R183). -/
def ringAgrees (s : State) (x : RecRing) : Bool :=
  let valid := validDescs s x
  !valid.isEmpty && valid.all fun d => ofLe ((d.2.drop 0x30).take 4) = x.cfg.ringTiles

/-- The tiles of the entries of a ring that recovery takes, by TILE_SEQ and window address (09 R183 step 3). -/
def takenTiles (s : State) (x : RecRing) : List (Nat × Nat) :=
  let r : RingRt := { RingRt.reset with cfg := x.cfg }
  let seqs := (validDescs s x).flatMap fun d =>
    let (c, count) := entryCap x.cfg d.2
    if (c.state = .opened ∨ c.state = .closed) ∧ c.provisional = false then (List.range count).map (c.firstSeq + ·) else []
  if ringAgrees s x then seqs.eraseDups.map fun q => (q, r.tileAddr q) else []

/-- Recovery reads the tiles of a ring's taken entries. -/
def readTaken (s : State) (x : RecRing) : State :=
  let pool := ((jobOf s x.descs).map (·.pool)).getD 0
  let (job, s) := startJob (cxlPort x.cfg.port) pool (takenTiles s x) s
  { s with basin := { s.basin with
    recovery := s.basin.recovery.map fun y => if y.stream = x.stream then { y with tiles := some job } else y } }

/-- Once every descriptor tile has been read, recovery reads the tiles of the entries it takes. -/
def recoveryStep (s : State) : State :=
  (s.basin.recovery.filter fun x => x.tiles.isNone && jobDone s x.descs).foldl readTaken s

/-- A tile of a job is answered. -/
def answerJob (n key : Nat) (data : List Byte) (bad : Bool) (s : State) : State :=
  let port := (jobOf s n).map (·.port)
  let s := recoveryStep (modJob n (fun j => { j with waiting := j.waiting - 1, got := j.got ++ [(key, data, bad)] }) s)
  match port with
  | some p => pumpPort p s
  | none => s

/-- The recovery of a ring (09 R183): nothing where its descriptors do not carry the bank's RING_TILES. -/
def recoverRing (x : RecRing) (s : State) : State :=
  let i := x.stream
  let r := { RingRt.reset with cfg := x.cfg, packed := x.packed }
  let valid := validDescs s x
  let tile := fun q => x.tiles.bind fun n => jobTile s n q
  if !ringAgrees s x then
    postEvent 0x8008 0 6 (i.val + 2 ^ 8) 0 0 (s.modBasin i fun x => { x with state := .off })
  else
    let r := { r with descs := valid.foldl (fun v d => vset v d.1 (ofLe ((d.2.drop 8).take 6))) r.descs }
    let s := s.modBasin i fun y => { y with ring := r, state := .off }
    let (cnt, s) := valid.foldl (fun (a : RecCount × State) d =>
      let (c, count) := entryCap x.cfg d.2
      if c.state ≠ .opened ∧ c.state ≠ .closed then a
      else if c.provisional then (a.1, recoverRetract i d.1 c r a.2)
      else recoverCap i d.1 c count r tile a) (default, s)
    postEvent 0x8008 0 6 i.val (cnt.caps + cnt.tiles * 2 ^ 32) cnt.lost s

/-- Everything that a recovery reads has been answered. -/
def recoveryRead (s : State) : Bool :=
  s.basin.recovery.all fun x => jobDone s x.descs && x.tiles.any (jobDone s)

/-- The recovery ends: its jobs go; where the bank has been loaded anew or emptied meanwhile, nothing is left to take up. -/
def endRecovery (s : State) : State :=
  let s := s.basin.recovery.foldl (fun s x => (x.tiles.toList ++ [x.descs]).foldl (fun s n => dropJob n s) s) s
  let s := if s.basin.recover.isSome then s
    else s.basin.recovery.foldl (fun s x => s.modBasin x.stream fun y => { y with ring := RingRt.reset }) s
  { s with plans := { s.plans with recovering := false }, basin := { s.basin with recovery := [] } }

/-- RECOVER_DONE (09 R183). -/
def execRecoverDone (s : State) : Host.Outcome State Fault Refusal :=
  .next <|
    if !s.plans.recovering || !firmware s then s
    else
      let s := recoveryStep ((List.finRange 4).foldl (fun s p => pumpPort p s) s)
      if recoveryRead s then endRecovery (s.basin.recovery.foldl (fun s x => recoverRing x s) s) else s

/-! Status. -/

/-- STATE of BASIN_STATUS (09 R185). -/
def BasinState.code : BasinState → Nat
  | .off => 0
  | .writing => 1
  | .stoppedOverflow => 2
  | .stoppedHeld => 3
  | .recovering => 4

/-- An entry of BASIN_STATUS (09 R185). -/
def basinEntry (s : State) (n : Nat) : List Byte :=
  match unit 16 n with
  | none => padTo 32 []
  | some i =>
    let x := s.basinOf i
    let on := x.state ≠ .off
    let caps := (x.ring.slots.toList.filter fun o => !slotFree o).length
    word (x.state.code + atBit 3 (on && x.ring.packed) + atBit 4 (on && x.ring.cfg.envK ≠ 0) + caps * 2 ^ 5) ++
    word x.flags.now.toNat ++ toLe 8 x.tilesWritten.toNat ++ word x.gapTiles.toNat ++
    word (x.badCrc.toNat + x.refused.toNat * 2 ^ 16) ++ toLe 8 (x.flags.occWord 0 6)

/-- Clears the flags that a mask names, and the counters of a stream (09 R185). -/
def basinClear (n mask : Nat) (s : State) : State :=
  match unit 16 n with
  | some i => s.modBasin i fun x => { x with flags := x.flags.statusClear mask, gapTiles := 0, badCrc := 0, refused := 0 }
  | none => s

/-- BASIN_STATUS (09 R185). -/
def execBasinStatus (s : State) : Host.Outcome State Fault Refusal :=
  .next <| serve (statusSpec 0x0704 6) (statusBody 16 32 (fun _ => []) basinEntry basinClear) s

end Sys2Proof.Machine
end

