-- ==== Sys2Proof/Machine/Budget.lean ====
section
/-! DEFINITION. The budget sums of a plan and their ceilings (03 R54 to R56; 02 R24; 12 R237). -/

namespace Sys2Proof.Machine

/-! Ceilings of the downstream ports. -/

/-- Tenths of GT/s of a rate code (12 R243). -/
def rateTenths (code : Nat) : Nat := [25, 50, 80, 160, 320].getD code 0

/-- A CXL mode. -/
def cxlMode (m : Nat) : Bool := m = 1 || m = 2
/-- A PCIe mode. -/
def pcieMode (m : Nat) : Bool := m = 3 || m = 4 || m = 5

/-- The sub-links of a mode (12 R233). -/
def modeSubs (m : Nat) : Nat := [0, 1, 2, 1, 2, 4].getD m 0

/-- The sub-links of a port. -/
def Port.subs (p : Port) : List (Fin 4) := (List.finRange 4).filter fun n => decide (n.val < modeSubs p.mode.val)

/-- Effective width and rate code of a port (12 R237, R243). -/
def Port.effective (p : Port) : Nat × Nat :=
  let w := fun n : Fin 4 => if vget p.linkUp n then vget p.subWidth n else 0
  let r := vget p.subRate
  if p.mode.val = 1 then (w 0, if w 0 = 0 then 0 else r 0)
  else if p.mode.val = 2 then
    let x := 2 * min (w 0) (w 1)
    (x, if x = 0 then 0 else min (r 0) (r 1))
  else
    let up := p.subs.filter (vget p.linkUp)
    ((up.map w).sum, ((up.map r).min?).getD 0)

/-- CXL bandwidth in bytes per second: 3.2 GB/s per lane at 32 GT/s (03 R54). -/
def cxlRateCeiling (width rate : Nat) : Nat := 10 ^ 7 * width * rateTenths rate

/-- The CXL bandwidth ceiling of a port as it stands; 0 in a mode that is not CXL (03 R54, 19 R381). -/
def Port.cxlCeiling (p : Port) : Nat :=
  if cxlMode p.mode.val then cxlRateCeiling p.effective.1 p.effective.2 else 0

/-! Rates. -/

/-- The declared rate of a source in samples per second, as a fraction (03 R54). -/
def fsOf (p : Plan) (src : Nat) : Nat × Nat :=
  if src < 16 then ((p.stream src).declared, 1)
  else
    let z := p.zoom (src - 16)
    ((p.stream z.source).declared, max z.d 1)

def StreamE.bps (e : StreamE) : Nat := if e.packed then 24 else 32

/-- The 200 ppm factor, 1.0002, over 10,000 (03 R54). -/
def qNum : Nat := 10002

/-- Tile bytes per second of a stream, over 8 x 4,032 (03 R54). -/
def StreamE.tileNum (e : StreamE) : Nat := e.declared * e.bps * 4096
def tileDen : Nat := 8 * 4032

/-! Terms. -/

/-- The rings of a plan with their streams. -/
def Plan.rings (p : Plan) : List (Nat × BasinE) :=
  ((List.range 16).map fun i => (i, p.ringOf i)).filter fun e => e.2.present

/-- The views of a plan. -/
def Plan.viewsOf (p : Plan) : List (Nat × ViewE) :=
  ((List.range 64).map fun i => (i, p.view i)).filter fun e => e.2.present

/-- The DMA entries of a plan. -/
def Plan.dmas (p : Plan) : List DmaE := p.dma.filter (·.present)

/-- Load and ceiling of a stream's lanes (02 R24, R25, 19 R381). -/
def lanePayload (e : StreamE) : Nat × Nat :=
  (e.declared * e.bps, 2 ^ e.log2Lanes * [30894000000, 24890000000, 15447000000, 9956000000].getD e.rate 0)

/-- The stream that the LANE_PAYLOAD entry reports, with load and ceiling (19 R381). -/
def laneWorst (p : Plan) : Nat × Nat × Nat :=
  ((List.range 16).filter fun i => (p.stream i).run).foldl (fun (b : Nat × Nat × Nat) i =>
    let x := lanePayload (p.stream i)
    if b.2.2 = 0 ∨ b.2.1 * x.2 < x.1 * b.2.2 then (i, x) else b) (0, 0, 0)

/-- TRANSFORM (03 R54). The term of a four-step view is rounded up once, after it is counted twice (log entry 57: DESIGN CHOICE). -/
def transformLoad (p : Plan) : Nat :=
  (p.viewsOf.map fun v =>
    let f := fsOf p v.2.source
    ceilDiv (qNum * f.1 * v.2.n * (if v.2.fourStep then 2 else 1)) (10000 * f.2 * max v.2.hop 1)).sum

/-- Columns that a map uses: the union of the ranges of its entries that are not skipped (10 R188). -/
def mapColumns (map : List Nat) : Nat :=
  ((map.filter fun e => !bit 31 e).foldl (fun (a : Nat × Nat) e =>
    let lo := max a.2 (bits 11 0 e)
    let hi := bits 23 12 e + 1
    (a.1 + (hi - lo), max a.2 hi)) (0, 0)).1

/-- Load of plane `c` (1 C0, 2 C1); `map` gives a view's column map. -/
def calderaLoad (p : Plan) (map : ViewE → List Nat) (c : Nat) : Nat :=
  ((p.viewsOf.filter fun v => v.2.caldera = c).map fun v =>
    let f := fsOf p v.2.source
    ceilDiv (qNum * f.1 * 2 * mapColumns (map v.2)) (10000 * f.2 * max v.2.hop 1)).sum

/-- Bytes per pixel of a frame format, over 8 (03 R55, 20 R395). -/
def pixelEighths (format : Nat) : Nat := [12, 16, 15, 20].getD format 0

/-- The plane that feeds an output under a plan (10 R187). -/
def outputPlane (p : Plan) (o : Nat) : Option Nat :=
  (List.range 2).find? fun c => (p.planeOf c).present && ((p.planeOf c).target = o + 1 || (p.planeOf c).target = 3)

/-- Scan-out of an output in a timing mode (03 R55); an output that is no plane's target reads nothing (10 R202). -/
def scanLoad (p : Plan) (o : Nat) (m : Option DispMode) : Nat :=
  match m, outputPlane p o with
  | some m, some c =>
    let total := (m.hActive + m.hFp + m.hSync + m.hBp) * (m.vActive + m.vFp + m.vSync + m.vBp)
    ceilDiv (m.hActive * m.vActive * pixelEighths (p.planeOf c).format * m.pclkKhz * 1000) (8 * max total 1)
  | _, _ => 0

/-- The NEAR_MEMORY sum (03 R55) with the timing modes of DP0 and DP1 and the epoch period in microseconds. -/
def nearLoad (p : Plan) (modes : Nat → Option DispMode) (pUs : Nat) : Nat :=
  let views := p.viewsOf
  let four := ((views.filter fun v => v.2.fourStep).map fun v =>
    let f := fsOf p v.2.source
    ceilDiv (24 * qNum * f.1 * v.2.n) (10000 * f.2 * max v.2.hop 1)).sum
  let spill := (views.map fun v =>
    let e := p.poolOf v.1
    let f := fsOf p v.2.source
    if e.present then ceilDiv (32 * qNum * f.1 * (v.2.binCount - e.frontBins)) (10000 * f.2 * max v.2.hop 1) else 0).sum
  let fetch := ceilDiv ((p.sched.map fun e => e.count * (if e.pairs then 4 else 2)).sum * 10 ^ 6) (max pUs 1)
  let frames := ((List.range 2).map fun c =>
    let e := p.planeOf c
    let bytes := e.frameW * e.frameH * pixelEighths e.format
    if !e.present || e.target = 0 then 0
    else if e.tickM ≤ 1 then ceilDiv (bytes * e.tickN * 10 ^ 6) (8 * max pUs 1)
    else ceilDiv (bytes * 10 ^ 6) (8 * e.tickM * max pUs 1)).sum
  let dma := (p.dmas.map fun d => ceilDiv (d.nearBytes * 10 ^ 6) (max pUs 1)).sum
  scanLoad p 0 (modes 0) + scanLoad p 1 (modes 1) + four + spill + fetch + frames + dma + 2000000000 + 54611200000

def nearCeiling : Nat := 273056000000

/-- The CXL_WR sum of a port. -/
def cxlWriteLoad (p : Plan) (d : Nat) : Nat :=
  ((p.rings.filter fun r => r.2.port = d && (p.stream r.1).run).map fun r =>
    ceilDiv (qNum * (p.stream r.1).tileNum) (10000 * tileDen)).sum

/-- The CXL_RD sum of a port: Basin reads and DMA declarations. -/
def cxlReadLoad (p : Plan) (d pUs : Nat) : Nat :=
  ((p.rings.filter fun r => r.2.port = d).map fun r => r.2.readRate).sum +
  (p.dmas.map fun e => ceilDiv (e.cxlBytes.getD d 0 * 10 ^ 6) (max pUs 1)).sum

/-- The CXL_REQ sum of a port (12 R238). -/
def cxlCreditLoad (p : Plan) (d : Nat) : Nat :=
  ((p.rings.filter fun r => r.2.port = d).map fun r => r.2.credits).sum + p.device.readCredits.getD d 0

/-- Ring credits below what R56 asks of a port. -/
def cxlCreditShort (p : Plan) (d : Nat) : Bool :=
  (p.rings.filter fun r => r.2.port = d).any fun r =>
    decide (r.2.credits < ceilDiv (p.stream r.1).tileNum (tileDen * 64 * 10 ^ 6))

/-- The 17 resources: code, load, ceiling, in the order of R54. -/
structure Resource where
  code    : Nat
  load    : Nat
  ceiling : Nat
  deriving DecidableEq, Repr, Inhabited

/-- The timing mode that an output has, or will have after the change that it makes (03 R44); the tiled pair has DP0's. -/
def modesOf (s : State) (o : Nat) : Option DispMode :=
  let get := fun i : Fin 2 => let x := vget s.caldera.outputs i; x.newMode.or x.mode
  let m0 := get 0
  if o = 0 then m0 else if m0.any (·.tiled) then m0 else get 1

/-- The sums of a plan on the configuration as it stands. -/
def planResources (s : State) (p : Plan) (map : ViewE → List Nat) : List Resource :=
  let pUs := s.params.epochPeriod
  let worst := laneWorst p
  let cxl := fun (base : Nat) (load : Nat → Nat) (ceil : Port → Nat) =>
    (List.finRange 4).map fun d => (⟨base + d.val, load d.val, ceil (vget s.down.ports d)⟩ : Resource)
  [⟨1, worst.2.1, worst.2.2⟩, ⟨2, transformLoad p, 576 * 10 ^ 9⟩, ⟨3, calderaLoad p map 1, 32 * 10 ^ 9⟩,
   ⟨4, calderaLoad p map 2, 32 * 10 ^ 9⟩, ⟨5, nearLoad p (modesOf s) pUs, nearCeiling⟩] ++
  cxl 0x10 (cxlWriteLoad p) Port.cxlCeiling ++
  cxl 0x14 (fun d => cxlReadLoad p d pUs) Port.cxlCeiling ++
  cxl 0x18 (cxlCreditLoad p) (fun q => if cxlMode q.mode.val then 1024 else 0)

/-! The verification generation (03 R44). -/

/-- The generation changes: every VERIFIED bank returns to LOADED. A change that a command made keeps a PENDING bank, which
was checked again. -/
def bumpGen (command : Bool) (s : State) : State :=
  let g := s.plans.gen + 1
  let s := { s with plans := { s.plans with gen := g } }
  (List.finRange 2).foldl (fun s b => s.modBank b fun k =>
    match k.state with
    | .verified => { k with state := .loaded }
    | .pending => if command then { k with gen := g } else k
    | _ => k) s

/-- The bank against whose sums a command is checked: ACTIVE, then PENDING (03 R44). -/
def boundBanks (s : State) : List (Fin 2) :=
  ([0, 1].filter fun b => (s.bank b).state = .active) ++ ([0, 1].filter fun b => (s.bank b).state = .pending)

end Sys2Proof.Machine
end

