-- ==== Sys2Proof/Machine/DmaOps.lean ====
section
/-! DEFINITION. DMA channels: checks of programs, moves and their bursts, delivery to a destination, starting, stopping and
errors (13 R255 to R271). -/

namespace Sys2Proof.Machine

/-! Descriptors. -/

/-- The channel's entry of the running plan. -/
def dmaEntry (s : State) (c : Fin 32) : DmaE := (planNow s).dmaOf c.val

/-- The descriptor at the channel's place, none beyond the end of its program. -/
def DmaCh.desc (d : DmaCh) : Option Nat := d.program[d.pc]?

/-- Size of the near memory, and of the part that plans allocate (12 R245). -/
def nearSize (s : State) : Nat := if s.dev.is128 then 128 * 2 ^ 30 else 64 * 2 ^ 30
def planRegion : Nat := 0x40000000

/-- The pairs of spaces that a move may join (13 R257). -/
def spacePair (src dst : Nat) : Bool :=
  let host := dst = 6 || dst = 7
  if src = 1 then host
  else if 2 ≤ src ∧ src ≤ 5 then dst = 1 || host
  else if src = 6 ∨ src = 7 then dst = 1
  else if src = 8 then dst = 1 || host || dst = 9 || dst = 10
  else false

/-- The CXL port that a move reads, by address or through the ring of its CAPTURE source. -/
def srcPort (p : Plan) (d : Nat) : Option Nat :=
  if 2 ≤ dSrcSpace d ∧ dSrcSpace d ≤ 5 then some (dSrcSpace d - 2)
  else if dSrcSpace d = 8 ∧ (p.ringOf (dStream d)).present then some (p.ringOf (dStream d)).port
  else none

/-- The move names NEAR. -/
def touchesNear (d : Nat) : Bool := dSrcSpace d = 1 || dDstSpace d = 1

/-- A reserved bit of a descriptor is set (13 R256). -/
def dReserved (d : Nat) : Bool := bits 15 12 d ≠ 0 || bit 31 d || bits 255 216 d ≠ 0

/-- A descriptor keeps R255 to R258 under an entry of a plan; alignment is another check (13 R266). -/
def descOkFor (p : Plan) (e : DmaE) (size : Nat) (d : Nat) : Bool :=
  decide (dOp d ≤ 5) &&
  (!dMove d ||
    (spacePair (dSrcSpace d) (dDstSpace d) &&
     (!touchesNear d || decide (0 < e.nearBytes)) &&
     ((srcPort p d).all fun q => decide (0 < e.cxlBytes.getD q 0)) &&
     !(e.provSafe && dDstSpace d = 9) && (dDstSpace d ≠ 10 || decide (dDest d < 8)) &&
     (dSrcSpace d ≠ 1 || decide (planRegion ≤ dSrc d ∧ dSrc d + dLength d ≤ size)) &&
     (dDstSpace d ≠ 1 || decide (planRegion ≤ dDst d ∧ dDst d + dLength d ≤ size))))

/-- The lines that WAIT_EVENT descriptors name. -/
def waitLines (prog : List Nat) : List Nat := ((prog.filter fun d => dOp d = 3).map dLine).eraseDups

/-- A program that a command loads keeps R255, R256, R257 and R264, and its reserved bits are 0 (19 R374). -/
def programOk (p : Plan) (e : DmaE) (size : Nat) (prog : List Nat) : Bool :=
  decide (0 < prog.length ∧ prog.length ≤ 256) && prog.all (fun d => !dReserved d && descOkFor p e size d) && decide ((waitLines prog).length ≤ 16)

/-- The rings in which a window address of a port lies, among those in use or draining. -/
def ringsAt (s : State) (port a len : Nat) : List (Fin 16 × RingRt) :=
  (List.finRange 16).flatMap fun i => ((ringsOf s i).filter fun r =>
    r.cfg.present && r.cfg.port = port && decide (a < r.cfg.base + (64 + r.cfg.ringTiles) * 4096 ∧ r.cfg.base < a + len)).map
      fun r => (i, r)

/-- A descriptor breaks the alignment that R266, R259 and R260 ask. `inRing` says whether a range of a CXL port overlaps a
ring. -/
def misaligned (inRing : Nat → Nat → Nat → Bool) (d : Nat) : Bool :=
  dMove d &&
    (decide (dSrc d % 64 ≠ 0 ∨ dDst d % 64 ≠ 0 ∨ dLength d % 64 ≠ 0) ||
     (dOp d = 2 && (dSrcSpace d = 1 || dSrcSpace d = 6 || dSrcSpace d = 7) &&
       decide (dSrc d % 4096 ≠ 0 ∨ dLength d % 4096 ≠ 0)) ||
     (dSrcSpace d = 8 && decide (dLength d % 4096 ≠ 0)) ||
     (decide (2 ≤ dSrcSpace d ∧ dSrcSpace d ≤ 5) && inRing (dSrcSpace d - 2) (dSrc d) (dLength d) &&
       decide (dSrc d % 4096 ≠ 0 ∨ dLength d % 4096 ≠ 0)))

/-- The first misaligned descriptor of a program. -/
def firstMisaligned (s : State) (prog : List Nat) : Option Nat :=
  (List.range prog.length).find? fun n => misaligned (fun p a l => !(ringsAt s p a l).isEmpty) (prog.getD n 0)

/-! Moves. -/

/-- The move whose reads the channel still issues. -/
def DmaCh.current (d : DmaCh) : Option OpenMove := d.moves.getLast?.filter fun m => !m.issuedAll

/-- The channel runs, waits, pauses or is paused. -/
def DmaCh.busy (d : DmaCh) : Bool :=
  d.state = .running || d.state = .waiting || d.state = .pausing || d.state = .paused

/-- The channel executes descriptors: it is RUNNING, no move still issues reads, and no stop waits. -/
def DmaCh.executes (d : DmaCh) : Bool := d.state = .running && d.current.isNone && !d.stopping

/-- Every byte of the move has reached its destination, but for what R258 adds to an ARCHIVE move. -/
def OpenMove.drained (m : OpenMove) : Bool := m.issuedAll && m.waiting = 0

/-- The move is complete (13 R258). -/
def OpenMove.complete (m : OpenMove) : Bool := !m.dead && m.drained && (dDstSpace m.desc ≠ 9 || m.indexed)

/-- A capture has one reader fewer. -/
def unread (m : OpenMove) (s : State) : State :=
  match m.capture with
  | some x => modCap x.stream x.id (fun c => { c with readers := c.readers - 1 }) s
  | none => s

/-- A UDP move's tiles of a datagram (13 R262). -/
def UdpDest.tilesPer (u : UdpDest) : Nat := u.space / 4096

/-- The payload of a datagram of tiles (13 R262, 11 R230). -/
def UdpDest.tileDatagram (u : UdpDest) (node dest : Nat) (tiles : List (List Byte)) : List Byte :=
  toLe 4 (0xBD41 + 2 ^ 16 + node * 2 ^ 24 + u.ports * 2 ^ 30) ++ toLe 4 u.dgramSeq.toNat ++
  toLe 4 (tiles.length + dest * 2 ^ 16) ++ toLe 4 0 ++ tiles.flatten

/-- The tiles of a channel that wait for a destination's datagram. -/
def DmaCh.tilesFor (d : DmaCh) (i : Fin 8) : List (List Byte) := (d.udpTiles.filter (·.1 = i)).map (·.2)

/-- The waiting tiles of a channel for a destination go out as one datagram; while no link is up they are dropped (11 R229). -/
def flushTiles (c : Fin 32) (i : Fin 8) (s : State) : State :=
  let tiles := (s.dma c).tilesFor i
  if tiles.isEmpty then s
  else
    let u := vget s.records.udp i
    let s' := s.modDma c fun d => { d with udpTiles := d.udpTiles.filter (·.1 ≠ i) }
    if udpReady u s then sendDatagram i (u.tileDatagram (nodeId s) i.val tiles) s'
    else tiles.foldl (fun s _ => dropOn (udpPath i) s) s'

/-- Every waiting tile of a channel goes out. -/
def flushChannel (c : Fin 32) (s : State) : State := (List.finRange 8).foldl (fun s i => flushTiles c i s) s

/-- A tile reaches a UDP destination: it waits for its datagram, or it is dropped where none can carry it (13 R262). -/
def putTile (c : Fin 32) (i : Fin 8) (tile : List Byte) (s : State) : State :=
  let per := (vget s.records.udp i).tilesPer
  if per = 0 then
    s.modPath (udpPath i) fun q => { q with oversize := satAdd q.oversize 1 }
  else
    let s := s.modDma c fun d => { d with udpTiles := d.udpTiles ++ [(i, tile)] }
    if per ≤ ((s.dma c).tilesFor i).length then flushTiles c i s else s

/-- The destination of a move as a UDP destination. -/
def udpOf (d : Nat) : Fin 8 := ⟨dDest d % 8, Nat.mod_lt _ (by decide)⟩

/-- A complete move leaves the channel, and its capture the channel's queue (13 R258, R261). -/
def finishMove (c : Fin 32) (m : OpenMove) (s : State) : State :=
  let s := if dDstSpace m.desc = 10 then flushTiles c (udpOf m.desc) s else s
  let s := s.modDma c fun d =>
    { d with
      moves := d.moves.filter fun x => x.serial ≠ m.serial
      lastHost := d.lastHost.filter fun b => b.serial ≠ m.serial
      capQ := match m.capture with
        | some x => d.capQ.filter fun e => e ≠ (x.stream, x.id)
        | none => d.capQ }
  unread m s

/-- The append that a channel's move feeds ends; what it has written is overwritten by the next (13 R261). -/
def dropAppend (c : Fin 32) (serial : Nat) (s : State) : State :=
  (List.finRange 16).foldl (fun s a => s.modArchive a fun v =>
    if v.job.any fun j => j.channel = c && j.move = serial then { v with job := none } else v) s

/-- Moves of a channel are given up: they issue nothing further and never complete, and what they have issued drains (13 R261,
R270, R273). -/
def giveUp (c : Fin 32) (pick : OpenMove → Bool) (s : State) : State :=
  let s := ((s.dma c).moves.filter fun m => pick m && !m.dead).foldl (fun s m => dropAppend c m.serial (unread m s)) s
  s.modDma c fun d => DmaCh.settle
    { d with moves := d.moves.map fun m =>
        if pick m && !m.dead then { m with dead := true, issuedAll := true, capture := none } else m }

/-- The moves of a channel that are complete leave it as complete; the others are given up (13 R261, R273). -/
def dropMoves (c : Fin 32) (s : State) : State :=
  giveUp c (fun _ => true) (((s.dma c).moves.filter (·.complete)).foldl (fun s m => finishMove c m s) s)

/-! Archives as a move sees them. -/

/-- The drive of a sub-link. -/
def driveAt (port sub : Fin 4) : Fin 16 := ⟨port.val * 4 + sub.val, by omega⟩

/-- The drive of an archive. -/
def driveOf (s : State) (a : Fin 16) : Fin 16 := let v := vget s.basin.archives a; driveAt v.port v.sub

def archiveOf (s : State) (a : Fin 16) : ArchiveRt := vget s.basin.archives a

/-- The archive that an ARCHIVE move names. -/
def archiveIdx (d : Nat) : Fin 16 := ⟨dDest d % 16, Nat.mod_lt _ (by decide)⟩

/-- Tiles of an append that the drive asks for: those of the Write commands whose doorbell has been written (13 R262). -/
def askedTiles (s : State) (a : Fin 16) (j : Append) : Nat :=
  let v := archiveOf s a
  let waiting := (v.placed.reverse.take v.newPlaced).filter fun k => k.opcode = 1
  j.written - (waiting.map (·.count)).sum

/-- Tiles of a capture move that have been read, of all that it moves. -/
def tilesRead (total : Nat) (m : OpenMove) : Nat := total - ((m.capture.map fun x => x.left.length).getD 0)

/-- The append that a move of a channel feeds. -/
def appendOf (s : State) (c : Fin 32) (m : OpenMove) : Option Append :=
  (archiveOf s (archiveIdx m.desc)).job.filter fun j => j.channel = c && j.move = m.serial

/-- The host port that a space names (13 R257). -/
def spaceHost (space : Nat) : Option PortId := if space = 6 then some 0 else if space = 7 then some 1 else none

/-- The destination asks for the next part of a move (13 R262, R269); a host does while its link is up, as the last write of a
move has to be issued to it (R258). -/
def requested (s : State) (c : Fin 32) (m : OpenMove) : Bool :=
  if dDstSpace m.desc = 9 then
    match appendOf s c m with
    | some j => decide (tilesRead j.count m < askedTiles s (archiveIdx m.desc) j)
    | none => false
  else if dDstSpace m.desc = 10 then
    udpReady (vget s.records.udp (udpOf m.desc)) s && accepts (udpPath (udpOf m.desc)) false 4096 s
  else (spaceHost (dDstSpace m.desc)).all fun p => (s.port p).linkUp

/-! Delivery. -/

/-- A tile that an archive move delivers: a provisional one is not written, but listed as LOST; one whose check fails is
listed as BAD_CRC (09 R180, R181). -/
def archiveTile (a : Fin 16) (seq dst : Nat) (data : List Byte) (badTile : Bool) (s : State) : State :=
  let prov := bit 2 (ofLe ((data.drop 14).take 2))
  let list := fun k : Nat => s.modArchive a fun v =>
    { v with job := v.job.map fun j => { j with bad := j.bad ++ [(seq, k)] } }
  let s := if prov then list 2 else if badTile then list 1 else s
  s.modDrive (driveOf s a) fun d => { d with data := memWrite d.data dst (if prov then List.replicate 4096 0 else data) }

/-- Bytes reach the destination of a burst. -/
def putData (c : Fin 32) (space index dst : Nat) (tile : Option TileRef) (data : List Byte) (badTile : Bool) (s : State) : State :=
  match spaceHost space with
  | some p => s.modHostMem p fun m => memWrite m dst data
  | none =>
  if space = 1 then nearPut dst data s
  else if space = 9 then
    archiveTile ⟨index % 16, Nat.mod_lt _ (by decide)⟩ ((tile.map (·.seq)).getD 0) dst data badTile s
  else putTile c ⟨index % 8, Nat.mod_lt _ (by decide)⟩ data s

/-- A tile that fails the check of a channel (13 R259). -/
def badTileSeen (c : Fin 32) (addr space : Nat) (s : State) : State :=
  let s := s.modDma c fun d => { d with flags := d.flags.raise 5, badCrc := satAdd d.badCrc 1 }
  postEvent 0x8006 0 10 c.val addr space s

/-- A CXL read of a channel is answered: its tile is checked, the data go on to the destination (13 R259), and wait where that is a
host whose link is down (R258). -/
def dmaReturn (c : Fin 32) (serial space index dst port addr : Nat) (tile : Option TileRef) (data : List Byte) (poison : Bool)
    (s : State) : State :=
  let moved := (s.dma c).moves.find? fun m => m.serial = serial
  let srcSpace := (moved.map fun m => dSrcSpace m.desc).getD (2 + port)
  let (isBad, s) := match tile with
    | some t =>
      let u := useTile t.stream t.capture t.seq data poison s
      (u.1, if u.1 then badTileSeen c addr srcSpace u.2 else u.2)
    | none => (false, s)
  match (spaceHost space).filter fun p => !(s.port p).linkUp with
  | some p => s.modDma c fun d => { d with unsent := d.unsent ++ [{ serial := serial, port := p, dst := dst, data := data }] }
  | none => (putData c space index dst tile data isBad s).modDma c fun d => d.beatWritten serial

/-! Starting, stopping, errors. -/

/-- A channel starts at descriptor 0 with its counts cleared, or stands in ERROR_ALIGN (13 R264, R266). -/
def startChannel (c : Fin 32) (prog : List Nat) (s : State) : Option Nat × State :=
  match firstMisaligned s prog with
  | some n =>
    let s := s.modDma c fun d =>
      { d with state := .errorAlign, reason := .none, program := prog, flags := d.flags.raise 0, errDesc := n }
    (some n, raiseFault 0x0401 2 c.val n 0 none s)
  | none =>
    (none, s.modDma c fun d =>
      { d with state := .running, reason := .none, resume := .none, stopping := false, pc := 0, loops := [],
               pendingPulses := [], program := prog, count := 0 })

/-- Transfers of a channel that are issued and not yet written: reads on their way, and Write commands of its append that
have not completed. -/
def outstanding (s : State) (c : Fin 32) : Bool :=
  (s.dma c).moves.any (fun m => decide (0 < m.waiting)) ||
    (List.finRange 16).any fun a => (archiveOf s a).job.any fun j => j.channel = c && decide (0 < j.pending)

/-- A deferred DMA_PAUSE or DMA_STOP of the channel is answered. -/
def answerPause (c : Fin 32) (st : Status) (s : State) : State :=
  finish (fun w => w = .dmaPause c) (fun _ s => (s, { status := st, detail := 0, payload := [] })) s
def answerStop (c : Fin 32) (s : State) : State :=
  finish (fun w => w = .dmaStop c) (fun _ s => (s, { status := .ok, detail := 0, payload := [] })) s

/-- Answers one DMA_STOP after another: as many as wait. -/
def answerStops (c : Fin 32) (s : State) : State := s.host.deferred.foldl (fun s _ => answerStop c s) s

/-- The channel is STOPPED, the tiles that it has read for datagrams are sent, and its stop commands are answered (13 R273). -/
def stopChannel (c : Fin 32) (s : State) : State :=
  let s := (dropMoves c (flushChannel c s)).modDma c fun d =>
    { d with state := .stopped, reason := .none, resume := .none, stopping := false, lastHost := none }
  answerStops c (answerPause c .refusedState s)

/-- A beat of a move is answered with an error (13 R270): that move, and one with reads still to issue, are given up; what else
is issued drains to its destination; a pause that waits finds the error state. A channel that does not run keeps its state
(R267). -/
def beatError (c : Fin 32) (serial num dst : Nat) (s : State) : State :=
  let tail := decide ((s.dma c).count = 0)
  let s := giveUp c (fun m => m.serial = serial || !m.issuedAll) (flushChannel c s)
  let s := s.modDma c fun d =>
    { d with
      state := if d.busy then (if tail then .errorTail else .errorBeat) else d.state
      reason := .none
      lastHost := none
      errDesc := num, errDst := dst
      flags := d.flags.raise (if tail then 2 else 1) }
  let s := raiseFault 0x0402 2 (c.val + atBit 8 tail) num dst none s
  let s := answerPause c .refusedState s
  if (s.dma c).stopping then stopChannel c s else s

/-- `n` bytes of which nothing is known: free values (log entry 1: DESIGN CHOICE). -/
def unknownBytes : Nat → State → List Byte × State
  | 0, s => ([], s)
  | n + 1, s =>
    let (v, s) := fresh s
    let (bs, s) := unknownBytes n s
    (toLe 8 v.toNat ++ bs, s)

/-! A flip. -/

/-- A ring goes on across a flip (13 R271): its settings agree, or the new bank takes up what recovery restored. -/
def ringStays (s : State) (old : Option (Fin 2)) (new : Fin 2) (i : Fin 16) : Bool :=
  let e := (planIn s new).ringOf i.val
  e.present &&
    ((match old with
      | some o => (planIn s o).ringOf i.val = e && ((planIn s o).stream i.val).packed = ((planIn s new).stream i.val).packed
      | none => false) || s.basin.recover = some new)

/-- The queue of a channel after a flip: the captures of the rings that stay, in the order of release, and for a
provisional-safe channel those that are CLOSED and still provisional. -/
def freshQueue (s : State) (old : Option (Fin 2)) (new : Fin 2) (provSafe : Bool) : List (Fin 16 × U32) :=
  ((List.finRange 16).filter (ringStays s old new)).flatMap fun i =>
    let r := (s.basinOf i).ring
    let prov := (r.captures.filter fun x => x.2.provisional && x.2.state = .closed).map (·.2.id)
    (r.order ++ (if provSafe then prov else [])).map fun id => (i, id)

/-- A flip reaches a channel (13 R271). -/
def dmaFlipOne (old : Option (Fin 2)) (new : Fin 2) (s : State) (c : Fin 32) : State :=
  let e := (planIn s new).dmaOf c.val
  let eOld := (old.map fun o => (planIn s o).dmaOf c.val).getD default
  if eOld = e && eOld.present then s
  else if !eOld.present && !e.present then s
  else
    let s := stopChannel c s
    let q := if e.present then freshQueue s old new e.provSafe else []
    let s := s.modDma c fun d =>
      { d with
        program := if e.present && !e.host then e.descs else [], loaded := false, partialProg := [], pendingPulses := []
        loops := [], pc := 0, count := 0, nearUsed := 0, cxlUsed := Vector.replicate 4 0, capQ := q }
    if e.present && e.atFlip && !e.host then (startChannel c e.descs s).2 else s

def dmaFlip (old : Option (Fin 2)) (new : Fin 2) (s : State) : State :=
  (List.finRange 32).foldl (dmaFlipOne old new) s

/-- The counts of bytes of an epoch are cleared, and channels that wait for them go on (13 R263). -/
def dmaBoundary (s : State) : State :=
  (List.finRange 32).foldl (fun s c => s.modDma c fun d =>
    let d := { d with nearUsed := 0, cxlUsed := Vector.replicate 4 0 }
    if d.reason = .budget ∧ d.state = .waiting then { d with state := .running, reason := .none }
    else if d.resume = .budget then { d with resume := .none } else d) s

end Sys2Proof.Machine
end

