-- ==== Sys2Proof/Machine/Dma.lean ====
section
/-! DEFINITION. The DMA commands, descriptors, bursts, completions and errors (13 R255 to R274, 19 R378). -/

namespace Sys2Proof.Machine

/-! Descriptors. -/

/-- The descriptor at a channel's place executes now, if its OP is the one given (13 R256). -/
def fetched (s : State) (c : Fin 32) (op : Nat) : Option Nat :=
  let d := s.dma c
  if engines s && d.executes then d.desc.filter fun x => dOp x = op else none

/-- The next capture of a ring's queue that the channel has not taken (13 R260, R261): ring, slot, the capture. -/
def nextCapture (s : State) (c : Fin 32) (stream : Nat) : Option (Fin 16 × RingRt × Fin 64 × Capture) :=
  let d := s.dma c
  d.capQ.findSome? fun k =>
    if k.1.val ≠ stream || d.moves.any fun m => m.took k.1 k.2 then none
    else match findCap s k.1 k.2 with
      | some (r, n, x) => if x.state = .closed then some (k.1, r, n, x) else none
      | none => none

/-- The captures at the head of a channel's queue that are no longer held leave it (13 R261). -/
def pruneQueue (c : Fin 32) (s : State) : State :=
  let live := fun k : Fin 16 × U32 =>
    (s.dma c).moves.any (fun m => m.took k.1 k.2) ||
      (match findCap s k.1 k.2 with | some (_, _, x) => decide (x.state = .closed) | none => false)
  s.modDma c fun d => { d with capQ := d.capQ.filter live }

/-- A move begins: its fields are loaded from the descriptor (13 R256); a move of no bytes has no read to issue. -/
def loadMove (c : Fin 32) (x count : Nat) (cap : Option CapMove) (s : State) : State :=
  s.modDma c fun d =>
    let m : OpenMove :=
      { serial := d.serial, num := d.pc, desc := x, capture := cap, issuedAll := count = 0, waiting := 0, indexed := false, dead := false }
    { d with
      src := dSrc x, dst := dDst x, count := count, moves := d.moves ++ [m], serial := d.serial + 1, lastHost := none
      pc := if count = 0 then d.pc + 1 else d.pc
      state := if dDstSpace x = 9 ∧ count ≠ 0 then .waiting else d.state
      reason := if dDstSpace x = 9 ∧ count ≠ 0 then .request else d.reason }

/-- A MOVE from CAPTURE takes the next capture of the queue, or waits for one (13 R260). -/
def takeCapture (c : Fin 32) (x : Nat) (s : State) : State :=
  let s := pruneQueue c s
  match nextCapture s c (dStream x) with
  | none => s.modDma c fun d => { d with state := .waiting, reason := .capture }
  | some (i, r, n, k) =>
    let seqs := (r.heldTiles k).map (·.seq)
    let limit := dLength x / 4096
    let cut := dLength x ≠ 0 && decide (limit < seqs.length)
    let left := if cut then seqs.take limit else seqs
    let s := modCap i k.id (fun k => { k with readers := k.readers + 1 }) s
    let s := if cut then s.modDma c fun d => { d with flags := d.flags.raise 6 } else s
    loadMove c x (4096 * left.length) (some { stream := i, slot := n, id := k.id, left := left, cut := cut }) s

/-- A MOVE or MOVE_VERIFY executes (13 R256, R260). -/
def beginMove (c : Fin 32) (op : Nat) (s : State) : State :=
  match fetched s c op with
  | none => s
  | some x => if dSrcSpace x = 8 then takeCapture c x s else loadMove c x (dLength x) none s

/-- MOVE (13 R256). -/
def execMove (channel : Fin 32) (s : State) : Host.Outcome State Fault Refusal := .next (beginMove channel 1 s)

/-- MOVE_VERIFY (13 R256, R259). -/
def execMoveVerify (channel : Fin 32) (s : State) : Host.Outcome State Fault Refusal := .next (beginMove channel 2 s)

/-- Pending pulses of a line (13 R264). -/
def DmaCh.pulses (d : DmaCh) (line : Nat) : Nat := ((d.pendingPulses.find? (·.1 = line)).map (·.2)).getD 0

def DmaCh.setPulses (d : DmaCh) (line n : Nat) : DmaCh :=
  let rest := d.pendingPulses.filter (·.1 ≠ line)
  { d with pendingPulses := if n = 0 then rest else (line, n) :: rest }

/-- WAIT_EVENT (13 R264). -/
def execWaitEvent (channel : Fin 32) (s : State) : Host.Outcome State Fault Refusal :=
  .next <|
    match fetched s channel 3 with
    | none => s
    | some x => s.modDma channel fun d =>
        match d.pulses (dLine x) with
        | 0 => { d with state := .waiting, reason := .event }
        | n + 1 => { d.setPulses (dLine x) n with pc := d.pc + 1 }

/-- SIGNAL (13 R265): every earlier move is complete. -/
def execSignal (channel : Fin 32) (s : State) : Host.Outcome State Fault Refusal :=
  .next <|
    match fetched s channel 4 with
    | none => s
    | some x =>
      if (s.dma channel).moves.any fun m => !m.dead then s
      else pulseOpt (some (dLine x)) (s.modDma channel fun d => { d with pc := d.pc + 1 })

/-- LOOP (13 R256): the count of branches taken is the channel's own, and is cleared when the LOOP falls through. -/
def execLoop (channel : Fin 32) (s : State) : Host.Outcome State Fault Refusal :=
  .next <|
    match fetched s channel 5 with
    | none => s
    | some x => s.modDma channel fun d =>
        let taken := ((d.loops.find? (·.1 = d.pc)).map (·.2)).getD 0
        let rest := d.loops.filter (·.1 ≠ d.pc)
        if dIter x = 0 ∨ taken < dIter x then { d with pc := dTarget x, loops := (d.pc, taken + 1) :: rest }
        else { d with pc := d.pc + 1, loops := rest }

/-- DMA_DESC_STOP (13 R256, R265): the STOP descriptor, or the end of the program. -/
def execDmaDescStop (channel : Fin 32) (s : State) : Host.Outcome State Fault Refusal :=
  .next <|
    let d := s.dma channel
    if engines s && d.executes && d.desc.all fun x => dOp x = 0 then
      s.modDma channel fun d => { d with state := .stopped, reason := .none }
    else s

/-! Bursts. -/

/-- Bytes of the next burst of a move (13 R258): it never crosses a 4,096-byte boundary of its source. -/
def burstLen (d : DmaCh) (m : OpenMove) : Nat :=
  if dSrcSpace m.desc = 8 then 4096 else min d.count (4096 - d.src % 4096)

/-- The ring of a capture that a move reads. -/
def capRing (s : State) (m : OpenMove) : Option RingRt :=
  m.capture.bind fun x => (findCap s x.stream x.id).map (·.1)

/-- The CXL port from which a burst reads. -/
def burstPort (s : State) (m : OpenMove) : Option (Fin 4) :=
  if dSrcSpace m.desc = 8 then (capRing s m).map fun r => cxlPort r.cfg.port
  else if 2 ≤ dSrcSpace m.desc ∧ dSrcSpace m.desc ≤ 5 then some (cxlPort (dSrcSpace m.desc - 2))
  else none

/-- The allowance of every declared space covers the burst (13 R263). -/
def budgetCovers (e : DmaE) (d : DmaCh) (near : Bool) (port : Option (Fin 4)) (len : Nat) : Bool :=
  (!near || decide (d.nearUsed + len ≤ e.nearBytes)) &&
  port.all fun p => decide (vget d.cxlUsed p + len ≤ e.cxlBytes.getD p.val 0)

/-- The reader pool of a port has the credits of a read (12 R238). -/
def creditsCover (s : State) (port : Option (Fin 4)) (len : Nat) : Bool :=
  port.all fun p =>
    decide (creditsOf (readReqs s p) + ceilDiv len 64 ≤ (planNow s).device.readCredits.getD p.val 0)

/-- The registers after a burst is issued (13 R258); at the last one the channel goes on to the next descriptor. -/
def advance (d : DmaCh) (m : OpenMove) (near : Bool) (port : Option (Fin 4)) (len : Nat) : DmaCh :=
  let last := decide (d.count ≤ len)
  let d := { d with
    src := d.src + len, dst := d.dst + len, count := d.count - len, moved := d.moved + BitVec.ofNat 64 len
    nearUsed := if near then d.nearUsed + len else d.nearUsed
    cxlUsed := match port with | some p => vmod d.cxlUsed p (· + len) | none => d.cxlUsed
    pc := if last then d.pc + 1 else d.pc }
  d.modMove m.serial fun m => { m with issuedAll := last }

/-- A burst from NEAR (13 R257, R259); a tile of a read that failed fails its CRC (12 R250). -/
def burstNear (c : Fin 32) (m : OpenMove) (len : Nat) (s : State) : State :=
  let d := s.dma c
  let data := nearBytes s 5 d.src len
  let s := if dOp m.desc = 2 && (!tileGood data || nearFailed s 5 d.src len) then badTileSeen c d.src 1 s else s
  let s := putData c (dDstSpace m.desc) (dDest m.desc) d.dst none data false s
  (nearTaken 5 d.src len s).modDma c fun d => advance d m true none len

/-- A burst from a host, which a later error completion can still undo (13 R269). -/
def burstHost (c : Fin 32) (m : OpenMove) (len : Nat) (s : State) : State :=
  let d := s.dma c
  let p : PortId := if dSrcSpace m.desc = 6 then 0 else 1
  if !(s.port p).linkUp then s
  else
    let data := memRead (vget s.hostMem p) d.src len
    let s := if dOp m.desc = 2 && !tileGood data then badTileSeen c d.src (dSrcSpace m.desc) s else s
    let s := putData c (dDstSpace m.desc) (dDest m.desc) d.dst none data false s
    s.modDma c fun d => { advance d m true none len with lastHost := some { serial := m.serial, num := m.num, dst := d.dst, len := len } }

/-- The tile that a window address of a port holds, where it lies in a ring. -/
def tileRefAt (s : State) (port : Fin 4) (addr : Nat) : Option TileRef :=
  (ringsAt s port.val addr 4096).head?.map fun x =>
    { stream := x.1, capture := none
      seq := match x.2.tiles.find? fun t => x.2.tileAddr t.seq = addr with
        | some t => t.seq
        | none => (addr - x.2.cfg.base) / 4096 - 64 }

/-- A burst from a CXL port is a read that holds credits of the port's pool until its response (12 R238, 13 R259). -/
def burstCxl (c : Fin 32) (m : OpenMove) (p : Fin 4) (addr len dst : Nat) (tile : Option TileRef) (s : State) : State :=
  let near := dDstSpace m.desc = 1
  let r : CxlReq :=
    { user := .dma c m.serial (dDstSpace m.desc) (dDest m.desc) dst tile, write := false, addr := addr, len := len, data := []
      held := ceilDiv len 64, issued := now s }
  let s := cxlIssue p r s
  s.modDma c fun d =>
    (advance d m near (some p) len).modMove m.serial fun m =>
      { m with
        waiting := m.waiting + 1
        capture := m.capture.map fun x => { x with left := x.left.drop 1 } }

/-- Where a tile of a capture goes: its archive tile, or the channel's DST_ADDR. -/
def tileDst (s : State) (c : Fin 32) (m : OpenMove) (d : DmaCh) : Nat :=
  if dDstSpace m.desc = 9 then
    match appendOf s c m with
    | some j => (j.first + tilesRead j.count m) * 4096
    | none => d.dst
  else d.dst

/-- One burst of a move is issued. -/
def issueBurst (c : Fin 32) (m : OpenMove) (s : State) : State :=
  let d := s.dma c
  let len := burstLen d m
  match dSrcSpace m.desc, burstPort s m with
  | 1, _ => burstNear c m len s
  | 8, some p =>
    match m.capture, capRing s m with
    | some x, some r =>
      (match x.left with
       | q :: _ => burstCxl c m p (r.tileAddr q) 4096 (tileDst s c m d) (some { stream := x.stream, capture := some x.id, seq := q }) s
       | [] => s)
    | _, _ => s
  | _, some p => burstCxl c m p d.src len d.dst (if len = 4096 then tileRefAt s p d.src else none) s
  | _, none => burstHost c m len s

/-- The channel may issue a burst now: it runs, its destination asks again (13 R267, R269), or, while it is PAUSING, the
drive fetches tiles of Write commands already submitted (R268). -/
def mayIssue (s : State) (c : Fin 32) (m : OpenMove) : Bool :=
  let d := s.dma c
  !d.stopping && requested s c m &&
    (match d.state with
     | .running => true
     | .waiting => d.reason = .request
     | .pausing => dDstSpace m.desc = 9
     | _ => false)

/-- The channel waits for a reason. -/
def waitFor (c : Fin 32) (r : WaitReason) (s : State) : State :=
  s.modDma c fun d =>
    match d.state with
    | .running | .waiting => { d with state := .waiting, reason := r }
    | .pausing | .paused => { d with resume := r }
    | _ => d

/-- DMA_BURST (13 R258, R262, R263). -/
def execDmaBurst (channel : Fin 32) (s : State) : Host.Outcome State Fault Refusal :=
  .next <|
    let d := s.dma channel
    match d.current with
    | none => s
    | some m =>
      if !engines s || (touchesNear m.desc && !locked s 3) then s
      else if !mayIssue s channel m then
        if d.state = .running && !d.stopping then waitFor channel .request s else s
      else
        let len := burstLen d m
        let port := burstPort s m
        let s := s.modDma channel fun d => if d.state = .waiting then d.wake else d
        if !budgetCovers (dmaEntry s channel) d (touchesNear m.desc) port len then waitFor channel .budget s
        else if !creditsCover s port len then s
        else issueBurst channel m s

/-- DMA_MOVE_COMPLETE (13 R258, R261): the oldest move. -/
def execDmaMoveComplete (channel : Fin 32) (s : State) : Host.Outcome State Fault Refusal :=
  .next <|
    match (s.dma channel).moves.find? fun m => !m.dead with
    | some m => if m.complete then finishMove channel m s else s
    | none => s

/-- The move's destination is one that asks for its data (13 R262). -/
def OpenMove.asked (m : OpenMove) : Bool := !m.dead && (dDstSpace m.desc = 9 || dDstSpace m.desc = 10)

/-- WITHDRAWN (13 R269): the request of a destination is withdrawn. Where a burst of its move is in progress, that completes and
is counted; a move that still has reads to issue waits for the next request. -/
def execWithdrawn (channel : Fin 32) (s : State) : Host.Outcome State Fault Refusal :=
  .next <|
    let d := s.dma channel
    match d.moves.reverse.find? fun m => m.asked && (decide (0 < m.waiting) || !m.issuedAll) with
    | some m =>
      let s := if 0 < m.waiting then
        s.modDma channel fun d => { d with withdrawn := satAdd d.withdrawn 1, flags := d.flags.raise 3 } else s
      if m.issuedAll then s else waitFor channel .request s
    | none => s

/-- The errored beat of the latest host burst (13 R269, R270): its 64 bytes at the destination are unknown. -/
def hostBeatError (c : Fin 32) (beat : Nat) (b : HostBurst) (s : State) : State :=
  let dst := b.dst + 64 * beat
  let (bs, s) := unknownBytes 8 s
  beatError c b.serial b.num dst (nearPut dst bs s)

/-- The commands of an archive that the drive has been told of: those before the tail last written (13 R262). -/
def ArchiveRt.submitted (v : ArchiveRt) : List NvmeCmd := v.placed.take (v.placed.length - v.newPlaced)

/-- The Write command of a channel's append that has been submitted first. -/
def oldestWrite (s : State) (c : Fin 32) : Option (Fin 16 × NvmeCmd) :=
  (List.finRange 16).findSome? fun a =>
    let v := archiveOf s a
    if v.job.any fun j => j.channel = c then (v.submitted.find? fun k => k.opcode = 1).map fun k => (a, k) else none

/-- The submission queue, completion queue and PRP lists of an archive in the firmware region of near memory (12 R241, R245; log
entry 62: DESIGN CHOICE). -/
def sqAt (a : Fin 16) : Nat := 0x20000000 + a.val * 0x20000
def cqAt (a : Fin 16) : Nat := sqAt a + 0x10000
def prpAt (a : Fin 16) (slot : Nat) : Nat := 0x20200000 + (a.val * 1024 + slot) * 256

/-- The drive posts the completion of a command (12 R241): 16 bytes, with the phase of its pass over the queue; the status of an
error is free (log entry 62: DESIGN CHOICE). -/
def completeCmd (a : Fin 16) (k : NvmeCmd) (good : Bool) (s : State) : State :=
  let (v, s) := fresh s
  let x := archiveOf s a
  let status := if good then 0 else v.toNat % 2 ^ 14 * 2 + 1
  let cqe := toLe 8 0 ++ toLe 2 ((k.slot + 1) % 1024) ++ toLe 2 1 ++ toLe 2 k.slot ++
    toLe 2 (atBit 0 (decide (x.done / 1024 % 2 = 0)) + status * 2)
  (nearPut (cqAt a + 16 * (x.done % 1024)) cqe s).modArchive a fun x =>
    { x with placed := x.placed.erase k, done := x.done + 1 }

/-- The append of an archive ends with an error at an archive tile (13 R269, R270). -/
def appendError (a : Fin 16) (tile : Nat) (s : State) : State :=
  match (archiveOf s a).job with
  | none => s
  | some j =>
    match (s.dma j.channel).moves.find? fun m => m.serial = j.move with
    | some m => beatError j.channel m.serial m.num tile s
    | none => s

/-- A Write command of an append ends with an error (13 R269, R270): what it carried is unknown on the drive. -/
def writeError (a : Fin 16) (k : NvmeCmd) (s : State) : State :=
  let s := completeCmd a k false s
  let (bs, s) := unknownBytes (k.count * 512) s
  let s := s.modDrive (driveOf s a) fun x => { x with data := memWrite x.data (k.tile * 4096) bs }
  appendError a k.tile s

/-- DMA_BEAT_ERROR (13 R269, R270): of a host read, or of a Write command at the destination. -/
def execDmaBeatError (channel : Fin 32) (destination : Bool) (beat : Fin 64) (s : State) :
    Host.Outcome State Fault Refusal :=
  .next <|
    if destination then
      match oldestWrite s channel with
      | some (a, k) => writeError a k s
      | none => s
    else match (s.dma channel).lastHost with
      | some b => if 64 * beat.val < b.len then hostBeatError channel beat.val b s else s
      | none => s

/-! Event lines. -/

/-- A pulse reaches a channel (13 R264). -/
def pulseDma (c : Fin 32) (line : Nat) (s : State) : State :=
  s.modDma c fun d =>
    if !d.busy || !(waitLines d.program).contains line then d
    else
      let n := d.pulses line
      let d := if 255 ≤ n then { d with overrun := satAdd d.overrun 1, flags := d.flags.raise 4 } else d.setPulses line (n + 1)
      if d.waitsFor = .event ∧ dLine (d.program.getD d.pc 0) = line then d.wake else d

/-- A doorbell pulse writes the submission-queue tail where commands have been placed since the last (13 R262, R272). -/
def ringDoorbell (a : Fin 16) (s : State) : State :=
  let v := archiveOf s a
  if v.newPlaced = 0 then s
  else
    let tail := (v.tail + v.newPlaced) % 1024
    emitOut (.nvmeDoorbell v.port.val v.sub.val tail) (s.modArchive a fun x => { x with tail := tail, newPlaced := 0 })

/-- EVENT_LINE_PULSE (13 R272): a pulse leaves the consumer's crossing. -/
def execEventLinePulse (line : Fin 128) (consumer : Machine.Consumer) (s : State) : Host.Outcome State Fault Refusal :=
  .next <|
    match takeCrossing line.val consumer s with
    | none => s
    | some s =>
      match consumer with
      | .dma c => pulseDma c line.val s
      | .ring i => releasePulse i s
      | .doorbell a => ringDoorbell a s
      | .vent v => s.modVent v fun x => { x with starts := vmod x.starts 1 (· + 1) }

/-! Commands. -/

/-- What every command but DMA_STATUS checks first (13 R273): a running plan, and an entry of the channel in it. -/
def onChannel (c : Cmd) (s : State) (f : Fin 32 → DmaE → State × Verdict) : State × Verdict :=
  match activeBank s with
  | none => (s, refuse .notReady 0)
  | some b =>
    match unit 32 (c.u 0 1) with
    | none => (s, bad 0)
    | some ch =>
      let e := (planIn s b).dmaOf ch.val
      if e.present then f ch e else (s, bad 0)

/-- The request of DMA_LOAD (19 R378). -/
def loadFields (c : Cmd) : List Field :=
  [whole 1, whole 1, whole 1, (1, 1), (4, 0)] ++ List.replicate (4 * c.u 2 1) (whole 8)

/-- The request of DMA_LOAD (19 R378). -/
def dmaLoadSpec : CmdSpec :=
  { code := 0xF01, domain := fun _ => some 10, fields := loadFields, length := fun c => 8 + 32 * c.u 2 1
    boot := fun _ => false }

/-- The descriptors of one part. -/
def partDescs (c : Cmd) : List Nat := (List.range (c.u 2 1)).map fun n => c.u (8 + 32 * n) 32

/-- One part of a program is loaded; the FINAL part closes and checks it (19 R378). -/
def loadPart (c : Cmd) (ch : Fin 32) (e : DmaE) (s : State) : State × Verdict :=
  let first := c.u 1 1
  let n := c.u 2 1
  let had := if first = 0 then [] else (s.dma ch).partialProg
  let drop := s.modDma ch fun d => { d with partialProg := [], loaded := false }
  if n = 0 ∨ 14 < n then (s, bad 2)
  else if first ≠ had.length then (drop, bad 1)
  else if 256 < first + n then (drop, bad 2)
  else
    let prog := had ++ partDescs c
    if bit 0 (c.u 3 1) then
      if programOk (planNow s) e (nearSize s) prog then
        (s.modDma ch fun d => { d with program := prog, loaded := true, partialProg := [] }, ok [])
      else (drop, bad 8)
    else (s.modDma ch fun d => { d with partialProg := prog, loaded := false }, ok [])

/-- DMA_LOAD (13 R273, 19 R378). -/
def execDmaLoad (s : State) : Host.Outcome State Fault Refusal :=
  .next <| serve dmaLoadSpec
    (fun c s => onChannel c s fun ch e =>
      let st := (s.dma ch).state
      if !e.host then (s, refuse .refusedState 0)
      else if st ≠ .stopped ∧ st ≠ .errorAlign ∧ st ≠ .errorBeat ∧ st ≠ .errorTail then (s, refuse .busyRunning 0)
      else loadPart c ch e s) s

/-- The request of a command that names a channel. -/
def channelSpec (code : Nat) : CmdSpec := fixedSpec code (some 10) [whole 1]

/-- DMA_START (13 R266, R273). -/
def execDmaStart (s : State) : Host.Outcome State Fault Refusal :=
  .next <| serve (channelSpec 0xF02)
    (fun c s => onChannel c s fun ch e =>
      let d := s.dma ch
      if d.busy || (e.host && !d.loaded) then (s, refuse .refusedState 0)
      else match startChannel ch (if e.host then d.program else e.descs) s with
        | (some n, s) => (s, refuse .badAlign n)
        | (none, s) => (s, ok [])) s

/-- DMA_PAUSE (13 R268, R273). -/
def execDmaPause (s : State) : Host.Outcome State Fault Refusal :=
  .next <| serve (channelSpec 0xF03)
    (fun c s => onChannel c s fun ch _ =>
      let d := s.dma ch
      match d.state with
      | .paused => (s, ok [])
      | .running | .waiting =>
        let s := s.modDma ch fun d => { d with state := .pausing, resume := d.reason, reason := .none }
        if d.state = .waiting && !outstanding s ch then (s.modDma ch fun d => { d with state := .paused }, ok [])
        else (s, .wait (.dmaPause ch))
      | _ => (s, refuse .refusedState 0)) s

/-- DMA_PAUSED (13 R268): every issued beat is written. -/
def execDmaPaused (channel : Fin 32) (s : State) : Host.Outcome State Fault Refusal :=
  .next <|
    if (s.dma channel).state = .pausing && !outstanding s channel then
      answerPause channel .ok (s.modDma channel fun d => { d with state := .paused })
    else s

/-- DMA_RESUME (13 R268, R273). -/
def execDmaResume (s : State) : Host.Outcome State Fault Refusal :=
  .next <| serve (channelSpec 0xF04)
    (fun c s => onChannel c s fun ch _ =>
      if (s.dma ch).state = .paused then
        (s.modDma ch fun d =>
          { d with state := if d.resume = .none then .running else .waiting, reason := d.resume, resume := .none }, ok [])
      else (s, refuse .refusedState 0)) s

/-- DMA_STOP (13 R273); ERROR_ALIGN is left only by a new start (R266). -/
def execDmaStop (s : State) : Host.Outcome State Fault Refusal :=
  .next <| serve (channelSpec 0xF05)
    (fun c s => onChannel c s fun ch _ =>
      if (s.dma ch).state = .errorAlign then (s, ok [])
      else if outstanding s ch then (s.modDma ch fun d => { d with stopping := true }, .wait (.dmaStop ch))
      else (stopChannel ch s, ok [])) s

/-- DMA_STOPPED (13 R273). -/
def execDmaStopped (channel : Fin 32) (s : State) : Host.Outcome State Fault Refusal :=
  .next <| if (s.dma channel).stopping && !outstanding s channel then stopChannel channel s else s

def DmaState.code : DmaState → Nat
  | .stopped => 0
  | .running => 1
  | .waiting => 2
  | .pausing => 3
  | .paused => 4
  | .errorAlign => 5
  | .errorBeat => 6
  | .errorTail => 7

def WaitReason.code : WaitReason → Nat
  | .none => 0
  | .event => 1
  | .capture => 2
  | .request => 3
  | .budget => 4

/-- Branches left to the LOOP that branched last; 0 for one without limit (13 R274). -/
def DmaCh.loopLeft (d : DmaCh) : Nat :=
  match d.loops with
  | (n, taken) :: _ => dIter (d.program.getD n 0) - taken
  | [] => 0

/-- An entry of DMA_STATUS (13 R274). -/
def dmaStatusEntry (s : State) (n : Nat) : List Byte :=
  match unit 32 n with
  | none => padTo 64 []
  | some c =>
    let d := s.dma c
    let e := dmaEntry s c
    padTo 64 (
      word (d.state.code + d.reason.code * 2 ^ 4 + d.pc % 256 * 2 ^ 8 + atBit 16 e.host + atBit 17 e.provSafe) ++
      word d.flags.now.toNat ++ toLe 8 d.src ++ toLe 8 d.dst ++ word d.count ++
      word (d.loopLeft + d.errDesc % 256 * 2 ^ 16) ++ toLe 8 d.moved.toNat ++ toLe 8 d.errDst ++ word d.withdrawn.toNat ++
      word (d.badCrc.toNat + d.overrun.toNat * 2 ^ 16) ++ toLe 8 (d.flags.occWord 0 7))

/-- Clears the flags that a mask names, and the counters of a channel (13 R274). -/
def dmaClear (n mask : Nat) (s : State) : State :=
  match unit 32 n with
  | some c => s.modDma c fun d => { d with flags := d.flags.statusClear mask, withdrawn := 0, badCrc := 0, overrun := 0 }
  | none => s

/-- DMA_STATUS (13 R274). -/
def execDmaStatus (s : State) : Host.Outcome State Fault Refusal :=
  .next <| serve (statusSpec 0xF06 10) (statusBody 32 64 (fun _ => []) dmaStatusEntry dmaClear) s

end Sys2Proof.Machine
end

