-- ==== Sys2Proof/Machine/Archive.lean ====
section
/-! DEFINITION. The NVMe archives: volumes, appends, attaching and detaching, NVMe completions and doorbells (09 R179 to
R184; 12 R241). -/

namespace Sys2Proof.Machine

/-! Moves that begin anew. -/

/-- An ARCHIVE move whose append has ended begins anew with the next: its capture's tiles are all to be read again (12 R241,
13 R261). -/
def rewindMove (j : Append) (s : State) : State :=
  match findCap s j.stream j.id with
  | none => s
  | some (r, _, k) =>
    s.modDma j.channel fun d =>
      match d.moves.find? fun m => m.serial = j.move with
      | none => d
      | some m =>
        let seqs := (r.heldTiles k).map (·.seq)
        let left := if dLength m.desc = 0 then seqs else seqs.take (dLength m.desc / 4096)
        let d := d.modMove m.serial fun m =>
          { m with
            issuedAll := left.isEmpty, waiting := 0, serial := d.serial
            capture := m.capture.map fun x => { x with left := left } }
        let d : DmaCh := { d with
          serial := d.serial + 1, src := dSrc m.desc, dst := dDst m.desc, count := 4096 * left.length
          pc := if left.isEmpty then m.num + 1 else m.num }
        if d.state = .running ∨ d.state = .waiting then { d with state := .waiting, reason := .request } else d

/-- The append of an archive is given up, and its move begins anew with the next. -/
def abandonAppend (a : Fin 16) (s : State) : State :=
  match (archiveOf s a).job with
  | some j => (rewindMove j s).modArchive a fun v => { v with job := none }
  | none => s

/-! The firmware's own accesses to a drive (12 R241): admin commands, and reads and writes of single tiles, each complete before
the next (log entry 62: DESIGN CHOICE). -/

/-- Admin commands of the firmware to the drive of a sub-link, by opcode. -/
def adminCmds (p sub : Fin 4) (ops : List Nat) (s : State) : State :=
  ops.foldl (fun s op => emitOut (.nvmeAdmin p.val sub.val op) s) s

/-- A queue pair is created for an archive: the completion queue, then the submission queue; it is empty. -/
def createQueues (a : Fin 16) (p sub : Fin 4) (s : State) : State :=
  (adminCmds p sub [0x05, 0x01] s).modArchive a fun v => { v with placed := [], newPlaced := 0, tail := 0, done := 0 }

/-- The queue pair of an archive is deleted. -/
def deleteQueues (p sub : Fin 4) (s : State) : State := adminCmds p sub [0x00, 0x04] s

/-- I/O commands of one tile each that the firmware issues, by opcode: 1 Write, 2 Read. -/
def tileCmds (a : Fin 16) (p sub : Fin 4) (opcode : Nat) (tiles : List Nat) (s : State) : State :=
  let per := 4096 / max (vget s.down.drives (driveAt p sub)).lbaSize 1
  tiles.foldl (fun s t => emitOut (.nvmeCommand p.val sub.val a.val opcode (t * per) per) s) s

/-! Tiles of a drive. -/

def readDrive (s : State) (i : Fin 16) (tile : Nat) : List Byte := memRead (vget s.down.drives i).data (tile * 4096) 4096

def writeDrive (i : Fin 16) (tile : Nat) (bs : List Byte) (s : State) : State :=
  s.modDrive i fun d => { d with data := memWrite d.data (tile * 4096) bs }

/-- A tile with the right magic and CRC32C (09 R182). -/
def archTileOk (t : List Byte) : Bool := tileGood t && decide (ofLe (t.take 4) = 0xB5A10640)

def archKind (t : List Byte) : Nat := ofLe ((t.drop 4).take 1) % 16
def archAux (t : List Byte) : Nat := ofLe ((t.drop 48).take 8)

/-- A field of a tile's payload. -/
def archField (t : List Byte) (off n : Nat) : Nat := ofLe ((t.drop (64 + off)).take n)

/-- The volume header payload (09 R179). -/
def volPayload (v : ArchiveRt) : List Byte :=
  toLe 4 1 ++ toLe 4 v.lbaSize ++ toLe 8 v.nsTiles ++ toLe 8 16 ++ toLe 8 (atBit 0 v.wrapMode) ++ timeBytes v.created ++
  toLe 4 v.volumeId.toNat ++ toLe 8 v.checkpointIndex ++ toLe 8 v.wrapCount ++ toLe 8 v.append

/-- A checkpoint of an archive on a drive (09 R179): CHECKPOINT_SEQ is the one given. -/
def writeHeader (i : Fin 16) (v : ArchiveRt) (s : State) : State :=
  let pos := v.checkpointSeq % 2
  let h := tileHeader 4 0 false (nodeId s) pos 0 0 (now s) (epochNum (epochAt s (now s))) 0 v.checkpointSeq
  writeDrive i pos (sealTile h (volPayload v)) s

/-- The firmware writes a checkpoint (09 R179). -/
def checkpoint (a : Fin 16) (s : State) : State :=
  let s := s.modArchive a fun v => { v with checkpointSeq := v.checkpointSeq + 1, sinceCheckpoint := 0 }
  let v := archiveOf s a
  writeHeader (driveOf s a) v (tileCmds a v.port v.sub 1 [v.checkpointSeq % 2] s)

/-- The valid volume header that governs (09 R179): of two, the one with the higher CHECKPOINT_SEQ. -/
def govHeader (s : State) (i : Fin 16) : Option (List Byte) :=
  let ok := fun t : List Byte => archTileOk t && archKind t = 4
  let a := readDrive s i 0
  let b := readDrive s i 1
  match ok a, ok b with
  | true, true => some (if archAux a < archAux b then b else a)
  | true, false => some a
  | false, true => some b
  | false, false => none

/-! Commands. -/

/-- The drive of a sub-link can serve an archive: PCIe mode, link up, inside the subset (09 R184, 12 R241). -/
def driveUsable (s : State) (p sub : Fin 4) : Bool :=
  let q := downPort s p
  pcieMode q.mode.val && decide (sub.val < modeSubs q.mode.val) && vget q.linkUp sub && !vget q.unsupported sub

/-- Another archive is attached to the sub-link. -/
def attachedElse (s : State) (a : Fin 16) (p sub : Fin 4) : Bool :=
  (List.finRange 16).any fun b =>
    let v := archiveOf s b
    b ≠ a && v.attached && v.port = p && v.sub = sub

/-- The archive, port and sub-link that a request names. -/
def archiveArgs (c : Cmd) (f : Fin 16 → Fin 4 → Fin 4 → State × Verdict) (s : State) : State × Verdict :=
  match unit 16 (c.u 0 1), unit 4 (c.u 1 1), unit 4 (c.u 2 1) with
  | none, _, _ => (s, bad 0)
  | _, none, _ => (s, bad 1)
  | _, _, none => (s, bad 2)
  | some a, some p, some sub => f a p sub

/-- The checks that ARCHIVE_FORMAT and ARCHIVE_ATTACH share (09 R184, 12 R241). -/
def archiveRefused (s : State) (p sub : Fin 4) : Option Verdict :=
  let lba := (vget s.down.drives (driveAt p sub)).lbaSize
  if !driveUsable s p sub then some (refuse .refusedState 0)
  else if lba ≠ 512 ∧ lba ≠ 4096 then some (bad 1)
  else none

/-- The drive is formatted as a new volume (09 R179). -/
def formatDrive (a : Fin 16) (p sub : Fin 4) (wrap : Bool) (id : Nat) (s : State) : State :=
  let i := driveAt p sub
  let dr := vget s.down.drives i
  let seq := ((govHeader s i).map fun t => archAux t + 1).getD 0
  let v : ArchiveRt :=
    { ArchiveRt.reset with
      port := p, sub := sub, lbaSize := dr.lbaSize, nsTiles := dr.nsTiles, wrapMode := wrap, created := now s
      volumeId := BitVec.ofNat 32 id, checkpointSeq := seq }
  let cur := archiveOf s a
  let own := cur.attached && cur.port = p && cur.sub = sub
  let s := if own then abandonAppend a s else adminCmds p sub [0x05, 0x01] s
  let s := tileCmds a p sub 2 [0, 1] s
  let s := s.modDrive i fun d => { d with data := memWrite d.data (2 * 4096) (List.replicate (14 * 4096) 0) }
  let s := writeHeader i v (tileCmds a p sub 1 ((List.range 14).map (· + 2) ++ [seq % 2]) s)
  -- an archive that is attached to this drive goes on with the new volume, on its queue pair
  if own then s.modArchive a fun x =>
    { v with attached := true, placed := x.placed, newPlaced := x.newPlaced, tail := x.tail, done := x.done }
  else deleteQueues p sub s

/-- ARCHIVE_FORMAT (09 R179, R184). -/
def execArchiveFormat (s : State) : Host.Outcome State Fault Refusal :=
  .next <| serve (fixedSpec 0x0705 (some 6) [whole 1, whole 1, whole 1, whole 1, whole 4])
    (fun c s => archiveArgs c (fun a p sub =>
      if 1 < c.u 3 1 then (s, bad 3)
      else match (if attachedElse s a p sub then some (refuse .refusedState 0) else archiveRefused s p sub) with
        | some v => (s, v)
        | none =>
          (formatDrive a p sub (c.u 3 1 = 1) (c.u 4 4) s, ok (toLe 8 (vget s.down.drives (driveAt p sub)).nsTiles))) s) s

/-- The end of the log from a tile on (09 R182): the tile at which the reading stops, APPEND_TILE, ARCHIVE_SEQ of the last index tile with its place, and the
index tiles found. `n` bounds the tiles to read. -/
def scanLog (s : State) (i : Fin 16) : Nat → Nat → Nat → Int → Option Nat → Nat → Nat × Nat × Int × Option Nat × Nat
  | 0, pos, run, seq, last, found => (pos, run, seq, last, found)
  | n + 1, pos, run, seq, last, found =>
    let t := readDrive s i pos
    if !archTileOk t then (pos, run, seq, last, found)
    else if archKind t = 1 then scanLog s i n (pos + 1) run seq last found
    else if archKind t = 3 && (archAux t : Int) = seq + 1 && archField t 0x40 8 = run then
      scanLog s i n (pos + 1) (pos + 1) (seq + 1) (some pos) (found + 1)
    else (pos, run, seq, last, found)

/-- The archive that a volume header and its log give, and the tiles of the log that have been read for it (09 R179, R182). -/
def openVolume (s : State) (p sub : Fin 4) (h : List Byte) : ArchiveRt × List Nat :=
  let i := driveAt p sub
  let ci := archField h 0x30 8
  let ns := archField h 0x08 8
  let start := archField h 0x40 8
  let seq0 : Int := if ci = 0 then -1 else archAux (readDrive s i ci)
  let (stop, run, seq, last, found) := scanLog s i (ns - start) start start seq0 (if ci = 0 then none else some ci) 0
  let read := (if ci = 0 then [] else [ci]) ++ (List.range (min (stop + 1) ns - start)).map (start + ·)
  let v : ArchiveRt :=
    { attached := true, port := p, sub := sub, lbaSize := archField h 0x04 4, nsTiles := ns, wrapMode := archField h 0x18 1 = 1
      created := ofTime96 (archField h 0x20 12), volumeId := BitVec.ofNat 32 (archField h 0x2C 4)
      checkpointSeq := archAux h, checkpointIndex := last.getD 0, wrapCount := archField h 0x38 8, append := run
      seq := if seq < 0 then none else some seq.toNat, prevIndex := last.getD (2 ^ 64 - 1), sinceCheckpoint := found
      job := none, full := false, placed := [], newPlaced := 0, tail := 0, done := 0 }
  (v, read)

/-- ARCHIVE_ATTACH (09 R182, R184). -/
def execArchiveAttach (s : State) : Host.Outcome State Fault Refusal :=
  .next <| serve (fixedSpec 0x0706 (some 6) [whole 1, whole 1, whole 1])
    (fun c s => archiveArgs c (fun a p sub =>
      match archiveRefused s p sub with
      | some v => (s, v)
      | none =>
        match govHeader s (driveAt p sub) with
        | none => (s, refuse .crcFail 0)
        | some h =>
          let (v, read) := openVolume s p sub h
          let s := tileCmds a p sub 2 ([0, 1] ++ read) (createQueues a p sub (abandonAppend a s))
          (s.modArchive a fun _ => v, ok (toLe 8 v.append ++ toLe 8 v.wrapCount))) s) s

/-- ARCHIVE_DETACH (09 R179, R184). -/
def execArchiveDetach (s : State) : Host.Outcome State Fault Refusal :=
  .next <| serve (fixedSpec 0x0707 (some 6) [whole 1])
    (fun c s =>
      match unit 16 (c.u 0 1) with
      | none => (s, bad 0)
      | some a =>
        let v := archiveOf s a
        if v.job.isSome then (s, refuse .busyRunning 0)
        else if v.attached then
          (deleteQueues v.port v.sub ((checkpoint a s).modArchive a fun v => { v with attached := false, placed := [], newPlaced := 0 }), ok [])
        else (s, ok [])) s

/-! Appends. -/

/-- The archive's drive can be reached, and its queues in near memory. -/
def archiveLink (s : State) (a : Fin 16) : Bool :=
  let v := archiveOf s a
  v.attached && driveUsable s v.port v.sub && locked s 3 && locked s 4 && engines s

/-- The channel and move that hand a capture to an archive (13 R262): it waits for the appender, and has no append yet. -/
def handedMove (s : State) (a : Fin 16) : Option (Fin 32 × OpenMove) :=
  (List.finRange 32).findSome? fun c =>
    let d := s.dma c
    (d.moves.getLast?.filter fun m =>
      (d.state = .running || d.state = .waiting) && !d.stopping && dDstSpace m.desc = 9 && archiveIdx m.desc = a &&
        m.capture.isSome && !m.indexed).map fun m => (c, m)

/-- The tiles that a move appends: nothing has been read yet. -/
def moveTiles (m : OpenMove) : Nat := ((m.capture.map fun x => x.left.length).getD 0)

/-- The tiles of an append are reserved, after a wrap where they do not fit and the mode is WRAP; in STOP the archive is full
(09 R180). -/
def reserve (a : Fin 16) (c : Fin 32) (m : OpenMove) (s : State) : State :=
  let v := archiveOf s a
  let need := moveTiles m + 1
  let start := fun s : State => s.modArchive a fun v =>
    { v with
      job := m.capture.map fun x =>
        let entry := ((findCap s x.stream x.id).map fun y => (y.1.entry y.2.2, y.2.2.trigIndex)).getD ([], 0)
        { stream := x.stream, slot := x.slot, id := x.id, channel := c, move := m.serial, first := v.append, count := moveTiles m
          written := 0, pending := 0, bad := [], entry := entry.1, trig := entry.2, flushed := false, indexed := false } }
  if v.full && !v.wrapMode then s
  else if v.append + need ≤ v.nsTiles then start s
  else if v.wrapMode ∧ 16 + need ≤ v.nsTiles then
    start (checkpoint a (s.modArchive a fun v => { v with append := 16, wrapCount := v.wrapCount + 1 }))
  else if v.full then s
  else postEvent 0x8007 0 6 a.val v.append 0 (s.modArchive a fun v => { v with full := true })

/-- Where the appender's aperture shows an archive tile (12 R241, log entry 62: DESIGN CHOICE). -/
def apertureAt (a : Fin 16) (tile : Nat) : Nat := a.val * 2 ^ 48 + tile * 4096

/-- A submission-queue entry in the form of NVMe (12 R241, log entry 62: DESIGN CHOICE): opcode, command identifier, namespace 1, the
PRP entries of the data, first LBA and count less one. -/
def sqEntry (a : Fin 16) (slot opcode tile count per : Nat) : List Byte :=
  let prp2 := if count < 2 then 0 else if count = 2 then apertureAt a (tile + 1) else prpAt a slot
  let io := toLe 8 (apertureAt a tile) ++ toLe 8 prp2 ++ toLe 8 (tile * per) ++ toLe 4 (count * per - 1)
  padTo 64 (toLe 2 opcode ++ toLe 2 slot ++ toLe 4 1 ++ toLe 8 0 ++ toLe 8 0 ++ (if count = 0 then [] else io))

/-- The PRP list of a command: the places of its data after the first tile. -/
def prpList (a : Fin 16) (tile count : Nat) : List Byte :=
  (List.range (count - 1)).flatMap fun n => toLe 8 (apertureAt a (tile + 1 + n))

/-- A command is placed in the archive's submission queue (12 R241). -/
def place (a : Fin 16) (opcode tile count : Nat) (s : State) : State :=
  let v := archiveOf s a
  let per := 4096 / max v.lbaSize 1
  let slot := (v.tail + v.newPlaced) % 1024
  let s := nearPut (sqAt a + 64 * slot) (sqEntry a slot opcode tile count per) (nearPut (prpAt a slot) (prpList a tile count) s)
  let s := s.modArchive a fun v =>
    { v with placed := v.placed ++ [{ slot := slot, opcode := opcode, tile := tile, count := count }], newPlaced := v.newPlaced + 1 }
  emitOut (.nvmeCommand v.port.val v.sub.val a.val opcode (tile * per) (count * per)) s

/-- The next step of an append (09 R180, 13 R262): a Write command of at most 32 tiles with a pulse of the doorbell line; once
all are complete, the flush, where the drive has a volatile write cache; then the index tile. -/
def appendStep (a : Fin 16) (j : Append) (line : Nat) (s : State) : State :=
  let cache := (vget s.down.drives (driveOf s a)).volatileCache
  let setJob := fun (f : Append → Append) (s : State) => s.modArchive a fun v => { v with job := v.job.map f }
  if j.written < j.count then
    let n := min 32 (j.count - j.written)
    let s := place a 1 (j.first + j.written) n s
    pulseOpt (some line) (setJob (fun j => { j with written := j.written + n, pending := j.pending + 1 }) s)
  else if 0 < j.pending then s
  else if cache && !j.flushed then ringDoorbell a (setJob (fun j => { j with pending := 1 }) (place a 0 0 0 s))
  else if j.indexed then s
  else ringDoorbell a (setJob (fun j => { j with pending := 1, indexed := true }) (place a 1 (j.first + j.count) 1 s))

/-- The append goes on: a paused channel's submits nothing (13 R268); Write commands follow the channel's move while that issues
reads, and what comes after them, once all are placed, does not depend on it. -/
def feeds (s : State) (j : Append) : Bool :=
  let d := s.dma j.channel
  d.state ≠ .pausing && d.state ≠ .paused && !d.stopping && (decide (j.count ≤ j.written) || d.state = .running || d.state = .waiting)

/-- The line of a channel's current ARCHIVE move. -/
def jobLine (s : State) (j : Append) : Nat :=
  (((s.dma j.channel).moves.find? fun m => m.serial = j.move).map fun m => dLine m.desc).getD 0

/-- ARCHIVE_APPEND (09 R180): the appender takes its next step. -/
def execArchiveAppend (archive : Fin 16) (s : State) : Host.Outcome State Fault Refusal :=
  .next <|
    if !archiveLink s archive then s
    else
      let v := archiveOf s archive
      match v.job with
      | some j => if feeds s j && decide (v.placed.length < 1023) then appendStep archive j (jobLine s j) s else s
      | none =>
        match handedMove s archive with
        | some (c, m) => if v.placed.isEmpty then reserve archive c m s else s
        | none => s

/-- A capture entry with further tiles counted in BAD_CRC, which saturates (09 R181, R182). -/
def entryWithBad (entry : List Byte) (n : Nat) : List Byte :=
  entry.take 12 ++ toLe 2 (min 65535 (ofLe ((entry.drop 12).take 2) + n)) ++ entry.drop 14

/-- The index tile of an append (09 R181): the entry that the program handed over, with the bad tiles that this append has
found. -/
def indexTile (s : State) (a : Fin 16) (j : Append) : List Byte :=
  let v := archiveOf s a
  let tile := j.first + j.count
  let listed := j.bad.take 493
  let payload := entryWithBad j.entry (j.bad.filter (·.2 = 1)).length ++ toLe 8 j.first ++ toLe 8 v.prevIndex ++ toLe 8 listed.length ++
    listed.flatMap fun b => toLe 6 b.1 ++ toLe 2 b.2
  sealTile (tileHeader 3 j.stream.val false (nodeId s) (tile % 2 ^ 48) 0 j.trig (now s) (epochNum (epochAt s (now s))) 0
    ((v.seq.map (· + 1)).getD 0)) payload

/-- The index tile is written: the capture is archived, and its move is complete (09 R179, R180, 13 R258). -/
def indexDone (a : Fin 16) (j : Append) (s : State) : State :=
  let tile := j.first + j.count
  let s := writeDrive (driveOf s a) tile (indexTile s a j) s
  let s := s.modArchive a fun v =>
    { v with
      append := tile + 1, seq := some ((v.seq.map (· + 1)).getD 0), prevIndex := tile, checkpointIndex := tile
      sinceCheckpoint := v.sinceCheckpoint + 1, job := none }
  let s := s.modDma j.channel fun d => d.modMove j.move fun m => { m with indexed := true }
  let s := s.modDma j.channel fun d => if d.waitsFor = .request ∧ d.current.isNone then d.wake else d
  if 64 ≤ (archiveOf s a).sinceCheckpoint then checkpoint a s else s

/-- The data of a Write command have been fetched and answered. -/
def dataFetched (s : State) (a : Fin 16) (k : NvmeCmd) : Bool :=
  match (archiveOf s a).job with
  | none => true
  | some j =>
    decide (j.first + j.count ≤ k.tile) ||
      (match (s.dma j.channel).moves.find? fun m => m.serial = j.move with
       | some m => decide (k.tile + k.count ≤ j.first + (tilesRead j.count m - m.waiting))
       | none => true)

/-- A command completes without error. -/
def commandDone (a : Fin 16) (k : NvmeCmd) (s : State) : State :=
  let s := completeCmd a k true s
  match (archiveOf s a).job with
  | none => s
  | some j =>
    if k.opcode = 0 then s.modArchive a fun v => { v with job := some { j with pending := j.pending - 1, flushed := true } }
    else if k.tile = j.first + j.count then indexDone a j s
    else s.modArchive a fun v => { v with job := some { j with pending := j.pending - 1 } }

/-- A Flush that ends with an error: the index tile is not written, as after a Write's error (09 R180). -/
def flushError (a : Fin 16) (k : NvmeCmd) (s : State) : State :=
  let tile := ((archiveOf s a).job.map fun j => j.first + j.count).getD 0
  appendError a tile (completeCmd a k false s)

/-- NVME_COMPLETION (09 R180, 13 R269): of the command that the drive took first. -/
def execNvmeCompletion (archive : Fin 16) (ok : Bool) (s : State) : Host.Outcome State Fault Refusal :=
  .next <|
    match (archiveOf s archive).submitted.head? with
    | none => s
    | some k =>
      if !archiveLink s archive || (k.opcode = 1 && !dataFetched s archive k) then s
      else if ok then commandDone archive k s
      else if k.opcode = 0 then flushError archive k s
      else writeError archive k s

/-- NVME_DOORBELL (13 R262, R272): a pulse of the archive's doorbell line leaves its crossing. -/
def execNvmeDoorbell (archive : Fin 16) (s : State) : Host.Outcome State Fault Refusal :=
  .next <|
    match s.down.crossings.find? fun e => e.1.2 = .doorbell archive && decide (0 < e.2) with
    | some e =>
      (match takeCrossing e.1.1 (.doorbell archive) s with
       | some s => ringDoorbell archive s
       | none => s)
    | none => s

end Sys2Proof.Machine
end

