-- ==== Sys2Proof/Machine/Caldera.lean ====
section
/-! DEFINITION. Caldera: column reduction, increments, render ticks with region conditions, frames (10 R186 to R198). -/

namespace Sys2Proof.Machine

def planeRt (s : State) (c : Fin 2) : PlaneRt := vget s.caldera.planes c

/-! Outputs and rasters. -/

def outRt (s : State) (o : Fin 2) : OutputRt := vget s.caldera.outputs o

/-- DP0 and DP1 form one raster (10 R203). -/
def tiled (s : State) : Bool := (outRt s 0).mode.any (·.tiled)

/-- The output whose timing and base registers govern an output (10 R203, R204). -/
def lead (s : State) (o : Fin 2) : Fin 2 := if tiled s then 0 else o

/-- The outputs of a raster. -/
def members (s : State) (o : Fin 2) : List (Fin 2) := if tiled s then [0, 1] else [o]

/-- The timing mode of an output. -/
def modeNow (s : State) (o : Fin 2) : Option DispMode := (outRt s (lead s o)).mode

/-- A raster runs. -/
def rasterRuns (s : State) (o : Fin 2) : Bool := (members s o).any fun i => (outRt s i).running

/-! Column maps. -/

/-- `n` entries of 32 bits of a table of a bank's table store. -/
def table32 (b : Bank) (ref n : Nat) : List Nat :=
  match tableAt ref with
  | some a => (List.range n).map fun i => memLe b.tables (a + 4 * i) 4
  | none => []

/-- A view's column map (10 R188). -/
def columnMap (b : Bank) (v : ViewE) : List Nat := table32 b v.colmapRef v.binCount

def mFirst (e : Nat) : Nat := bits 11 0 e
def mLast (e : Nat) : Nat := bits 23 12 e
def mSkip (e : Nat) : Bool := bit 31 e

/-- The row of a level (10 R189). -/
def rowOf (e : CalderaE) (l : Int) : Nat := (max 0 (min 4095 (sar ((l - e.rowBase) * e.rowGain) 16))).toNat

/-- Lowest and highest level per column, columns rising: what bin by bin adds to it. -/
def reduceBin (acc : List (Nat × Int × Int)) (c : Nat) (l : Int) : List (Nat × Int × Int) :=
  match acc with
  | [] => [(c, l, l)]
  | (k, lo, hi) :: t =>
    if k = c then (k, min lo l, max hi l) :: t
    else if c < k then (c, l, l) :: (k, lo, hi) :: t
    else (k, lo, hi) :: reduceBin t c l

/-- The increments of a spectrum (10 R189): columns rising, at most two per column used. -/
def increments (e : CalderaE) (map : List Nat) (ls : List Int) : List (Nat × Nat) :=
  let cols := (map.zip ls).foldl (fun acc m =>
    if mSkip m.1 then acc
    else (List.range (mLast m.1 + 1 - mFirst m.1)).foldl (fun acc n => reduceBin acc (mFirst m.1 + n) m.2) acc) []
  cols.flatMap fun c =>
    let lo := rowOf e c.2.1
    let hi := rowOf e c.2.2
    (c.1, lo) :: (if hi = lo then [] else [(c.1, hi)])

/-- The plane that a view feeds. -/
def ViewE.plane (v : ViewE) : Option (Fin 2) := if v.caldera = 0 then none else unit 2 (v.caldera - 1)

/-- Increments enter the queue of a plane, of 524,288; those that find it full are dropped (10 R190). -/
def pushIncrements (c : Fin 2) (xs : List (Nat × Nat)) (s : State) : State :=
  s.modPlane c fun p =>
    let room := 524288 - p.queue.length
    let lost := xs.length - room
    { p with
      queue := p.queue ++ xs.take room
      incDropped := satAdd p.incDropped lost
      flags := (List.range lost).foldl (fun f _ => f.raise 1) p.flags }

/-- A spectrum of a view that feeds the same plane was dispatched before, and the plane has not taken it yet (05 R85, 10 R190). -/
def planeFirst (s : State) (c : Fin 2) (x : Spectrum) : Bool :=
  let feeds := fun (b : Fin 2) (v : Fin 64) => ((planIn s b).view v.val).plane = some c
  let waiting := (List.finRange 64).any fun v =>
    (s.view v).calQ.any fun y => decide (y.order < x.order) && feeds y.bank v
  let inArray := s.plains.pipes.toList.any fun o => o.any fun y =>
    decide (y.order < x.order) && feeds y.bank y.view && (y.row || !((planIn s y.bank).view y.view.val).fourStep)
  !waiting && !inArray

/-- CALDERA_REDUCE (10 R189, R190): a plane takes a view's next spectrum, in the order of dispatch. -/
def execCalderaReduce (view : Fin 64) (s : State) : Host.Outcome State Fault Refusal :=
  .next <|
    match (s.view view).calQ with
    | [] => s
    | x :: rest =>
      if !dclk s then s
      else
        let bk := s.bank x.bank
        let v := bk.plan.view view.val
        let taken := s.modView view fun r => { r with calQ := rest }
        match v.plane with
        | none => taken
        | some c =>
          if !planeFirst s c x then s
          else if x.excludedBy v.calExclude then taken.modPlane c fun p => { p with excluded := satAdd p.excluded 1 }
          else pushIncrements c (increments (bk.plan.planeOf c.val) (columnMap bk v) (logBins s x 0 (x.bins.length - 1))) taken

/-- One more in a cell, up to 65,535; and whether the cell was full (10 R186). -/
def countUp (k : Nat) : Cells → Cells × Bool
  | [] => ([(k, 1)], false)
  | (q, n) :: t =>
    if q = k then (if n = BitVec.allOnes 16 then ((q, n) :: t, true) else ((q, n + 1) :: t, false))
    else if k < q then ((k, 1) :: (q, n) :: t, false)
    else let r := countUp k t; ((q, n) :: r.1, r.2)

/-- CALDERA_INCREMENT (10 R186, R190, R193): the oldest queued increment reaches its cell. -/
def execCalderaIncrement (plane : Fin 2) (s : State) : Host.Outcome State Fault Refusal :=
  .next <|
    match (planeRt s plane).queue with
    | [] => s
    | (col, row) :: rest =>
      if !dclk s then s
      else s.modPlane plane fun p =>
        let r := countUp (4096 * row + col) p.cells
        { p with queue := rest, cells := r.1, flags := if r.2 then p.flags.raise 0 else p.flags }

/-! Render ticks. -/

/-- The next tick of a plane in the running epoch, as a station time (10 R191). -/
def nextTick (s : State) (c : Fin 2) : Option Nat :=
  let e := (planNow s).planeOf c.val
  let i := (planeRt s c).ticksDone
  match s.plans.epoch with
  | none => none
  | some k =>
    if !e.present then none
    else if 1 < e.tickM then (if k % e.tickM = 0 ∧ i = 0 then some (boundaryTime s k) else none)
    else if i < e.tickN then some (boundaryTime s k + i * (s.params.epochPeriod * 1000) / max e.tickN 1 * Config.nsUnits)
    else none

/-- The count of a cell. -/
def cellAt (cs : Cells) (row col : Nat) : Nat := ((cs.find? (·.1 = 4096 * row + col)).map (·.2.toNat)).getD 0

/-- The sum of a region, saturating (07 R134). -/
def regionSum (cs : Cells) (r : RegionE) : Nat :=
  let inside := cs.filter fun x =>
    decide (r.rowFirst ≤ x.1 / 4096 ∧ x.1 / 4096 ≤ r.rowLast ∧ r.colFirst ≤ x.1 % 4096 ∧ x.1 % 4096 ≤ r.colLast)
  min (2 ^ 32 - 1) (inside.map (·.2.toNat)).sum

/-- The conditions of the regions of a plane at a tick (07 R134 to R136; 10 R194). -/
def regionConds (c : Fin 2) (tick : Nat) (cs : Cells) (s : State) : State :=
  (List.range 16).foldl (fun s n =>
    let r := (planNow s).region n
    if r.present ∧ r.plane = c.val ∧ r.threshold ≤ regionSum cs r then condEvent (256 + n) tick none s else s) s

/-- What a sweep writes back (10 R193). -/
def decayCells (e : CalderaE) (clear : Bool) (cs : Cells) : Cells :=
  if clear then []
  else match e.decayMode with
    | 0 => []
    | 1 => cs.filterMap fun x =>
        let v := x.2.toNat * e.decayF / 2 ^ 16
        if v = 0 then none else some (x.1, BitVec.ofNat 16 v)
    | _ => cs

/-! Frames. -/

/-- The place of a count in the colour table (10 R195). -/
def colourIdx (v : Nat) : Nat :=
  if v < 256 then v
  else
    let e := v.log2
    256 + (e - 8) * 32 + v / 2 ^ (e - 5) % 32

/-- A frame is 10 bits deep, or its chroma is 4:2:2 (20 R395). -/
def frameTen (format : Nat) : Bool := format = 2 || format = 3
def frame422 (format : Nat) : Bool := format = 1 || format = 3

/-- Luma and the two chroma components of a frame pixel, at the frame's depth (10 R195, R196). -/
def pixelOf (colours : List Nat) (ten : Bool) (cs : Cells) (x y : Nat) : Nat × Nat × Nat :=
  let cut := fun v : Nat => if ten then v else v / 4
  if mSkip x || mSkip y then (cut 64, cut 512, cut 512)
  else
    let v := (cs.filter fun c =>
      decide (mLast y ≤ c.1 / 4096 ∧ c.1 / 4096 ≤ mFirst y ∧ mFirst x ≤ c.1 % 4096 ∧ c.1 % 4096 ≤ mLast x)).foldl
        (fun m c => max m c.2.toNat) 0
    let e := colours.getD (colourIdx v) 0
    (cut (bits 9 0 e), cut (bits 19 10 e), cut (bits 29 20 e))

/-- Samples of a row as bytes: one each at 8 bits, four in 5 bytes at 10 (10 R197). -/
def packRow (ten : Bool) (xs : List Nat) : List Byte :=
  if ten then
    (List.range ((xs.length + 3) / 4)).flatMap fun g =>
      toLe 5 (((List.range 4).map fun k => xs.getD (4 * g + k) 0 * 2 ^ (10 * k)).sum)
  else xs.map (BitVec.ofNat 8)

/-- The mean of some samples, rounded. -/
def meanOf (xs : List Nat) : Nat := (xs.sum + xs.length / 2) / max xs.length 1

/-- A row of chroma samples from the pixel rows that share it (10 R196). -/
def chromaRow (width : Nat) (rows : List (List (Nat × Nat × Nat))) : List Nat :=
  (List.range (width / 2)).flatMap fun i =>
    let ps := rows.flatMap fun r => [r.getD (2 * i) default, r.getD (2 * i + 1) default]
    [meanOf (ps.map (·.2.1)), meanOf (ps.map (·.2.2))]

/-- The chroma plane's offset from the base address (10 R197). -/
def chromaOffset (width height : Nat) (ten : Bool) : Nat :=
  ceilDiv (height * (if ten then width * 5 / 4 else width)) 4096 * 4096

/-- Luma and chroma planes of a frame. -/
def frameBytes (bk : Bank) (e : CalderaE) (cs : Cells) : List Byte × List Byte :=
  let ten := frameTen e.format
  let xs := table32 bk e.xMapRef e.frameW
  let ys := table32 bk e.yMapRef e.frameH
  let colours := table32 bk e.colourRef 512
  let rows := ys.map fun y => xs.map fun x => pixelOf colours ten cs x y
  let chroma :=
    if frame422 e.format then rows.map fun r => chromaRow e.frameW [r]
    else (List.range (e.frameH / 2)).map fun i => chromaRow e.frameW [rows.getD (2 * i) [], rows.getD (2 * i + 1) []]
  (rows.flatMap fun r => packRow ten (r.map (·.1)), chroma.flatMap (packRow ten))

/-- The output, or the pair's first, that shows a plane. -/
def targetOf (e : CalderaE) : Option (Fin 2) :=
  match e.target with
  | 1 | 3 => some 0
  | 2 => some 1
  | _ => none

/-- A buffer's frame. -/
def frameRef (e : CalderaE) (c : Fin 2) (b : Fin 4) : FrameRef :=
  { plane := c, buf := b, addr := e.bufs.getD b.val 0, width := e.frameW, height := e.frameH, format := e.format }

/-- A buffer of the running plan changes its role (10 R198): the buffer at the frame's address. A frame of buffers that a flip has
replaced has none. -/
def setRole (r : FrameRef) (x : BufRole) (s : State) : State :=
  (List.finRange 2).foldl (fun s c =>
    let e := (planNow s).planeOf c.val
    s.modPlane c fun p =>
      { p with roles := Vector.ofFn fun b => if e.present && e.bufs.getD b.val 0 = r.addr then x else vget p.roles b }) s

/-- A buffer becomes FREE. -/
def freeFrame (r : Option FrameRef) (s : State) : State :=
  match r with
  | some r => emitOut (.bufferFreed r.plane.val r.addr) (setRole r .free s)
  | none => s

/-- A render's base address reaches the scan-out (10 R198, R204): an older frame in SHADOW is replaced; after the close of the
window the write is late. -/
def baseWrite (o : Fin 2) (r : FrameRef) (s : State) : State :=
  let x := outRt s o
  let late := rasterRuns s o && (outRt s (lead s o)).closed
  let s := match x.shadow with
    | some old =>
      (freeFrame (some old) s).modPlane old.plane fun p =>
        { p with replaced := satAdd p.replaced 1, flags := p.flags.raise 3 }
    | none => s
  let s := setRole r .shadow s
  s.modOutput o fun x =>
    { x with
      shadow := some r, shadowNew := true
      late := if late then satAdd x.late 1 else x.late
      flags := if late then x.flags.raise 0 else x.flags }

/-- The base write of a plane that is on its way: the output and the frame. -/
def rendering (s : State) (c : Fin 2) : Option (Fin 2 × FrameRef) := (planeRt s c).flight

/-- The base write of a plane's rendered frame arrives. -/
def landFrame (c : Fin 2) (s : State) : State :=
  match rendering s c with
  | some (o, r) => baseWrite o r (s.modPlane c fun p => { p with flight := none })
  | none => s

/-- The earlier frame of a plane as the next pass begins: its base write has arrived, or, where a PLL holds it back, the frame is
given up for the next (log entry 63: DESIGN CHOICE). -/
def clearFlight (c : Fin 2) (s : State) : State :=
  if locked s 3 && locked s 5 then landFrame c s
  else freeFrame ((rendering s c).map (·.2)) (s.modPlane c fun p => { p with flight := none })

/-- The frame of a render is written to the lowest-numbered FREE buffer (10 R192, R198). -/
def renderFrame (c : Fin 2) (cs : Cells) (s : State) : State :=
  let e := (planNow s).planeOf c.val
  match targetOf e, (List.finRange 4).find? fun b => vget (planeRt s c).roles b = .free with
  | some o, some b =>
    match bankNow s with
    | none => s
    | some k =>
      let (luma, chroma) := frameBytes (s.bank k) e cs
      let a := e.bufs.getD b.val 0
      let s := nearPut (a + chromaOffset e.frameW e.frameH (frameTen e.format)) chroma (nearPut a luma s)
      s.modPlane c fun p => { p with roles := vset p.roles b .rendering, renderBuf := b, flight := some (o, frameRef e c b) }
  | _, _ => s

/-- RENDER_TICK (10 R191 to R198): core 1 issues the next tick within 20 us, and the pass runs; what it writes to near memory
waits there while MCLK is gated (21 R418). -/
def execRenderTick (plane : Fin 2) (s : State) : Host.Outcome State Fault Refusal :=
  .next <|
    let e := (planNow s).planeOf plane.val
    match nextTick s plane with
    | none => s
    | some t =>
      if !dclk s || !firmware s || now s < t || t + 20 * Config.usUnits < now s then s
      else
        let s := clearFlight plane s
        let cs := (planeRt s plane).cells
        let s := regionConds plane t cs s
        let s := renderFrame plane cs s
        s.modPlane plane fun p =>
          { p with
            cells := decayCells e (p.clearPending || p.flipClear) p.cells
            clearPending := false, flipClear := false, renders := p.renders + 1, ticksDone := p.ticksDone + 1 }

/-- A tick that was not issued (10 R192). -/
def missTick (c : Fin 2) (s : State) : State :=
  s.modPlane c fun p =>
    { p with ticksDone := p.ticksDone + 1, ticksMissed := satAdd p.ticksMissed 1, flags := p.flags.raise 2 }

/-- TICKS_MISSED (10 R192). -/
def execTicksMissed (plane : Fin 2) (s : State) : Host.Outcome State Fault Refusal :=
  .next <|
    match nextTick s plane with
    | some t => if engines s && decide (t + 20 * Config.usUnits < now s) then missTick plane s else s
    | none => s

/-- FRAME_BASE_WRITE (10 R192, R204): the base address that a render of the output's plane has sent arrives. -/
def execFrameBaseWrite (output : Fin 2) (s : State) : Host.Outcome State Fault Refusal :=
  .next <|
    match (List.finRange 2).find? fun c => (rendering s c).any fun x => x.1 = output with
    | some c => if engines s && locked s 3 && locked s 5 then landFrame c s else s
    | none => s

/-! An epoch boundary and a flip. -/

/-- At a boundary the ticks of the ended epoch that were not issued are missed (10 R192). -/
def closeTicks (s : State) : State :=
  (List.finRange 2).foldl (fun s c =>
    let e := (planNow s).planeOf c.val
    let due := match s.plans.epoch with
      | some k => if !e.present then 0 else if 1 < e.tickM then (if k % e.tickM = 0 then 1 else 0) else e.tickN
      | none => 0
    let s := (List.range (due - (planeRt s c).ticksDone)).foldl (fun s _ => missTick c s) s
    s.modPlane c fun p => { p with ticksDone := 0 }) s

/-- What each view of a bank shows on a plane. -/
def planeMaps (s : State) (b : Fin 2) (c : Fin 2) : List (Nat × List Nat) :=
  ((planIn s b).viewsOf.filter fun v => v.2.plane = some c).map fun v => (v.1, columnMap (s.bank b) v.2)

/-- The role of the buffer at an address: what scan-out and the render hold of it (10 R198). -/
def roleAt (s : State) (a : Nat) : BufRole :=
  let holds := fun f : OutputRt → Option FrameRef => s.caldera.outputs.toList.any fun x => (f x).any fun r => r.addr = a
  if holds (·.active) then .active
  else if holds (·.latch) then .latched
  else if holds (·.shadow) then .shadow
  else if s.caldera.planes.toList.any fun p => p.flight.any fun x => x.2.addr = a then .rendering
  else .free

/-- A flip reaches the planes (10 R187, R193): one whose rows or column maps change clears at its next sweep; the buffers of the
new entry have the roles in which scan-out and the render still hold their addresses. -/
def calderaFlip (old : Option (Fin 2)) (new : Fin 2) (s : State) : State :=
  let s := (List.finRange 2).foldl (fun s c =>
    let e := (planIn s new).planeOf c.val
    s.modPlane c fun p => { p with roles := Vector.ofFn fun b => if e.present then roleAt s (e.bufs.getD b.val 0) else .free }) s
  match old with
  | none => s
  | some o =>
    (List.finRange 2).foldl (fun s c =>
      let a := (planIn s o).planeOf c.val
      let b := (planIn s new).planeOf c.val
      let rows := a.rowBase ≠ b.rowBase || a.rowGain ≠ b.rowGain || planeMaps s o c ≠ planeMaps s new c
      s.modPlane c fun p => { p with flipClear := p.flipClear || rows }) s

/-! Commands. -/

/-- CALDERA_CLEAR (10 R208). -/
def execCalderaClear (s : State) : Host.Outcome State Fault Refusal :=
  .next <| serve (fixedSpec 0x0805 (some 7) [whole 1])
    (fun c s =>
      match activeBank s, unit 2 (c.u 0 1) with
      | none, _ => (s, refuse .notReady 0)
      | _, none => (s, bad 0)
      | some b, some p =>
        if (planIn s b).viewsOf.any fun v => v.2.plane = some p then
          (s.modPlane p fun x => { x with clearPending := true }, ok [])
        else (s, bad 0)) s

/-- An entry of CALDERA_STATUS (10 R209). -/
def calderaEntry (s : State) (n : Nat) : List Byte :=
  match unit 2 n with
  | none => padTo 32 []
  | some c =>
    let p := planeRt s c
    let fed := (planNow s).viewsOf.any fun v => v.2.plane = some c
    let state := if (rendering s c).isSome then 2 else if fed then 1 else 0
    let shown := (((List.finRange 4).find? fun b => vget p.roles b = .active).map (·.val)).getD 0
    word (state + atBit 2 (p.clearPending || p.flipClear) + shown * 2 ^ 3 + p.renderBuf.val * 2 ^ 5) ++
    word p.flags.now.toNat ++ toLe 8 p.renders.toNat ++ word p.incDropped.toNat ++
    word (p.ticksMissed.toNat + p.replaced.toNat * 2 ^ 16) ++ word (p.flags.occWord 0 4) ++ word p.excluded.toNat

/-- Clears the flags that a mask names, and the counters of a plane (10 R209). -/
def calderaClearStatus (n mask : Nat) (s : State) : State :=
  match unit 2 n with
  | some c => s.modPlane c fun p =>
      { p with flags := p.flags.statusClear mask, incDropped := 0, ticksMissed := 0, replaced := 0, excluded := 0 }
  | none => s

/-- CALDERA_STATUS (10 R209). -/
def execCalderaStatus (s : State) : Host.Outcome State Fault Refusal :=
  .next <| serve (statusSpec 0x0806 7) (statusBody 2 32 (fun _ => []) calderaEntry calderaClearStatus) s

end Sys2Proof.Machine
end

