-- ==== Sys2Proof/Machine/Display.lean ====
section
/-! DEFINITION. Scan-out and the DisplayPort outputs (10 R199 to R210). -/

namespace Sys2Proof.Machine

/-- Every member of a raster changes. -/
def modMembers (o : Fin 2) (f : OutputRt → OutputRt) (s : State) : State :=
  (members s o).foldl (fun s i => s.modOutput i f) s

/-- Payload of a DisplayPort lane in Mb/s by link rate: 8b/10b at 1.62, 2.7, 5.4 and 8.1 Gb/s (10 R199; log entry 16: PRESUMED). -/
def dpLaneMbps (rate : Nat) : Nat := [1296, 2160, 4320, 6480].getD rate 0

/-- The trained link carries PCLKn x 3 x BPC (10 R207). -/
def carries (x : OutputRt) (m : DispMode) : Bool :=
  decide (m.pclkKhz * 1000 * 3 * (if m.bpc10 then 10 else 8) ≤ x.lanes * dpLaneMbps x.linkRate * 10 ^ 6)

/-! Pixels. -/

/-- Sample `k` of a row of bytes from an address on (10 R197). -/
def sampleOf (near : Memory) (ten : Bool) (row k : Nat) : Nat :=
  if ten then memLe near (row + k / 4 * 5) 5 / 2 ^ (10 * (k % 4)) % 2 ^ 10 else (memGet near (row + k)).toNat

/-- The conversion of a pixel to full-range RGB (10 R200). -/
def toRgb (ten : Bool) (y cb cr : Nat) : Nat × Nat × Nat :=
  let o : Int := if ten then 64 else 16
  let m : Int := if ten then 512 else 128
  let top : Int := if ten then 1023 else 255
  let yy := 19077 * ((y : Int) - o)
  let b := (cb : Int) - m
  let r := (cr : Int) - m
  let clamp := fun v : Int => (max 0 (min top (sar (v + 8192) 14))).toNat
  (clamp (yy + 29372 * r), clamp (yy - 3494 * b - 8731 * r), clamp (yy + 34610 * b))

/-- Pixel (x, y) of a frame in near memory (10 R197, R200). -/
def framePixel (near : Memory) (r : FrameRef) (x y : Nat) : Nat × Nat × Nat :=
  let ten := frameTen r.format
  let bytes := if ten then r.width * 5 / 4 else r.width
  let chroma := r.addr + chromaOffset r.width r.height ten + (if frame422 r.format then y else y / 2) * bytes
  let at_ := sampleOf near ten
  toRgb ten (at_ (r.addr + y * bytes) x) (at_ chroma (x / 2 * 2)) (at_ chroma (x / 2 * 2 + 1))

/-- Bytes from the start of a frame's luma plane to the end of its chroma plane (10 R197). -/
def FrameRef.span (r : FrameRef) : Nat :=
  let ten := frameTen r.format
  chromaOffset r.width r.height ten +
    (if frame422 r.format then r.height else r.height / 2) * (if ten then r.width * 5 / 4 else r.width)

/-- The pixels that an output sends in a frame (10 R202, R203, R205): a test pattern replaces them all (19 R388); what an
underrun leaves is black. -/
def sentFrame (s : State) (o : Fin 2) (m : DispMode) : List (Nat × Nat × Nat) :=
  let x := outRt s o
  let pattern := vget s.params.testPattern (lead s o)
  let top := if m.bpc10 then 1023 else 255
  let left := if tiled s && o = 1 then m.hActive else 0
  let active := (outRt s (lead s o)).active
  let near := (active.map fun r => nearFor s 0 r.addr r.span).getD []
  (List.range (m.hActive * m.vActive)).map fun n =>
    let px := n % m.hActive
    let py := n / m.hActive
    if x.abortAt.any fun a => decide (a ≤ n) then (0, 0, 0)
    else if pattern = 3 then (top, top, top)
    else if pattern ≠ 0 then Config.testPixel pattern m.hActive m.vActive px py
    else match active with
      | some r => if left + px < r.width ∧ py < r.height then framePixel near r (left + px) py else (0, 0, 0)
      | none => (0, 0, 0)

/-- The frame that ends has left every running output of the raster. -/
def sendFrame (o : Fin 2) (s : State) : State :=
  match modeNow s o with
  | none => s
  | some m =>
    let sent := (members s o).foldl (fun s i =>
      if (outRt s i).running then emitOut (.frame i.val m.hActive (sentFrame s i m)) s else s) s
    match (outRt s (lead s o)).active with
    | some r => nearTaken 0 r.addr r.span sent
    | none => sent

/-! The raster. -/

/-- The size of the frame that is scanned differs from the active size (10 R202). -/
def mismatch (s : State) (o : Fin 2) : Bool :=
  match modeNow s o, (outRt s (lead s o)).active with
  | some m, some r => decide (r.width ≠ (if tiled s then 2 * m.hActive else m.hActive) ∨ r.height ≠ m.vActive)
  | _, _ => false

/-- A pending test pattern takes its frame start (19 R386). -/
def takePattern (o : Fin 2) (s : State) : State :=
  let p := s.params
  match vget p.patternPending o with
  | some (v, false) =>
    { s with params := { p with testPattern := vset p.testPattern o v, patternPending := vset p.patternPending o none } }
  | some (v, true) => { s with params := { p with patternPending := vset p.patternPending o (some (v, false)) } }
  | none => s

/-- LATCH becomes ACTIVE (10 R204). -/
def promote (o : Fin 2) (s : State) : State :=
  let i := lead s o
  let x := outRt s i
  match x.latch with
  | none => s
  | some r =>
    let s := freeFrame x.active s
    setRole r .active (s.modOutput i fun x => { x with active := some r, latch := none })

/-- SHADOW, if it is new, becomes LATCH (10 R204). -/
def latchShadow (o : Fin 2) (s : State) : State :=
  let i := lead s o
  let x := outRt s i
  match x.shadow with
  | some r =>
    if x.shadowNew then
      let s := freeFrame x.latch s
      setRole r .latched (s.modOutput i fun x => { x with latch := some r, shadow := none, shadowNew := false })
    else s
  | none => s

/-- An output of the raster joins it, where its link carries the mode (10 R203). -/
def joinRaster (i : Fin 2) (s : State) : State :=
  if (outRt s i).joins then
    match modeNow s i with
    | some m => s.modOutput i fun x =>
        { x with joins := false, running := x.hpd && carries x m, state := if x.hpd && carries x m then .running else x.state }
    | none => s.modOutput i fun x => { x with joins := false }
  else s

/-- A frame starts (10 R204, R210), for every output of the raster alike (R203). -/
def startFrame (o : Fin 2) (s : State) : State :=
  let s := (members s o).foldl (fun s i => joinRaster i s) s
  let s := (members s o).foldl (fun s i => takePattern i s) (promote o s)
  let s := modMembers o (fun x => { x with abortAt := none, closed := false, frames := if x.running then x.frames + 1 else x.frames }) s
  (members s o).foldl (fun s i => s.modOutput i fun x => { x with sizeMismatch := mismatch s i }) s

/-- The raster of an output starts at line 0, where its link carries the mode; else it sends the idle pattern (10 R207,
R208). -/
def startOutput (i : Fin 2) (s : State) : State :=
  match modeNow s i with
  | none => s
  | some m =>
    s.modOutput i fun x =>
      if x.hpd && carries x m then { x with state := .running, running := true, resume := false, stopAtEnd := false }
      else if x.hpd then { x with state := .linkInsufficient, running := false }
      else { x with resume := true, running := false }

/-- An output whose pair has a frame under way joins at the next frame start; else its raster starts, with no frame before it. -/
def enterRaster (i : Fin 2) (s : State) : State :=
  if rasterRuns s i then
    match modeNow s i with
    | some m => s.modOutput i fun x =>
        if carries x m then { x with joins := true, resume := false, stopAtEnd := false, state := .training }
        else { x with state := .linkInsufficient }
    | none => s
  else startOutput i s

/-- A raster restarts at a frame start with the newest frame (10 R206, R207). -/
def restartRaster (o : Fin 2) (s : State) : State :=
  let had := rasterRuns s o
  let s := enterRaster o s
  if had || !rasterRuns s o then s else startFrame o (latchShadow o s)

/-- A mode that waited for the frame's end is the output's mode, since the raster stands. -/
def settleMode (o : Fin 2) (s : State) : State :=
  s.modOutput o fun x => { x with mode := x.newMode.or x.mode, newMode := none }

/-- The outputs whose waiting mode bears on an output's raster (10 R203, R207): its members', and a tiled one of DP0. -/
def changers (s : State) (o : Fin 2) : List (Fin 2) :=
  (List.finRange 2).filter fun i =>
    (outRt s i).newMode.isSome && ((members s o).contains i || (i = 0 && (outRt s 0).newMode.any (·.tiled)))

/-- A waiting mode changes the timing of an output's raster: it is that of the raster's lead, or makes a pair. -/
def retimes (s : State) (o : Fin 2) : Bool := (changers s o).any fun i => i = lead s o || i = 0

/-- Modes that wait on an output's raster are settled, once no output that they bear on runs. -/
def settleModes (o : Fin 2) (s : State) : State :=
  let ready := fun i : Fin 2 =>
    let touched := if (outRt s i).newMode.any (·.tiled) then [0, 1] else members s i
    touched.all fun k => !(outRt s k).running
  ((changers s o).filter ready).foldl (fun s i => settleMode i s) s

/-- The raster ends with its active lines for a change of mode (10 R207): an output that is to stop does so. -/
def beginChange (o : Fin 2) (s : State) : State :=
  let s := modMembers o (fun x =>
    { x with
      state := if x.running then (if x.stopAtEnd then .off else .modeChange) else x.state
      resume := (x.running && !x.stopAtEnd) || x.resume
      running := false, joins := false, stopAtEnd := false, closed := false }) (sendFrame o s)
  if (members s o).any fun i => (outRt s i).state = .modeChange then s else settleModes o s

/-- FRAME_WINDOW_CLOSE (10 R204, R207): at the start of the last active line; a mode change that waits for the frame's end
begins. -/
def execFrameWindowClose (output : Fin 2) (s : State) : Host.Outcome State Fault Refusal :=
  .next <|
    if !engines s || lead s output ≠ output || !rasterRuns s output || (outRt s output).closed || !locked s 5 then s
    else
      let s := latchShadow output s
      let s := modMembers output (fun x => { x with closed := true }) s
      if retimes s output then beginChange output s
      -- the mode of a pair's second output is kept for later: DP0's fields govern (R203)
      else (changers s output).foldl (fun s i => settleMode i s) s

/-- FRAME_START (10 R202, R204, R208): the frame before has been sent; a raster that is to stop does so. -/
def execFrameStart (output : Fin 2) (s : State) : Host.Outcome State Fault Refusal :=
  .next <|
    if !engines s || lead s output ≠ output || !rasterRuns s output || !(outRt s output).closed || !locked s 5 then s
    else
      let s := sendFrame output s
      if (members s output).any fun i => (outRt s i).stopAtEnd then
        modMembers output (fun x =>
          { x with
            running := false, joins := false, stopAtEnd := false, closed := false, abortAt := none
            state := if x.running then .off else x.state }) s
      else startFrame output s

/-- SCANOUT_UNDERRUN (10 R205): the pixel is due and its data has not arrived. -/
def execScanoutUnderrun (output : Fin 2) (pixel : Nat) (s : State) : Host.Outcome State Fault Refusal :=
  .next <|
    let x := outRt s output
    if engines s && x.running && x.abortAt.isNone && (outRt s (lead s output)).active.isSome then
      s.modOutput output fun x =>
        { x with abortAt := some pixel, underrun := satAdd x.underrun 1, flags := x.flags.raise 1 }
    else s

def OutState.code : OutState → Nat
  | .off => 0
  | .training => 1
  | .running => 2
  | .modeChange => 3
  | .hpdLost => 4
  | .linkInsufficient => 5

/-- The sink is unplugged (10 R206); a stop that waited for the frame's end has come, and a mode is settled that waits for no other
output. -/
def unplug (o : Fin 2) (s : State) : State :=
  let s := s.modOutput o fun x =>
    { x with
      hpd := false, state := .hpdLost, lanes := 0, linkRate := 0
      resume := x.resume || ((x.running || x.joins) && !x.stopAtEnd), running := false, joins := false, stopAtEnd := false
      abortAt := none, closed := x.closed && tiled s, flags := x.flags.raise 2 }
  let s := if (members s o).any fun i => (outRt s i).state = .modeChange then s else settleModes o s
  postEvent 0x800A 0 7 o.val OutState.hpdLost.code 0 s

/-- HPD is high again: the link is trained, and a raster that ran restarts (10 R206). -/
def plug (o : Fin 2) (rate lanes : Nat) (s : State) : State :=
  let s := s.modOutput o fun x =>
    { x with hpd := true, linkRate := rate, lanes := lanes, state := if lanes = 0 then .training else .off }
  if (outRt s o).resume then restartRaster o s else s

/-- A short pulse: the link is retrained where the sink has lost it (10 R206). -/
def retrain (o : Fin 2) (rate lanes : Nat) (s : State) : State :=
  let s := s.modOutput o fun x =>
    { x with linkRate := rate, lanes := lanes, retrains := satAdd x.retrains 1, flags := x.flags.raise 2 }
  match modeNow s o with
  | none => s
  | some m =>
    s.modOutput o fun x =>
      if x.running && !carries x m then
        { x with state := .linkInsufficient, running := false, resume := !x.stopAtEnd, stopAtEnd := false }
      else x

/-- HPD_CHANGE (10 R199, R206). -/
def execHpdChange (output : Fin 2) (event : Hpd) (s : State) : Host.Outcome State Fault Refusal :=
  .next <|
    let x := outRt s output
    if !firmware s || s.dev.state = .fault then s
    else match event with
      | .low => if x.hpd then unplug output s else s
      | .pulse linkOk rate lanes => if x.hpd && !linkOk then retrain output rate lanes s else s
      | .back rate lanes => if x.hpd then s else plug output rate lanes s

/-- MODE_CHANGE_DONE (10 R207): the PLL is reprogrammed and the link retrained; not before every raster that the new mode changes
has ended. -/
def execModeChangeDone (output : Fin 2) (rate lanes : Nat) (s : State) : Host.Outcome State Fault Refusal :=
  .next <|
    let x := outRt s output
    let waits := (changers s output).any fun i =>
      (if (outRt s i).newMode.any (·.tiled) then [0, 1] else members s i).any fun k => (outRt s k).running
    if !firmware s || x.state ≠ .modeChange || waits then s
    else
      restartRaster output (settleModes output (s.modOutput output fun x => { x with linkRate := rate, lanes := lanes, state := .off }))

/-! Commands. -/

/-- The timing mode that a request spells (19 R375). -/
def modeOf (c : Cmd) : DispMode :=
  { bpc10 := c.u 1 1 = 10, hPol := bit 0 (c.u 2 1), vPol := bit 1 (c.u 2 1), tiled := bit 2 (c.u 2 1), pclkKhz := c.u 4 4
    hActive := c.u 8 2, hFp := c.u 10 2, hSync := c.u 12 2, hBp := c.u 14 2, vActive := c.u 16 2, vFp := c.u 18 2
    vSync := c.u 20 2, vBp := c.u 22 2 }

/-- The plane that an output shows under the running plan has frames of another depth (10 R201). -/
def depthBad (s : State) (o : Nat) (m : DispMode) : Bool :=
  (activeBank s).any fun b =>
    (outputPlane (planIn s b) o).any fun c => frameTen ((planIn s b).planeOf c).format ≠ m.bpc10

/-- The payload offset of the first field that breaks a limit (10 R201). -/
def modeBad (s : State) (c : Cmd) : Option Nat :=
  let m := modeOf c
  if 1 < c.u 0 1 then some 0
  else if c.u 1 1 ≠ 8 ∧ c.u 1 1 ≠ 10 then some 1
  else if depthBad s (c.u 0 1) m then some 1
  else if m.pclkKhz < 25000 ∨ 594000 < m.pclkKhz then some 4
  else if m.hActive < 640 ∨ 3840 < m.hActive ∨ m.hActive % (if m.bpc10 then 256 else 64) ≠ 0 then some 8
  else if m.hFp + m.hSync + m.hBp < 64 then some 10
  else if m.vActive < 480 ∨ 2160 < m.vActive then some 16
  else if m.vFp + m.vSync + m.vBp < 8 then some 18
  else none

/-- The modes of both outputs with a new one for an output. -/
def modesWith (s : State) (o : Nat) (m : DispMode) (i : Nat) : Option DispMode :=
  let m0 := if o = 0 then some m else modesOf s 0
  if i = 0 then m0 else if m0.any (·.tiled) then m0 else if o = 1 then some m else (outRt s 1).newMode.or (outRt s 1).mode

/-- A change at the end of a frame has not completed, of an output that the new mode bears on (10 R208). -/
def changing (s : State) (o : Fin 2) (m : DispMode) : Bool :=
  let touched := if m.tiled || (outRt s 0).newMode.any (·.tiled) then [0, 1] else members s o
  touched.any fun i => (outRt s i).newMode.isSome || (outRt s i).state = .modeChange

/-- DISPLAY_MODE (10 R201, R207, R208). -/
def execDisplayMode (s : State) : Host.Outcome State Fault Refusal :=
  .next <| serve (fixedSpec 0x0801 (some 7) ([whole 1, whole 1, (1, 15), whole 4] ++ List.replicate 8 (whole 2)))
    (fun c s =>
      match modeBad s c, unit 2 (c.u 0 1) with
      | some x, _ => (s, bad x)
      | none, none => (s, bad 0)
      | none, some o =>
        let m := modeOf c
        let atEnd := bit 3 (c.u 2 1)
        let runs := rasterRuns s o || (m.tiled && rasterRuns s (1 - o))
        if runs && !atEnd then (s, refuse .busyRunning 0)
        else if changing s o m then (s, refuse .refusedState 0)
        else if (boundBanks s).any fun b =>
            decide (nearCeiling < nearLoad (planIn s b) (modesWith s o.val m) s.params.epochPeriod) then
          (s, refuse .budgetExceeded 5)
        else
          let s := s.modOutput o fun x => if runs then { x with newMode := some m } else { x with mode := some m }
          (bumpGen true s, ok [])) s

/-- The output that a request names. -/
def onOutput (c : Cmd) (s : State) (f : Fin 2 → State × Verdict) : State × Verdict :=
  match unit 2 (c.u 0 1) with
  | some o => f o
  | none => (s, bad 0)

/-- DISPLAY_START (10 R208). -/
def execDisplayStart (s : State) : Host.Outcome State Fault Refusal :=
  .next <| serve (fixedSpec 0x0802 (some 7) [whole 1])
    (fun c s => onOutput c s fun o =>
      let x := outRt s o
      if x.running then (s, refuse .refusedState 0)
      else if !x.hpd then (s, refuse .notReady 0)
      else match modeNow s o with
        | none => (s, refuse .refusedState 0)
        | some m =>
          if carries x m then
            let had := rasterRuns s o
            if had then (enterRaster o s, ok [])
            else
              (startFrame o ((members s o).foldl (fun s i => if (outRt s i).hpd then startOutput i s else s) s), ok [])
          else (s.modOutput o fun x => { x with state := .linkInsufficient }, refuse .refusedState 0)) s

/-- DISPLAY_STOP (10 R208). -/
def execDisplayStop (s : State) : Host.Outcome State Fault Refusal :=
  .next <| serve (fixedSpec 0x0803 (some 7) [whole 1])
    (fun c s => onOutput c s fun o =>
      if rasterRuns s o then (modMembers o (fun x => { x with stopAtEnd := true }) s, ok [])
      else (s, ok [])) s

/-- DISPLAY_EDID (10 R208): what the sink's EDID holds. -/
def execDisplayEdid (edid : List Byte) (s : State) : Host.Outcome State Fault Refusal :=
  .next <| serve (fixedSpec 0x0804 none [whole 1])
    (fun c s => onOutput c s fun o =>
      if (outRt s o).hpd then (s, ok (padTo 256 edid)) else (s, refuse .notReady 0)) s

/-- An entry of DISPLAY_STATUS (10 R210). -/
def displayEntry (s : State) (n : Nat) : List Byte :=
  match unit 2 n with
  | none => padTo 32 []
  | some o =>
    let x := outRt s o
    word (x.state.code + atBit 3 x.hpd + atBit 4 (tiled s) + x.linkRate * 2 ^ 5 + x.lanes * 2 ^ 7 +
      atBit 10 ((modeNow s o).any (·.bpc10)) + atBit 11 x.sizeMismatch) ++
    word x.flags.now.toNat ++ toLe 8 x.frames.toNat ++ word x.underrun.toNat ++ word x.late.toNat ++
    word (x.flags.occWord 0 3) ++ word x.retrains.toNat

/-- Clears the flags that a mask names, and the counters of an output (10 R210). -/
def displayClear (n mask : Nat) (s : State) : State :=
  match unit 2 n with
  | some o => s.modOutput o fun x => { x with flags := x.flags.statusClear mask, underrun := 0, late := 0, retrains := 0 }
  | none => s

/-- DISPLAY_STATUS (10 R210). -/
def execDisplayStatus (s : State) : Host.Outcome State Fault Refusal :=
  .next <| serve (statusSpec 0x0807 7) (statusBody 2 32 (fun _ => []) displayEntry displayClear) s

end Sys2Proof.Machine
end

