-- ==== Sys2Proof/Machine/Host.lean ====
section
/-! DEFINITION. The two host ports: BAR0, mailbox slots and doorbells, semaphores, event ring, MSI-X, resets of a port,
the management target (18, 22 R431). -/

namespace Sys2Proof.Machine

/-! Registers. -/

def DevState.code : DevState → Nat
  | .boot => 0
  | .ready => 1
  | .watchdog => 2
  | .fault => 3
  | .suspended => 4

def SlotState.code : SlotState → Nat
  | .free => 0
  | .posted => 1
  | .executing => 2
  | .done => 3

/-- What a function tells of itself in PCIe configuration space, the same on both ports (00 R1). -/
structure PciIdentity where
  vendor    : Nat
  device    : Nat
  subsystem : Nat
  revision  : Nat
  classCode : Nat
  deriving DecidableEq, Repr

def pciIdentity (s : State) : PciIdentity :=
  { vendor := 0x1E7B, device := 0x1640, subsystem := if s.dev.is128 then 0x0128 else 0x0064, revision := 0x10
    classCode := 0x118000 }

/-- IDENT (18 R351). -/
def ident : Nat := 0x1E7B1640

/-- VERSION (18 R351). -/
def versionWord (s : State) : Nat :=
  Config.stepping + Config.fwMinor * 2 ^ 8 + Config.fwMajor * 2 ^ 16 + (if s.dev.is128 then 0x80 else 0x40) * 2 ^ 24

/-- FAULT_N is driven low: powered, and not READY (21 R421). -/
def faultLow (s : State) : Bool := s.dev.powered && s.dev.state ≠ .ready

/-- The firmware health behind the ALIVE output (18 R354, 21 R420). Log entry 34: DEDUCED, bit 3 of DEV_STATE is this
state, not the level of the square wave. -/
def healthy (s : State) : Bool :=
  s.dev.aliveRun && s.dev.state = .ready && vget s.dev.serviced 0 && vget s.dev.serviced 1

/-- DEV_STATE but for the bits that depend on the port (18 R354). -/
def devStateBase (s : State) : Nat :=
  s.dev.state.code + atBit 3 (healthy s) + atBit 4 (faultLow s) + atBit 6 s.host.tieToken

/-- The other port. -/
def peer (p : PortId) : PortId := if p = 0 then 1 else 0

/-- DEV_STATE on a port (18 R354). -/
def devStateWord (p : PortId) (s : State) : Nat :=
  devStateBase s + atBit 5 (p = 1) + atBit 7 (s.port (peer p)).linkUp

/-- The 64 bytes of an event entry (18 R367). -/
def EvEntry.bytes (e : EvEntry) : List Byte :=
  toLe 8 e.seq.toNat ++ toLe 2 e.code.toNat ++ toLe 2 (e.severity.toNat + e.domain.toNat * 16) ++
  toLe 4 e.arg0.toNat ++ toLe 8 e.arg1.toNat ++ toLe 8 e.arg2.toNat ++ timeBytes e.time ++ List.replicate 20 0

/-- What a 4-byte read at an offset of BAR0 returns, the effects of a read apart (18 R351). -/
def barWord (p : PortId) (off : Nat) (s : State) : Nat :=
  let h := s.port p
  if off = 0x00 then ident
  else if off = 0x04 then versionWord s
  else if off = 0x08 then devStateWord p s
  else if off = 0x0C then (portOwner p).code
  else if off = 0x10 then h.flags.now.toNat
  else if off = 0x14 then h.flags.occWord 0 4
  else if off = 0x1C then
    (List.finRange 16).foldl (fun x i => x + (vget h.slots i).state.code * 4 ^ i.val) 0
  else if off = 0x20 then h.evHead.toNat
  else if off = 0x24 then h.evTail.toNat
  else if off = 0x28 then h.evLost.toNat
  else if off = 0x2C then h.irqHoldoff.toNat
  else if off = 0x30 then h.flags.occWord 4 8
  else if 0x100 ≤ off ∧ off < 0x200 then
    match unit 64 ((off - 0x100) / 4) with
    | some i => ownerCode (semOwner s i)
    | none => 0
  else if 0x200 ≤ off ∧ off < 0x220 then
    (List.finRange 64).foldl (fun x i =>
      if i.val / 8 = (off - 0x200) / 4 then x + ownerCode (semOwner s i) * 16 ^ (i.val % 8) else x) 0
  else if 0x300 ≤ off ∧ off < 0x340 then
    match unit 16 ((off - 0x300) / 4) with
    | some i => if (vget s.records.rings i).isUp then (vget s.records.rings i).consumed.toNat else 0
    | none => 0
  else if 0x1000 ≤ off ∧ off < 0x3000 then
    match unit 128 ((off - 0x1000) / 64) with
    | some i => ofLe (((vget h.ring i).bytes.drop (off % 64)).take 4)
    | none => 0
  else if 0x4000 ≤ off ∧ off < 0x6000 then
    match unit 16 ((off - 0x4000) / 512) with
    | some i => memLe (vget h.slots i).bytes (off % 512) 4
    | none => 0
  else if 0x6000 ≤ off ∧ off < 0x6200 then
    match unit 32 ((off - 0x6000) / 16) with
    | some i =>
      let e := vget h.msix i
      if off % 16 = 0 then e.addr.toNat % 2 ^ 32 else if off % 16 = 4 then e.addr.toNat / 2 ^ 32
      else if off % 16 = 8 then e.data.toNat else e.ctrl.toNat
    | none => 0
  else if off = 0x7000 then h.pba.toNat
  else 0

/-- An offset that the map of 18 R351 assigns. -/
def assigned (off : Nat) : Bool :=
  off < 0x34 || (0x100 ≤ off && off < 0x220) || (0x300 ≤ off && off < 0x340) || (0x1000 ≤ off && off < 0x3000) ||
    (0x4000 ≤ off && off < 0x6200) || (0x7000 ≤ off && off < 0x7008)

/-- A legal access: 4 or 8 bytes wide and naturally aligned (18 R352). -/
def legalAccess (off width : Nat) : Bool := (width = 4 || width = 8) && off % width = 0

/-- The 4-byte words of an access with their offsets, in ascending order (18 R352). -/
def wordsOf (off : Nat) (wide : Bool) (value : U64) : List (Nat × U32) :=
  if wide then [(off, value.truncate 32), (off + 4, (value >>> 32).truncate 32)] else [(off, value.truncate 32)]

/-- The port answers accesses: its link is up. -/
def reachable (p : PortId) (s : State) : Bool := (s.port p).linkUp

/-! Mailbox. -/

/-- Posts a slot into the serial order, or refuses the doorbell (18 R356 to R358). -/
def post (p : PortId) (value : U32) (s : State) : State :=
  match unit 16 value.toNat with
  | none => raiseHost p .doorbellReject s
  | some i =>
    let sl := vget (s.port p).slots i
    if sl.state = .posted ∨ sl.state = .executing then raiseHost p .doorbellReject s
    else
      let len := memLe sl.bytes 8 2
      let c : Cmd :=
        { source := .slot p i, order := s.host.order, recorded := now s, seq := BitVec.ofNat 32 (memLe sl.bytes 0 4),
          code := BitVec.ofNat 16 (memLe sl.bytes 4 2), flags := BitVec.ofNat 16 (memLe sl.bytes 6 2),
          length := BitVec.ofNat 16 len, payload := memRead sl.bytes 0x20 (min len 480) }
      let s := s.modPort p fun h => { h with slots := vmod h.slots i fun sl => { sl with state := .posted } }
      { s with host := { s.host with order := s.host.order + 1, serial := s.host.serial ++ [c] } }

/-- The token that breaks the ties of this cycle: as it stood at the cycle's start (18 R358). -/
def tieNow (again : Bool) (s : State) : Bool := if again then !s.host.tieToken else s.host.tieToken

/-- At the end of a cycle that held a tie the token inverts, once (18 R358). -/
def endTie (again : Bool) (s : State) : State :=
  if again then s else { s with host := { s.host with tieToken := !s.host.tieToken } }

/-- DOORBELL (18 R356 to R358). `other` is the doorbell value that the other port writes in the same cycle, if it does;
`again` says that an earlier tie fell in the same cycle. -/
def execDoorbell (port : PortId) (value : U32) (other : Option U32) (again : Bool) (s : State) :
    Host.Outcome State Fault Refusal :=
  .next <|
    if !reachable port s then s
    else match other with
      | none => drain (post port value s)
      | some w =>
        if !reachable (peer port) s then drain (post port value s)
        else
          let va := if port = 0 then value else w
          let vb := if port = 0 then w else value
          let s' := if tieNow again s then post 0 va (post 1 vb s) else post 1 vb (post 0 va s)
          drain (endTie again s')

/-- The bits of a slot word that host software writes (18 R355). R355 gives the reserved bits [31:17] of offset 0x04 the access
RW and R357 refuses a command that sets them, so they are kept and read back as written (00 R8; log entry 66: DEDUCED). -/
def slotMask (off : Nat) : Nat :=
  if off % 512 < 8 ∨ 0x20 ≤ off % 512 then 2 ^ 32 - 1 else if off % 512 = 8 then 0xFFFF else 0

/-- A 4-byte write into a slot, ignored while it is POSTED or EXECUTING (18 R357). -/
def slotWrite4 (p : PortId) (off : Nat) (v : U32) (s : State) : State :=
  match unit 16 ((off - 0x4000) / 512) with
  | none => s
  | some i =>
    let sl := vget (s.port p).slots i
    if sl.state = .posted ∨ sl.state = .executing then raiseHost p .slotBusyWrite s
    else
      let old := memLe sl.bytes (off % 512) 4
      let m := slotMask off
      let new := (v.toNat &&& m) ||| (old &&& (2 ^ 32 - 1 - m))
      s.modPort p fun h =>
        { h with slots := vmod h.slots i fun sl => { sl with bytes := memWrite sl.bytes (off % 512) (toLe 4 new) } }

/-- SLOT_WRITE (18 R355, R357). -/
def execSlotWrite (port : PortId) (offset : Nat) (wide : Bool) (value : U64) (s : State) :
    Host.Outcome State Fault Refusal :=
  .next <|
    if reachable port s && decide (0x4000 ≤ offset ∧ offset < 0x6000) && legalAccess offset (if wide then 8 else 4) then
      (wordsOf offset wide value).foldl (fun s w => slotWrite4 port w.1 w.2 s) s
    else s

/-! Semaphores. -/

/-- One read of a semaphore by an owner: it acquires a free one (18 R362). -/
def acquire (o : Owner) (i : Fin 64) (s : State) : State :=
  match semOwner s i with
  | none => setSem i (some o) s
  | some _ => s

/-- The semaphores of one access: one, or two in an 8-byte access. -/
def semsOf (sem : Fin 64) (wide : Bool) : List (Fin 64) :=
  if wide then [sem] ++ ((unit 64 (sem.val + 1)).toList) else [sem]

/-- SEM_READ (18 R362, R363). Bit i of `other` says that the other port reads the i-th semaphore of the access in the
same cycle; `again` says that an earlier tie fell in the same cycle. -/
def execSemRead (port : PortId) (sem : Fin 64) (wide : Bool) (other : BitVec 2) (again : Bool) (s : State) :
    Host.Outcome State Fault Refusal :=
  .next <|
    if !reachable port s || (wide && sem.val % 2 = 1) then s
    else
      let sems := (semsOf sem wide).zip [0, 1]
      let tied := fun k => reachable (peer port) s && bit k other.toNat
      let first := if tieNow again s then 1 else 0
      let s' := sems.foldl (fun s e => acquire (if tied e.2 then portOwner first else portOwner port) e.1 s) s
      let codes := sems.map fun e => ownerCode (semOwner s' e.1) * 2 ^ (32 * e.2)
      let seen := (sems.filter fun e => tied e.2).map fun e => ownerCode (semOwner s' e.1) * 2 ^ (32 * e.2)
      let s' := s'.modPort port fun h => { h with lastRead := BitVec.ofNat 64 codes.sum }
      if sems.any (fun e => tied e.2) then
        endTie again (s'.modPort (peer port) fun h => { h with lastRead := BitVec.ofNat 64 seen.sum })
      else s'

/-- A write to a semaphore: the owner's releases it, any other is ignored (18 R362, R364). -/
def semWrite1 (p : PortId) (s : State) (i : Fin 64) : State :=
  if semOwner s i = some (portOwner p) then releaseSem i s else raiseHost p .semForeignWrite s

/-- SEM_WRITE (18 R362). -/
def execSemWrite (port : PortId) (sem : Fin 64) (wide : Bool) (s : State) : Host.Outcome State Fault Refusal :=
  .next <|
    if !reachable port s || (wide && sem.val % 2 = 1) then s else (semsOf sem wide).foldl (semWrite1 port) s

/-- SEM_ACQUIRE (18 R366): acts as a read at the decision. -/
def execSemAcquire (s : State) : Host.Outcome State Fault Refusal :=
  .next <| serve { fixedSpec 0x105 none [whole 1] with boot := fun _ => true } (fun c s =>
    match unit 64 (c.u 0 1) with
    | none => (s, bad 0)
    | some i =>
      let s := acquire c.source.owner i s
      (s, ok (toLe 1 (ownerCode (semOwner s i))))) s

/-- SEM_RELEASE (18 R366): the release follows the response; a pinned semaphore stays held (18 R364). -/
def execSemRelease (s : State) : Host.Outcome State Fault Refusal :=
  .next <| serve { fixedSpec 0x106 none [whole 1] with boot := fun _ => true } (fun c s =>
    match unit 64 (c.u 0 1) with
    | none => (s, bad 0)
    | some i =>
      if semOwner s i = some c.source.owner then (releaseSem i s, ok [])
      else (s, refuse .notOwner (ownerCode (semOwner s i)))) s

/-! Other registers. -/

/-- A write to the CONSUMED register of a ring: only the ring's own port may write it, and a ring that is not set up ignores
it (18 R353). -/
def consumedWrite4 (p : PortId) (ring : Fin 16) (v : U32) (s : State) : State :=
  let g := vget s.records.rings ring
  if !g.isUp then s
  else if g.port = p then s.modRecRing ring fun g => { g with consumed := v }
  else raiseHost p .consumedForeign s

/-- CONSUMED_WRITE (18 R353). -/
def execConsumedWrite (port : PortId) (ring : Fin 16) (value : U32) (s : State) : Host.Outcome State Fault Refusal :=
  .next <| if !reachable port s then s else consumedWrite4 port ring value s

/-- A write to EV_TAIL: ahead of EV_HEAD or behind its present value it is ignored (18 R368). -/
def evTailWrite4 (p : PortId) (v : U32) (s : State) : State :=
  let h := s.port p
  if v - h.evTail ≤ h.evHead - h.evTail then s.modPort p fun h => { h with evTail := v } else raiseHost p .tailInvalid s

/-- EV_TAIL_WRITE (18 R368). -/
def execEvTailWrite (port : PortId) (value : U32) (s : State) : Host.Outcome State Fault Refusal :=
  .next <| if !reachable port s then s else evTailWrite4 port value s

/-- A read of HOST_OCC or HOST_OCC2: four occurrence counters, read and cleared (18 R354). -/
def readOcc (p : PortId) (second : Bool) (s : State) : State :=
  let v := barWord p (if second then 0x30 else 0x14) s
  let keep := fun i : Fin 8 => if second then decide (i.val < 4) else decide (4 ≤ i.val)
  s.modPort p fun h =>
    { h with flags := { h.flags with occ := Vector.ofFn fun i => if keep i then vget h.flags.occ i else 0 }
             lastRead := BitVec.ofNat 64 v }

/-- HOST_OCC_READ (18 R354). -/
def execHostOccRead (port : PortId) (second : Bool) (s : State) : Host.Outcome State Fault Refusal :=
  .next <| if !reachable port s then s else readOcc port second s

/-- EV_LOST_READ (18 R368): read and cleared. -/
def execEvLostRead (port : PortId) (s : State) : Host.Outcome State Fault Refusal :=
  .next <|
    if !reachable port s then s
    else s.modPort port fun h => { h with lastRead := h.evLost.setWidth 64, evLost := 0 }

/-- Messages held pending whose vector and function are no longer masked are sent once (18 R370). -/
def sendPending (p : PortId) (s : State) : State :=
  (List.finRange 32).foldl (fun s v =>
    let h := s.port p
    if bit v.val h.pba.toNat && h.linkUp && h.msixEnable && !h.funcMask && !bit 0 (vget h.msix v).ctrl.toNat then
      emitOut (.msix p v) (s.modPort p fun h => { h with pba := h.pba &&& ~~~ BitVec.ofNat 32 (2 ^ v.val) })
    else s) s

/-- A 4-byte write into the MSI-X table; of the vector control only the mask bit is kept. -/
def msixWrite4 (p : PortId) (off : Nat) (v : U32) (s : State) : State :=
  match unit 32 ((off - 0x6000) / 16) with
  | none => s
  | some i => s.modPort p fun h => { h with msix := vmod h.msix i fun e =>
      if off % 16 = 0 then { e with addr := BitVec.ofNat 64 (e.addr.toNat / 2 ^ 32 * 2 ^ 32 + v.toNat) }
      else if off % 16 = 4 then { e with addr := BitVec.ofNat 64 (e.addr.toNat % 2 ^ 32 + v.toNat * 2 ^ 32) }
      else if off % 16 = 8 then { e with data := v }
      else { e with ctrl := v &&& 1 } }

/-- MSIX_TABLE_WRITE (18 R370). -/
def execMsixTableWrite (port : PortId) (offset : Nat) (wide : Bool) (value : U64) (s : State) :
    Host.Outcome State Fault Refusal :=
  .next <|
    if reachable port s && decide (0x6000 ≤ offset ∧ offset < 0x6200) && legalAccess offset (if wide then 8 else 4) then
      sendPending port ((wordsOf offset wide value).foldl (fun s w => msixWrite4 port w.1 w.2 s) s)
    else s

/-- UNMAPPED_ACCESS (18 R352): an access of illegal width or alignment sets the flag; of a legal one, each write to an
unassigned word does. A read returns 0 at an unassigned word; one of 8 bytes at 0x0030 reads and clears HOST_OCC2 too. -/
def execUnmappedAccess (port : PortId) (offset width : Nat) (write : Bool) (s : State) :
    Host.Outcome State Fault Refusal :=
  .next <|
    if !reachable port s then s
    else
      let s' := if write then s else s.modPort port fun h => { h with lastRead := 0 }
      if !legalAccess offset width then raiseHost port .unmapped s'
      else
        let words := ((wordsOf offset (width = 8) 0).filter fun w => !assigned w.1)
        if words.isEmpty then s
        else if write then words.foldl (fun s _ => raiseHost port .unmapped s) s'
        else if offset = 0x30 then readOcc port true s
        else s'

/-- A 4-byte write to any word of BAR0 by what stands there; a word that only reads ignores it, an unassigned one sets
UNMAPPED_SEEN (18 R351, R352, 00 R9). -/
def barWrite4 (p : PortId) (off : Nat) (v : U32) (s : State) : State :=
  if off = 0x10 then s.modPort p fun h => { h with flags := h.flags.clear v.toNat }
  else if off = 0x18 then drain (post p v s)
  else if off = 0x24 then evTailWrite4 p v s
  else if off = 0x2C then s.modPort p fun h => { h with irqHoldoff := v }
  else if 0x100 ≤ off ∧ off < 0x200 then
    match unit 64 ((off - 0x100) / 4) with
    | some i => semWrite1 p s i
    | none => s
  else if 0x300 ≤ off ∧ off < 0x340 then
    match unit 16 ((off - 0x300) / 4) with
    | some i => consumedWrite4 p i v s
    | none => s
  else if 0x4000 ≤ off ∧ off < 0x6000 then slotWrite4 p off v s
  else if 0x6000 ≤ off ∧ off < 0x6200 then sendPending p (msixWrite4 p off v s)
  else if assigned off then s
  else raiseHost p .unmapped s

/-- REGISTER_WRITE (00 R9): a legal write to an assigned offset. The registers that have a row of their own are written here
as that row writes them, so that each word of an 8-byte access has its effect (18 R352). -/
def execRegisterWrite (port : PortId) (offset : Nat) (wide : Bool) (value : U64) (s : State) :
    Host.Outcome State Fault Refusal :=
  .next <|
    if reachable port s && assigned offset && legalAccess offset (if wide then 8 else 4) then
      (wordsOf offset wide value).foldl (fun s w => barWrite4 port w.1 w.2 s) s
    else s

/-- EV_IRQ_HOLDOFF_EXPIRY (18 R370): one message announces the entries written meanwhile. -/
def execEvIrqHoldoffExpiry (port : PortId) (s : State) : Host.Outcome State Fault Refusal :=
  .next <|
    let h := s.port port
    let due := match h.lastV0 with
      | some t => decide (t + h.irqHoldoff.toNat * Config.usUnits ≤ now s)
      | none => true
    if h.v0Waiting && due then
      sendMsix port 0 (s.modPort port fun h => { h with v0Waiting := false, lastV0 := some (now s) })
    else s

/-- PCIE_CONFIG_WRITE (18 R350, R370). -/
def execPcieConfigWrite (port : PortId) (write : ConfigWrite) (s : State) : Host.Outcome State Fault Refusal :=
  .next <|
    if !reachable port s then s
    else match write with
      | .msixControl enable mask =>
        sendPending port (s.modPort port fun h => { h with msixEnable := enable, funcMask := mask })
      | .maxPayload b =>
        if b = 128 ∨ b = 256 ∨ b = 512 then s.modPort port fun h => { h with maxPayload := b } else s

/-! Resets and link of a port. -/

/-- The settings of a port that a reset returns to their reset values: slots, and the configuration that the PCIe
standard resets. -/
def HostPort.afterReset (h : HostPort) (linkUp : Bool) : HostPort :=
  { h with linkUp := linkUp, maxPayload := 128, msixEnable := false, funcMask := false
           slots := Vector.replicate 16 Slot.reset, msix := Vector.replicate 32 MsixEntry.reset, pba := 0 }

/-- What the loss of a port does (18 R365): its waiting commands are discarded, its semaphores are released. -/
def losePort (p : PortId) (linkUp : Bool) (s : State) : State :=
  let s := s.modPort p fun h => h.afterReset linkUp
  let mine := fun c : Cmd => match c.source with | .slot q _ => q = p | .tunnel _ _ => false
  let s := { s with host := { s.host with serial := s.host.serial.filter fun c => !mine c } }
  forceRelease (portOwner p) s

/-- HOST_PORT_RESET (18 R365): a Function Level Reset leaves the link up. -/
def execHostPortReset (port : PortId) (kind : PortReset) (s : State) : Host.Outcome State Fault Refusal :=
  .next <|
    if !reachable port s then s else drain (losePort port (kind = .functionLevelReset) s)

/-- The ports may train: from boot step 4 on, and while the XCLK PLL is locked (21 R413, R418, R422). -/
def portsAllowed (s : State) : Bool :=
  s.dev.powered && s.dev.porstN && !s.dev.tripHold && s.dev.state ≠ .suspended && locked s 4 &&
    (s.dev.state ≠ .boot || decide (4 ≤ s.dev.bootStep))

/-- HOST_LINK_UP (18 R350): writes that wait for the link go out (13 R258). -/
def execHostLinkUp (port : PortId) (s : State) : Host.Outcome State Fault Refusal :=
  .next <|
    if portsAllowed s then
      (List.finRange 32).foldl (fun s c => sendWaiting port c s) (s.modPort port fun h => { h with linkUp := true })
    else s

/-! Device information and the management target. -/

/-- DEV_INFO (19 R375). -/
def execDevInfo (s : State) : Host.Outcome State Fault Refusal :=
  .next <| serve { fixedSpec 0x101 none [] with boot := fun _ => true } (fun _ s =>
    (s, ok (word ident ++ word (versionWord s) ++ word Config.fwBuild.toNat ++ word s.dev.fuses.rollback ++
      word (((activeBank s).map fun b => (planIn s b).planId).getD 0)))) s

/-- The registers of the management target as bytes from offset 0 (22 R431). OWN_PORT and PEER_LINK of DEV_STATE are
those of a port, and the target is none: a free value stands there (log entry 1: DESIGN CHOICE). -/
def mgmtBytes (s : State) : List Byte × State :=
  let (f, s') := fresh s
  (word ident ++ word (devStateBase s + atBit 5 (bit 0 f.toNat) + atBit 7 (bit 1 f.toNat)) ++
    word s.dev.tempMax.toNat ++ word s.dev.coreSetpoint ++ word s.dev.faultCount.toNat, s')

/-- I2C_TRANSACTION (22 R431): a read returns `count` bytes from an offset on; a write has no effect. -/
def execI2cTransaction (address offset : Nat) (write : Bool) (count : Nat) (s : State) :
    Host.Outcome State Fault Refusal :=
  .next <|
    if !s.dev.powered || !s.dev.porstN || s.dev.tripHold || address ≠ 0x60 + s.dev.i2cAddr.toNat || write then s
    else
      let (bs, s) := mgmtBytes s
      emitOut (.i2cRead ((List.range count).map fun i => bs.getD (offset + i) 0)) s

end Sys2Proof.Machine
end

