-- ==== Sys2Proof/Machine/Lanes.lean ====
section
/-! DEFINITION. The ingress lanes and the stream assembler: blocks, superblocks, alignment, link-up, delivery, lane
status (04 R59 to R83, R441; 02 R35; 19 R379). -/

namespace Sys2Proof.Machine

/-! Reception of blocks. -/

/-- One payload bit through the descrambler: the last 58 received bits, bit 0 the latest, and the output (04 R60). -/
def descrambleBit (p : Nat) (a : Nat × Nat) (i : Nat) : Nat × Nat :=
  let b := bits i i p
  ((2 * a.1 + b) % 2 ^ 58, a.2 + (b + bits 38 38 a.1 + bits 57 57 a.1) % 2 * 2 ^ i)

/-- A payload through the descrambler, bit 0 first (04 R59, R60). -/
def descramble (h : BitVec 58) (p : U64) : BitVec 58 × U64 :=
  let r := (List.range 64).foldl (descrambleBit p.toNat) (h.toNat, 0)
  (BitVec.ofNat 58 r.1, BitVec.ofNat 64 r.2)

/-- The CRC16 of a superblock goes on over a payload (04 R68). -/
def laneCrc (c : U16) (w : U64) : U16 :=
  BitVec.ofNat 16 ((toLe 8 w.toNat).foldl (fun c b => crc16Byte c b.toNat) c.toNat)

/-- The fields of a superblock header (04 R65). -/
structure Header where
  stream  : Nat
  lane    : Nat
  half    : Bool
  part    : Nat
  crc     : U16
  ovr     : Bool
  unlock  : Bool
  size    : Nat
  packed  : Bool
  deriving DecidableEq, Repr

def Header.ofWord (w : U64) : Header :=
  let x := w.toNat
  { stream := bits 11 8 x, lane := bits 14 12 x, half := bit 15 x, part := bits 39 16 x,
    crc := BitVec.ofNat 16 (bits 55 40 x), ovr := bit 56 x, unlock := bit 57 x, size := bits 59 58 x,
    packed := bit 60 x }

/-- The lanes of a stream's bundle. -/
def bundle (s : State) (i : Fin 16) : List (Fin 32) := (s.stream i).map.group

/-- Samples of a bundle superblock (04 R67). -/
def StreamE.samples (e : StreamE) : Nat := (if e.packed then 680 else 510) * 2 ^ e.log2Lanes

/-- The 64-bit index of a count under a high part (04 R81). -/
def extended (high : U16) (count : Nat) : Nat := high.toNat * 2 ^ 48 + count

/-- The mask of lanes. -/
def laneMask (ls : List (Fin 32)) : Nat := ls.foldl (fun m l => m ||| 2 ^ l.val) 0

/-- The bundle fails link-up: the firmware waits 1 ms; the fault record is raised at the first failure of a series
(04 R75). -/
def linkFail (i : Fin 16) (cause : Nat) (s : State) : State :=
  let s := unlink i (some (now s + Config.msUnits)) s
  let ls := bundle s i
  let s := ls.foldl (fun s l => s.modLane l fun x => { x with state := .failed, failCause := cause }) s
  if (s.stream i).failRaised then s
  else raiseFault 0x0201 1 i.val (laneMask ls) cause (some i)
    (s.modStream i fun t => { t with failRaised := true, failOpen := true })

/-- Raises a flag of LANE_STATUS on lanes. -/
def raiseLanes (f : Fin 10) (ls : List (Fin 32)) (s : State) : State :=
  ls.foldl (fun s l => s.modLane l fun x => { x with flags := x.flags.raise f }) s

/-- Deskew has failed: before the bundle is linked the link-up fails, afterwards delivery stops (04 R64, R74, R75). -/
def deskewFail (i : Fin 16) (s : State) : State :=
  let s := raiseLanes 4 (bundle s i) s
  if (s.stream i).ready then stopBundle i s else linkFail i 5 s

/-- Every lane of the bundle has reached a stage. -/
def allRx (s : State) (i : Fin 16) (p : LaneRx → Bool) : Bool := (bundle s i).all fun l => p (s.rx l)

/-- Every lane of the bundle is in a state. -/
def allIn (s : State) (i : Fin 16) (st : LaneState) : Bool := (bundle s i).all fun l => (s.lane l).state = st

def setStates (i : Fin 16) (st : LaneState) (s : State) : State :=
  (bundle s i).foldl (fun s l => s.modLane l fun x => { x with state := st }) s

/-- A step of link-up ends when the slowest lane completes it (04 R75). -/
def linkAdvance (i : Fin 16) (s : State) : State :=
  if allIn s i .blockLock && allRx s i (·.locked) then
    (bundle s i).foldl (fun s l => s.modRx l fun x => { x with equalised := !(s.lane l).ctleAuto }) (setStates i .equalise s)
  else if allIn s i .equalise && allRx s i (·.framed) then setStates i .framed s
  else s

/-- The assembler takes one data block from every lane of a bundle, in the order of LANE_INDEX, while every lane holds
one and a superblock is open (04 R64, R73); `n` bounds how many. -/
def assemble (i : Fin 16) (lanes : List (Fin 32)) : Nat → State → State
  | 0, s => s
  | n + 1, s =>
    match (s.stream i).asm with
    | none => s
    | some a =>
      let heads := lanes.filterMap fun l => match (s.rx l).ebuf with
        | .data w bad :: _ => some (w, bad)
        | _ => none
      if heads.length ≠ lanes.length ∨ 255 * lanes.length ≤ a.blocks.length ∨ lanes.isEmpty then s
      else
        let s := lanes.foldl (fun s l => s.modRx l fun x => { x with ebuf := x.ebuf.drop 1 }) s
        let cycle := max (dclkOf (now s)) ((s.stream i).lastTake + 1)
        let a := { a with blocks := (heads.map (·.1)).reverse ++ a.blocks, cycles := cycle :: a.cycles
                          linkErr := a.linkErr || heads.any (·.2) }
        assemble i lanes n (s.modStream i fun t => { t with asm := some a, lastTake := cycle })

/-- The lanes of a bundle in the order of LANE_INDEX (04 R73). Where the indexes name no order, the map check of link-up
refuses the bundle (04 R72, R75), and until then its blocks pass in the order of the lanes. -/
def inOrder (s : State) (i : Fin 16) : List (Fin 32) :=
  let ls := bundle s i
  let order := (List.range ls.length).filterMap fun k => ls.find? fun l => (s.lane l).laneIndex = k
  if order.length = ls.length then order else ls

/-- What the lanes hold flows into the open superblock. -/
def flow (i : Fin 16) (s : State) : State := assemble i (inOrder s i) 65 s

/-- An item enters the elastic buffer, once the lane is aligned (04 R64). -/
def ebufPut (i : Fin 16) (l : Fin 32) (x : EbItem) (s : State) : State :=
  if !(s.rx l).aligned then s
  else if 64 ≤ (s.rx l).ebuf.length then deskewFail i (raiseLanes 6 [l] s)
  else flow i (s.modRx l fun r => { r with ebuf := r.ebuf ++ [x] })

/-- A data block, or a block that stands in for one: `w` is delivered, `raw` enters the CRC (04 R62, R68). -/
def dataBlock (i : Fin 16) (l : Fin 32) (w raw : U64) (isBad : Bool) (s : State) : State :=
  ebufPut i l (.data w isBad)
    (s.modRx l fun r => { r with pos := r.pos.map (· + 1), crc := laneCrc r.crc raw })

/-- Deskew ends when a marker has aligned every lane of the bundle and been taken, all with one MARKER_SEQ (04 R74, R75
step 6). -/
def deskewAdvance (i : Fin 16) (s : State) : State :=
  if allIn s i .framed && allRx s i (fun r => r.aligned && r.lastMark.isSome) then
    let seqs := (bundle s i).filterMap fun l => (s.rx l).lastMark.map (·.seq)
    if seqs.all (fun q => some q = seqs.head?) then setStates i .deskewed s else deskewFail i s
  else s

/-- What a lane's header says of the lane itself: its CRC against that of the 255 data blocks before it, and its flags (04 R68, R69,
R79). A lane takes this from framing on (log entry 58: DEDUCED). -/
def headerSeen (l : Fin 32) (w : U64) (s : State) : State :=
  let x := Header.ofWord w
  let s := if x.crc ≠ (s.rx l).crc then
      (raiseLanes 2 [l] s).modRx l fun r => { r with crcErrs := min 255 (r.crcErrs + 1) }
    else s
  let s := if x.ovr then raiseLanes 8 [l] s else s
  if x.unlock then raiseLanes 9 [l] s else s

/-- What stands in a header position: a header, or none for a missing one (04 R66). A block that is no header is only a
missing one, and UNKNOWN_CTRL does not count it (log entry 58: DEDUCED). -/
def headerBlock (i : Fin 16) (l : Fin 32) (w : Option U64) (s : State) : State :=
  let r := s.rx l
  let align := !r.aligned && (s.lane l).state = .framed && r.marker.isSome
  let item := EbItem.header w (now s) r.crc r.marker
  let s := match w with | some w => headerSeen l w s | none => s
  let s := s.modRx l fun r =>
    { r with pos := some 0, crc := 0xFFFF, marker := none, aligned := r.aligned || align
             superblocks := if align then 1 else r.superblocks + 1
             missing := if w.isSome then 0 else r.missing + 1 }
  let taken := fun s => let s := ebufPut i l item s; if align then deskewAdvance i s else s
  if w.isSome then taken s
  else
    let s := raiseLanes 1 [l] s
    if 4 ≤ (s.rx l).missing then stopBundle i s else taken s

/-- Two headers 255 data blocks apart establish framing (04 R75 step 5). -/
def hunt (i : Fin 16) (l : Fin 32) (header : Bool) (w : U64) (s : State) : State :=
  if !allRx s i (·.equalised) then s
  else
    let r := s.rx l
    if header then
      if r.pos = some 255 then
        linkAdvance i ((headerSeen l w s).modRx l fun r => { r with framed := true, pos := some 0, crc := 0xFFFF })
      else s.modRx l fun r => { r with pos := some 0, crc := 0xFFFF }
    else
      s.modRx l fun r =>
        { r with pos := r.pos.bind fun p => if p < 255 then some (p + 1) else none, crc := laneCrc r.crc w }

/-- An unrecognised control block or message is counted (04 R62, R77). -/
def countUnknown (l : Fin 32) (s : State) : State := s.modLane l fun x => { x with unknown := satAdd x.unknown 1 }

/-- A rate-matching block is deleted; markers and link management are kept for their commands (04 R62, R63, R74). -/
def rateBlock (l : Fin 32) (type : Nat) (w : U64) (s : State) : State :=
  let s := (s.modLane l fun x => { x with rmDeleted := x.rmDeleted + 1 }).modRx l fun r => { r with sinceRm := 0 }
  let st := (s.lane l).state
  if type = 0x5A then s.modRx l fun r => { r with mgmt := r.mgmt ++ [w] }
  else if type = 0x69 ∧ (st = .framed ∨ st = .deskewed ∨ st = .ready) then
    s.modRx l fun r =>
      let place := decide (r.pos = some 255)
      let seq := bits 23 8 w.toNat
      { r with marker := if place then some seq else none
               markers := r.markers ++ [{ seq := seq, sb := if r.aligned then r.superblocks else 0, place := place }] }
  else s

/-- A block of a lane in block lock, descrambled (04 R62, R63, R66). FILLER_LOW is set once per 2,048 blocks without a
rate-matching one (log entry 58: DEDUCED). -/
def rxBlock (i : Fin 16) (l : Fin 32) (header : BitVec 2) (w : U64) (s : State) : State :=
  let type := bits 7 0 w.toNat
  let ctl := decide (header = 2)
  if ctl && (type = 0x3C || type = 0x69 || type = 0x5A) then rateBlock l type w s
  else
    let low := decide ((s.rx l).sinceRm + 1 = 2048)
    let s := s.modRx l fun r => { r with sinceRm := if low then 0 else r.sinceRm + 1 }
    let s := if low then raiseLanes 7 [l] s else s
    if ctl && type = 0x96 then countUnknown l s
    else if !(s.rx l).framed then hunt i l (ctl && type = 0xA5) w s
    else if (s.rx l).pos = some 255 then headerBlock i l (if ctl && type = 0xA5 then some w else none) s
    else if ctl && type = 0xA5 then
      dataBlock i l 0 w true (countUnknown l (s.modLane l fun x => { x with misplaced := satAdd x.misplaced 1 }))
    else if ctl then dataBlock i l 0 w true (countUnknown l s)
    else dataBlock i l w w (decide (header ≠ 1)) s

/-- The lane receives: powered for a bundle that is linking or linked, its PLL locked. -/
def laneLive (s : State) (l : Fin 32) : Option (Fin 16) :=
  if engines s && locked s 6 && (s.lane l).powered then
    (s.lane l).stream.filter fun i => (s.stream i).retryAt.isNone && (bundle s i).contains l
  else none

/-- The sync header of a block (04 R61): block lock is gained after 64 valid ones in succession and lost with 16 invalid
ones among the latest 64. -/
def syncCheck (i : Fin 16) (l : Fin 32) (header : BitVec 2) (w : U64) (s : State) : State :=
  let good := decide (header = 1 ∨ header = 2)
  let r := s.rx l
  if r.locked then
    let s := s.modRx l fun r => { r with window := (good :: r.window).take 64, syncSince := r.syncSince || !good }
    let s := if good then s else s.modLane l fun x => { x with syncErr := satAdd x.syncErr 1 }
    if 16 ≤ ((s.rx l).window.filter (!·)).length then stopBundle i (raiseLanes 0 [l] s)
    else rxBlock i l header w s
  else
    let s := s.modLane l fun x => { x with state := if x.state = .cdr then .blockLock else x.state }
    let s := s.modRx l fun r =>
      { r with window := if good then true :: r.window else [], locked := good && decide (63 ≤ r.window.length) }
    linkAdvance i s

/-- LANE_BLOCK (04 R59 to R66). Polarity inversion applies to the whole line. -/
def execLaneBlock (lane : Fin 32) (header : BitVec 2) (payload : U64) (s : State) : Host.Outcome State Fault Refusal :=
  .next <|
    match laneLive s lane with
    | none => s
    | some i =>
      let inv := (s.lane lane).polarity
      let (h, w) := descramble (s.rx lane).scrambler (if inv then ~~~payload else payload)
      syncCheck i lane (if inv then ~~~header else header) w (s.modRx lane fun r => { r with scrambler := h })

/-! Link-up. -/

/-- A lane's settings from the stream map; its receiver starts at clock recovery (04 R72, R75 step 1). -/
def laneStart (i : Fin 16) (e : StreamE) (s : State) (l : Fin 32) : State :=
  let x := e.lanes.getD (l.val - e.firstLane) default
  let s := s.modLane l fun y =>
    { y with state := .cdr, powered := true, ctle := if x.ctle = 31 then y.ctle else x.ctle
             ctleAuto := decide (x.ctle = 31), polarity := x.polarity, rate := e.rate, cm1 := x.cm1, cp1 := x.cp1
             partner := decide (x.partner = 1), stream := some i, laneIndex := 0 }
  emitOut (.laneMgmt l.val 0x01 0x1640)
    (s.modRx l fun r =>
      { LaneRx.reset with scrambler := r.scrambler, partnerId := r.partnerId, mgmt := r.mgmt, resyncLeft := r.resyncLeft
                          crcErrs := r.crcErrs, syncSince := r.syncSince, status := r.status })

/-- LINK_UP_START (04 R75 step 1): the firmware starts link-up, 1 ms after a failure. -/
def execLinkUpStart (stream : Fin 16) (s : State) : Host.Outcome State Fault Refusal :=
  .next <|
    let t := s.stream stream
    let free := t.map.group.all fun l => (s.lane l).stream = none || (s.lane l).stream = some stream
    if engines s && firmware s && locked s 6 && t.map.run && free && t.retryAt.any (fun d => decide (d ≤ now s)) then
      (t.map.group.foldl (laneStart stream t.map) s).modStream stream fun t => { t with retryAt := none }
    else s

/-- The step of link-up whose limit a FAIL_CAUSE names (04 R75); causes 6 and 7 follow from the headers. -/
def causeStep (cause : Nat) : Option LaneState :=
  match cause with
  | 1 => some .cdr
  | 2 => some .blockLock
  | 3 | 4 => some .equalise
  | 5 => some .framed
  | 7 => some .deskewed
  | _ => none

/-- LINK_UP_STEP_FAIL (04 R75). -/
def execLinkUpStepFail (stream : Fin 16) (lane : Fin 32) (cause : Nat) (s : State) : Host.Outcome State Fault Refusal :=
  .next <|
    let t := s.stream stream
    if engines s && t.map.run && t.retryAt.isNone && !t.ready && (bundle s stream).contains lane &&
        causeStep cause = some (s.lane lane).state then
      linkFail stream cause (if cause = 5 then raiseLanes 4 (bundle s stream) s else s)
    else s

/-- The eye width of one peaking value: the longest run of error-free offsets among the 32; a bit that is set stands for
an offset without errors. -/
def eyeWidth (eye : BitVec 32) : Nat :=
  ((List.range 32).foldl (fun a o => if bit o eye.toNat then (a.1 + 1, max a.2 (a.1 + 1)) else (0, a.2)) (0, 0)).2

/-- The peaking of the greatest eye width, of equal widths the lowest; none where no value has an error-free offset (04
R441). -/
def eyeChoice (eyes : Vector (BitVec 32) 19) : Option Nat :=
  let widths := eyes.toList.map eyeWidth
  let best := widths.foldl max 0
  if best = 0 then none else some (widths.findIdx fun w => w = best)

/-- EYE_SWEEP_DONE (04 R441): the peaking that the sweep chose is applied, on an ingress lane or, by the same rule, on a
fabric lane (16 R317); a sweep that finds no eye fails link-up with FAIL_CAUSE 3. -/
def execEyeSweepDone (lane : Fin 46) (eyes : Vector (BitVec 32) 19) (s : State) : Host.Outcome State Fault Refusal :=
  .next <|
    match unit 32 lane.val, unit 12 (lane.val - 32) with
    | some l, _ =>
      let x := s.lane l
      if engines s && firmware s && x.state = .equalise && x.ctleAuto && !(s.rx l).equalised then
        match eyeChoice eyes, x.stream with
        | some p, _ => (s.modLane l fun x => { x with ctle := p }).modRx l fun r => { r with equalised := true }
        | none, some i => linkFail i 3 s
        | none, none => s
      else s
    | none, some f =>
      let x := vget s.fabric.lanes f
      if engines s && firmware s && x.state = .linking && x.ctle = 31 then
        match eyeChoice eyes with
        | some p => s.modFabLane f fun x => { x with peak := some p }
        | none => s.modFabLane f fun x => { x with state := .failed, failCause := 3 }
      else s
    | none, none => s

/-! Deskew markers. -/

/-- A marker of a linked bundle keeps the learned alignment: it stands immediately before a header, and agrees with the
last markers of the other lanes (04 R74). -/
def markerGood (s : State) (ls : List (Fin 32)) (m : MarkerAt) : Bool :=
  m.place && ls.all fun l => match (s.rx l).lastMark with
    | some x => decide (x.sb = m.sb ↔ x.seq = m.seq)
    | none => true

/-- DESKEW_MARKER (04 R74). -/
def execDeskewMarker (lane : Fin 32) (s : State) : Host.Outcome State Fault Refusal :=
  .next <|
    match laneLive s lane, (s.rx lane).markers with
    | some i, m :: rest =>
      let others := (bundle s i).filter (· ≠ lane)
      let good := markerGood s others m
      let s := s.modRx lane fun r => { r with markers := rest, lastMark := if m.place then some m else r.lastMark }
      if (s.stream i).ready then
        if good then s
        else
          let s := raiseLanes 4 [lane] s
          if m.sb < (s.stream i).taken then stopBundle i s
          else s.modStream i fun t => { t with failAt := some (match t.failAt with | some x => min x m.sb | none => m.sb) }
      else if allIn s i .deskewed && !good then deskewFail i s
      else deskewAdvance i s
    | _, _ => s

/-! Superblock headers. -/

/-- What the header position of a lane held. -/
structure HeadAt where
  lane    : Fin 32
  header  : Option Header
  arrival : Nat
  crc     : U16
  deriving DecidableEq, Repr

/-- The header positions of all lanes, when every buffer's head is one. -/
def headsOf (s : State) (ls : List (Fin 32)) : Option (List HeadAt) :=
  ls.mapM fun l => match (s.rx l).ebuf with
    | .header w t c _ :: _ => some { lane := l, header := w.map Header.ofWord, arrival := t, crc := c }
    | _ => none

/-- The valid header of the lowest LANE_INDEX (04 R67), with its lane. -/
def checkHeader (s : State) (hs : List HeadAt) : Option (Fin 32 × Header) :=
  (List.range 8).findSome? fun k =>
    hs.findSome? fun h => if (s.lane h.lane).laneIndex = k then h.header.map fun x => (h.lane, x) else none

/-- The lanes that disagree with the map in a field, or share a LANE_INDEX or carry one beyond the bundle (04 R72): 0
STREAM_ID, 1 BUNDLE_SIZE, 2 FORMAT, 3 LANE_INDEX. -/
def mapErrors (i : Fin 16) (e : StreamE) (hs : List (Fin 32 × Header)) (field : Nat) : List (Fin 32) :=
  (hs.filter fun h => match field with
    | 0 => h.2.stream ≠ i.val
    | 1 => h.2.size ≠ e.log2Lanes
    | 2 => h.2.packed ≠ e.packed
    | _ => decide (2 ^ e.log2Lanes ≤ h.2.lane) || decide (1 < (hs.filter fun g => g.2.lane = h.2.lane).length)).map (·.1)

/-- The headers disagree with the map: MAP_MISMATCH, and link-up fails (04 R72). The record is raised once in a series; it
names the lowest field of disagreement and the lanes of every one (log entry 58: DEDUCED). -/
def mapFail (i : Fin 16) (e : StreamE) (hs : List (Fin 32 × Header)) (s : State) : State :=
  let fields := (List.range 4).filter fun f => !(mapErrors i e hs f).isEmpty
  let ls := (bundle s i).filter fun l => fields.any fun f => (mapErrors i e hs f).contains l
  let s := raiseLanes 5 ls s
  let s := if (s.stream i).mapRaised then s
    else raiseFault 0x0203 2 i.val (laneMask ls) (fields.headD 0) (some i)
      (s.modStream i fun t => { t with mapRaised := true })
  linkFail i 6 s

/-- The count of a superblock whose header carries the low part `low`, when a header `d` samples before it carried the
high part `high` (04 R67). -/
def countFrom (high low d : Nat) : Nat :=
  (high * 2 ^ 24 + (low + 2 ^ 24 - d % 2 ^ 24) % 2 ^ 24 + d) % 2 ^ 48

/-- The count that a run of failing headers gives (04 R81): its present header's part, with the other half from the
latest failing header of the other HALF, else from the expected count (log entry 58: DEDUCED). -/
def failedCount (t : StreamRt) (half : Bool) (part expected c : Nat) : Nat :=
  if half then
    part * 2 ^ 24 + (match t.lowPart with | some (p, n) => (p + n * c) % 2 ^ 24 | none => expected % 2 ^ 24)
  else match t.highPart with
    | some (p, n) => countFrom p part (n * c)
    | none => expected / 2 ^ 24 * 2 ^ 24 + part

/-- A range of indices is marked, where some flag is set. -/
def addMark (i : Fin 16) (lo hi : Nat) (linkErr ovr unlock : Bool) (s : State) : State :=
  if linkErr || ovr || unlock then
    s.modStream i fun t =>
      { t with marks := { lo := lo, hi := hi, linkErr := linkErr, overrange := ovr, convUnlock := unlock } :: t.marks }
  else s

/-- The stream stops with COUNT_REVERSE and waits for STREAM_START (04 R81). -/
def countReverse (i : Fin 16) (s : State) : State :=
  raiseFault 0x0208 2 i.val ((s.stream i).last.getD 0) 0 (some i)
    (s.modStream i fun t => { t with delivering := false, reversed := true })

/-- The wrap of the count raises the high part (04 R81). -/
def stepCount (t : StreamRt) (count : Nat) : StreamRt :=
  { t with count := some count
           high := if t.delivering && decide (count < t.count.getD 0) then t.high + 1 else t.high }

/-- A superblock more since the kept parts of failing headers. -/
def StreamRt.ageParts (t : StreamRt) : StreamRt :=
  { t with lowPart := t.lowPart.map fun p => (p.1, p.2 + 1), highPart := t.highPart.map fun p => (p.1, p.2 + 1) }

/-- The run of failures ends. -/
def StreamRt.endRun (t : StreamRt) : StreamRt := { t with failRun := 0, lowPart := none, highPart := none }

/-- One failure more, at a header with its part. -/
def StreamRt.growRun (t : StreamRt) (half : Bool) (part : Nat) : StreamRt :=
  { t with failRun := t.failRun + 1
           lowPart := if half then t.lowPart else some (part, 0)
           highPart := if half then some (part, 0) else t.highPart }

/-- The check of the count at a header (04 R67), and what follows a run of four failures (R81). -/
def checkCount (i : Fin 16) (expected c : Nat) (h : Option (Fin 32 × Header)) (s : State) : State :=
  match h with
  | none => s.modStream i fun t => (stepCount t expected).ageParts
  | some (l, h) =>
    let good := if h.half then h.part = expected / 2 ^ 24 else h.part = expected % 2 ^ 24
    let s := s.modStream i fun t => (stepCount t expected).ageParts
    if good then s.modStream i (·.endRun)
    else
      let s := raiseLanes 3 [l] (s.modStream i (·.growRun h.half h.part))
      let t := s.stream i
      if t.failRun < 4 then s
      else
        let x := failedCount t h.half h.part expected c
        let jump := (x + 2 ^ 48 - expected) % 2 ^ 48
        let s := s.modStream i (·.endRun)
        if jump < 2 ^ 24 then s.modStream i fun t => stepCount t x
        else
          let s := s.modStream i fun t => { t with count := some x }
          if t.delivering then countReverse i s else s

/-- The first count after READY against the last delivered index (04 R82). -/
def beginDelivery (i : Fin 16) (s : State) : State :=
  let t := s.stream i
  let c := t.count.getD 0
  if t.reversed then s
  else match t.last with
    | none => s.modStream i fun t => { t with delivering := true, high := 0 }
    | some e =>
      let x := extended t.high c
      let hi := extended (t.high + 1) c
      if e < x ∧ x - e - 1 < 2 ^ 24 then s.modStream i fun t => { t with delivering := true }
      else if x ≤ e ∧ x + 2 ^ 48 - e - 1 < 2 ^ 24 ∧ e < hi then
        s.modStream i fun t => { t with delivering := true, high := t.high + 1 }
      else countReverse i s

/-- The bundle reaches READY (04 R75 step 9). -/
def bundleReady (i : Fin 16) (s : State) : State :=
  let mask := laneMask (bundle s i)
  let raised := (s.stream i).failOpen
  let s := setStates i .ready s
  let s := s.modStream i fun t => { t with ready := true, failRaised := false, failOpen := false, mapRaised := false }
  let s := postEvent 0x8003 0 1 i.val mask 0 s
  let s := if raised then raiseFault 0x0202 0 i.val mask 0 (some i) s else s
  beginDelivery i s

/-- The epoch of a stream's first samples: the one before the first boundary placed or awaited there, else the current
one (03 R49). -/
def firstEpoch (s : State) (b : Boundary) : Nat :=
  match b.hist.getLast?.map (·.k), b.await.head?.map (·.k) with
  | some k, _ => if k = 0 then Config.noEpoch else k - 1
  | none, some k => if k = 0 then Config.noEpoch else k - 1
  | none, none => epochNum s.plans.epoch

/-- Delivery begins for the first time: the stream's grids and its epochs start here (03 R49, 05 R84). The windows that
begin before the first delivered index are neither computed nor counted in SKIPPED (log entry 25: DEDUCED). -/
def firstDelivery (i : Fin 16) (x : Nat) (s : State) : State :=
  let s := s.modBound i fun b =>
    if b.hist.any fun r => decide (r.start ≤ x) then b
    else
      { b with hist := b.hist ++ [{ k := firstEpoch s b, placed := false, start := x, extrapolated := false,
                                    rateMismatch := false, fitDegraded := false }] }
  (List.finRange 64).foldl (fun s v => s.modView v fun r =>
    { r with scans := r.scans.map fun c =>
        let e := (planIn s c.bank).view v.val
        if e.source = i.val then { c with next := max c.next (ceilDiv x (max e.hop 1)) } else c }) s

/-- Compensation of a header's stamp by STREAM_TIME_OFFSET, which is in ps (03 R46). -/
def compensated (s : State) (i : Fin 16) (arrival : Nat) : Nat :=
  arrival - vget s.params.streamOffset i * Config.nsUnits / 1000

/-- An awaited boundary at the index that a header has given it. -/
def Awaited.placed (a : Awaited) (index : Nat) : EpochRec :=
  { k := a.k, placed := true, start := index, extrapolated := true, rateMismatch := a.rateMismatch,
    fitDegraded := a.fitDegraded }

/-- Boundaries that had neither a value nor an earlier one are placed by the first header that arrives at or after them
(01 R23). -/
def placeAwaited (i : Fin 16) (arrival index : Nat) (s : State) : State :=
  s.modBound i fun b =>
    let due := b.await.filter fun a => decide (a.time ≤ arrival)
    { b with await := b.await.filter fun a => !decide (a.time ≤ arrival)
             hist := due.foldl (fun h a => a.placed index :: h) b.hist }

/-- The marks, the fit's point and the check bound of a header whose superblock has an index (04 R69, R70, R79, R82). -/
def headerMarks (i : Fin 16) (hs : List HeadAt) (index c : Nat) (bad : Bool) (s : State) : State :=
  let ovr := hs.any fun h => h.header.any (·.ovr)
  let unlock := hs.any fun h => h.header.any (·.unlock)
  let s := addMark i index (index + c) bad ovr unlock s
  let s := s.modStream i fun t => { t with checkedTo := max t.checkedTo index }
  match hs.find? fun h => (s.lane h.lane).laneIndex = 0 && h.header.isSome with
  | some h =>
    placeAwaited i h.arrival index
      (s.modBound i fun b => { b with points := ((compensated s i h.arrival, index) :: b.points).take 256 })
  | none => s

/-- What each lane's header says of the bundle: agreement with LANE_INDEX 0 (04 R66), and whether the superblock before is
marked (R69), and the one it opens. -/
def laneHeader (ref : Option Header) (acc : State × Bool × Bool) (h : HeadAt) : State × Bool × Bool :=
  let (s, before, opens) := acc
  match h.header with
  | none => (s, true, true)
  | some x =>
    let crcBad := x.crc ≠ h.crc
    let differs := ref.any fun r =>
      x.stream ≠ r.stream || x.half ≠ r.half || x.part ≠ r.part || x.size ≠ r.size || x.packed ≠ r.packed
    let s := if differs then raiseLanes 3 [h.lane] s else s
    (s, before || crcBad, opens || differs)

/-- The superblock after a header is open. -/
def openSuper (i : Fin 16) (index : Nat) (deliver : Bool) (s : State) : State :=
  flow i (s.modStream i fun t =>
    { t with asm := some { index := index, deliver := deliver, linkErr := false, blocks := [], cycles := [] } })

/-- The header of LANE_INDEX 0. -/
def headerZero (s : State) (hs : List HeadAt) : Option Header :=
  (hs.find? fun h => (s.lane h.lane).laneIndex = 0).bind (·.header)

/-- The header with which the stream's count is being acquired (04 R75 steps 7 and 8); its lanes are compared as always
(R66). -/
def acquireHeader (i : Fin 16) (hs : List HeadAt) (s : State) : State :=
  let t := s.stream i
  let valid := hs.filterMap fun h => h.header.map fun x => (h.lane, x)
  if valid.length ≠ hs.length then linkFail i 7 s
  else
    let s := valid.foldl (fun s h => s.modLane h.1 fun x => { x with laneIndex := h.2.lane }) s
    let s := (hs.foldl (laneHeader (headerZero s hs)) (s, false, false)).1
    match checkHeader s hs, t.prevPart with
    | some (_, h), none =>
      if h.half then openSuper i 0 false (s.modStream i fun t => { t with prevPart := some (true, h.part) })
      else linkFail i 7 s
    | some (_, h), some p =>
      if h.half then linkFail i 7 s
      else
        let s := s.modStream i fun t =>
          { t.endRun with acquired := true, count := some (countFrom p.2 h.part t.map.samples), prevPart := none }
        if (List.range 4).all fun f => (mapErrors i t.map valid f).isEmpty then openSuper i 0 false s
        else mapFail i t.map valid s
    | none, _ => linkFail i 7 s

/-- A STREAM_START of the stream awaits the start of delivery; its HIGH (19 R379). -/
def startWaiting (i : Fin 16) (s : State) : Option Nat :=
  s.host.deferred.findSome? fun d => match d.wait with
    | .streamStart j h => if j = i then some h else none
    | _ => none

/-- A header of a bundle whose count is known (04 R66 to R69, R79, R81, R82). -/
def runHeader (i : Fin 16) (hs : List HeadAt) (s : State) : State :=
  let t := s.stream i
  let c := t.map.samples
  let prev := extended t.high (t.count.getD 0)
  let (s, before, opens) := hs.foldl (laneHeader (headerZero s hs)) (s, false, false)
  -- the superblock before this header is checked, also where the header ends delivery
  let s := if t.delivering then
      (addMark i prev (prev + c) before false false s).modStream i fun t => { t with checkedTo := max t.checkedTo (prev + c) }
    else s
  let s := checkCount i ((t.count.getD 0 + c) % 2 ^ 48) c (checkHeader s hs) s
  let s := if t.ready then s else bundleReady i s
  let t := s.stream i
  let start := match startWaiting i s with
    | some h => if t.reversed then some (extended (BitVec.ofNat 16 h) (t.count.getD 0)) else none
    | none => none
  let index := start.getD (extended t.high (t.count.getD 0))
  let unlock := hs.any fun h => h.header.any (·.unlock)
  let s := if unlock && !t.unlockPrev then raiseFault 0x0207 1 i.val index 0 (some i) s else s
  let s := if t.delivering || start.isSome then headerMarks i hs index c opens s else s
  let s := s.modStream i fun t => { t with startDue := start.isSome, unlockPrev := unlock }
  openSuper i index t.delivering s

/-- SUPERBLOCK_HEADER (04 R67): the heads of all lanes of a bundle are taken. -/
def execSuperblockHeader (stream : Fin 16) (s : State) : Host.Outcome State Fault Refusal :=
  .next <|
    let t := s.stream stream
    let ls := bundle s stream
    match headsOf s ls with
    | none => s
    | some hs =>
      if !engines s || ls.isEmpty || t.asm.isSome || !(allIn s stream .deskewed || allIn s stream .ready) then s
      else if t.failAt.any (fun x => decide (x ≤ t.taken)) then stopBundle stream s
      else
        let s := ls.foldl (fun s l => s.modRx l fun x => { x with ebuf := x.ebuf.drop 1 }) s
        let s := s.modStream stream fun t => { t with taken := t.taken + 1 }
        if t.acquired then runHeader stream hs s else acquireHeader stream hs s

/-! Delivery. -/

/-- The samples of 16-bit data blocks (04 R71). -/
def samples16 (bs : List U64) : List IQ :=
  bs.flatMap fun w =>
    let x := w.toNat
    [{ i := signed 16 (bits 15 0 x), q := signed 16 (bits 31 16 x) },
     { i := signed 16 (bits 47 32 x), q := signed 16 (bits 63 48 x) }]

/-- The samples of packed groups of three data blocks, left-justified into 16 bits (04 R71); `n` bounds the groups. -/
def samples12 : Nat → List U64 → List IQ
  | n + 1, a :: b :: c :: t =>
    let g := a.toNat + b.toNat * 2 ^ 64 + c.toNat * 2 ^ 128
    ((List.range 8).map fun k =>
      { i := 16 * signed 12 (bits (24 * k + 11) (24 * k) g), q := 16 * signed 12 (bits (24 * k + 23) (24 * k + 12) g) }) ++
      samples12 n t
  | _, _ => []

/-- The samples of data blocks in their order. -/
def parseBlocks (packed : Bool) (bs : List U64) : List IQ := if packed then samples12 bs.length bs else samples16 bs

/-- The row of blocks of a superblock, one block from each lane, that completes the sample of an offset (04 R71, R73). -/
def blockRow (e : StreamE) (x : Nat) : Nat :=
  (if e.packed then (x / 8 * 192 + x % 8 * 24 + 23) / 64 else x / 2) / 2 ^ e.log2Lanes

/-- Zoom channels that wait for their source's next sample start with it (06 R113). -/
def startWaitingZoom (i : Fin 16) (x : Nat) (s : State) : State :=
  (List.finRange 32).foldl (fun s c => s.modZoom c fun z =>
    if z.waiting && z.cfg.source = i.val then
      { z with s0 := x, waiting := false, grids := z.grids.map fun g => if g.gen = z.gen then { g with s0 := x } else g }
    else z) s

/-- A gap before delivered samples is reported once, with its whole span (02 R35). -/
def reportGap (i : Fin 16) (x : Nat) (s : State) : State :=
  match (s.stream i).last with
  | some e => if e + 1 < x then raiseFault 0x0204 2 i.val (e + 1) (x - e - 1) (some i) s else s
  | none => firstDelivery i x s

/-- The SYNCs whose source index has been delivered take place (06 R115). -/
def dueSyncs (i : Fin 16) (s : State) : State :=
  (List.finRange 32).foldl (fun s c =>
    let z := s.zoom c
    match z.syncAt with
    | some x => if z.state ≠ .stopped && !z.waiting && z.cfg.source = i.val && decide (x < (s.stream i).avail) then
        zoomSync c x s else s
    | none => s) s

/-- Samples with consecutive indices are delivered to every consumer (01 R13). -/
def deliverRun (i : Fin 16) (x : Nat) (xs : List IQ) (cycle : Nat → Nat) (s : State) : State :=
  if xs.isEmpty then s
  else
    let s := startWaitingZoom i x (reportGap i x s)
    let s := s.modStream i fun t => { t with segs := { start := x, data := xs } :: t.segs, last := some (x + xs.length - 1) }
    let s := dueSyncs i s
    scanSource i.val (s.stream i).segs x (s.stream i).avail 0 cycle s

/-- Samples are delivered, with the flip that their indices reach (03 R50 step 5). What a flip that relinks leaves of
them is not delivered (04 R76). -/
def deliverSamples (i : Fin 16) (index : Nat) (xs : List IQ) (cycle : Nat → Nat) (s : State) : State :=
  let flip := (s.bound i).flipAt.bind fun f => (boundaryIndex s i f.1).map fun b => (b, f.2)
  match flip with
  | some (b, new) =>
    if b ≤ index + xs.length then
      let s := deliverRun i index (xs.take (b - index)) cycle s
      let s := flipSource i new b s
      if (s.stream i).delivering then deliverRun i (max b index) (xs.drop (b - index)) cycle s else s
    else deliverRun i index xs cycle s
  | none => deliverRun i index xs cycle s

/-- The index at which a stream goes on that waits for boundary `k`: its first boundary index from `k` on. A stream that
has no boundary yet, and begins to deliver after `t_k`, waits for none. -/
def resumeIndex (s : State) (i : Fin 16) (k : Nat) : Option Nat :=
  let b := s.bound i
  match boundaryFrom s i k with
  | some x => some x
  | none => if s.plans.epoch.any (fun e => decide (k ≤ e)) && b.hist.isEmpty && b.await.isEmpty then some 0 else none

/-- The first sample that is taken in: the one after the last delivered, and after a loss of PLL_D the boundary at which
intake resumes (21 R418); none while nothing is taken in. -/
def intakeFrom (i : Fin 16) (s : State) : Option Nat :=
  if !dclk s then none
  else match (s.stream i).resumeAt with
    | none => some (s.stream i).avail
    | some k => (resumeIndex s i k).map fun b => max b (s.stream i).avail

/-- The blocks of the open superblock that have been taken are delivered. -/
def deliverOpen (i : Fin 16) (s : State) : State :=
  match (s.stream i).asm with
  | none => s
  | some a =>
    let e := (s.stream i).map
    let xs := parseBlocks e.packed a.blocks.reverse
    let s := s.modStream i fun t => { t with asm := some { a with linkErr := false } }
    match (if a.deliver then intakeFrom i s else none) with
    | none => s
    | some lo =>
      let from_ := max lo a.index
      let s := addMark i a.index (a.index + e.samples) a.linkErr false false s
      let rest := xs.drop (from_ - a.index)
      if rest.isEmpty then s
      else
        let cycles := a.cycles.reverse.toArray
        deliverSamples i from_ rest (fun x => cycles.getD (blockRow e (x - a.index)) 0)
          (s.modStream i fun t => { t with resumeAt := none })

/-- BUNDLE_SUPERBLOCK_DELIVER (01 R13): the open superblock is complete. -/
def execBundleSuperblockDeliver (stream : Fin 16) (s : State) : Host.Outcome State Fault Refusal :=
  .next <|
    let t := s.stream stream
    match t.asm with
    | none => s
    | some a =>
      if !engines s || a.blocks.length ≠ 255 * t.map.group.length then s
      else (deliverOpen stream s).modStream stream fun t => { t with asm := none }

/-- PLL_D is gated: what the assembler had taken is delivered, and nothing more (21 R418). -/
def gateStreams (s : State) : State := (List.finRange 16).foldl (fun s i => deliverOpen i s) s

/-! Commands of streams and lanes. -/

/-- The stream that a request names, if the active plan runs it. -/
def runningStream (s : State) (n : Nat) : Option (Fin 16) := (unit 16 n).filter fun i => ((planNow s).stream i.val).run

/-- STREAM_START (19 R379). -/
def execStreamStart (s : State) : Host.Outcome State Fault Refusal :=
  .next <| serve (fixedSpec 0x0301 (some 1) [whole 1, whole 2])
    (fun c s =>
      match runningStream s (c.u 0 1) with
      | none => (s, bad 0)
      | some i =>
        let t := s.stream i
        let x := extended (BitVec.ofNat 16 (c.u 2 2)) (t.count.getD 0)
        if !t.reversed || (startWaiting i s).isSome then (s, refuse .busyRunning 0)
        else if !(t.last.any fun e => decide (e < x)) then (s, bad 2)
        else if !t.ready then (s, refuse .notReady 0)
        else (s, .wait (.streamStart i (c.u 2 2)))) s

/-- STREAM_START_DELIVERY (19 R379): HIGH is checked again against the superblock that has opened. -/
def execStreamStartDelivery (stream : Fin 16) (s : State) : Host.Outcome State Fault Refusal :=
  .next <|
    let t := s.stream stream
    match t.asm, startWaiting stream s with
    | some a, some h =>
      if !t.startDue || !t.reversed then s
      else
        let good := t.last.all fun e => decide (e < a.index)
        let s := s.modStream stream fun t =>
          if good then { t with startDue := false, reversed := false, delivering := true, high := BitVec.ofNat 16 h
                                asm := some { a with deliver := true } }
          else { t with startDue := false }
        finish (fun w => match w with | .streamStart j _ => j = stream | _ => false)
          (fun _ s => (s, if good then { status := .ok, detail := 0, payload := toLe 8 a.index }
                          else { status := .badParam, detail := 2, payload := [] })) s
    | _, _ => s

/-- STREAM_RESYNC (04 R80). -/
def execStreamResync (s : State) : Host.Outcome State Fault Refusal :=
  .next <| serve (fixedSpec 0x0302 (some 1) [whole 1])
    (fun c s =>
      match runningStream s (c.u 0 1) with
      | none => (s, bad 0)
      | some i => ((bundle s i).foldl (fun s l => s.modRx l fun r => { r with resyncLeft := 64 }) s, ok [])) s

/-- STATE of LANE_STATUS (04 R83). -/
def LaneState.code : LaneState → Nat
  | .off => 0
  | .cdr => 1
  | .blockLock => 2
  | .equalise => 3
  | .framed => 4
  | .deskewed => 5
  | .ready => 6
  | .failed => 7

/-- An entry of LANE_STATUS (04 R83). Of a fabric lane the entry gives whether it is up, the peaking and the last cause of
failure; E0 and E1 have none of its fields. -/
def laneEntry (s : State) (n : Nat) : List Byte :=
  match unit 32 n, unit 12 (n - 32) with
  | some l, _ =>
    let x := s.lane l
    word (x.state.code + x.ctle * 2 ^ 4 + atBit 9 x.polarity + x.rate * 2 ^ 10 + x.failCause * 2 ^ 12 +
      (x.stream.map (·.val)).getD 0 * 2 ^ 16 + x.laneIndex * 2 ^ 20) ++
    word x.flags.now.toNat ++ word x.syncErr.toNat ++ word x.rmDeleted.toNat ++
    word (x.misplaced.toNat + x.unknown.toNat * 2 ^ 16) ++ toLe 12 (x.flags.occWord 0 10)
  | none, some f =>
    let x := vget s.fabric.lanes f
    let st := match x.state with
      | .off => 0
      | .linking | .measuring => 1
      | .up => 6
      | .failed => 7
    padTo 32 (word (st + x.peak.getD 0 * 2 ^ 4 + x.failCause * 2 ^ 12))
  | none, none => padTo 32 []

/-- Clears the flags that a mask names, and the counters of a lane (04 R83). -/
def laneClear (n mask : Nat) (s : State) : State :=
  match unit 32 n with
  | some l => s.modLane l fun x =>
    { x with flags := x.flags.statusClear mask, syncErr := 0, rmDeleted := 0, misplaced := 0, unknown := 0 }
  | none => s

/-- LANE_STATUS (04 R83). -/
def execLaneStatus (s : State) : Host.Outcome State Fault Refusal :=
  .next <| serve (statusSpec 0x0303 2) (statusBody 46 32 (fun _ => []) laneEntry laneClear) s

/-! Link management and the back-channel. -/

/-- The settings of a pre-emphasis message: c+1 in bits [4:0], c-1 in bits [8:5] (04 R77). -/
def preOk (arg : Nat) : Bool :=
  decide (bits 4 0 arg ≤ 16 ∧ bits 8 5 arg ≤ 10 ∧ bits 4 0 arg + bits 8 5 arg ≤ 20)

/-- LINK_MANAGEMENT (04 R77): the firmware takes a message. MSG 0x03, which only the part sends, is ignored and not counted
(log entry 58: DEDUCED). -/
def execLinkManagement (lane : Fin 32) (s : State) : Host.Outcome State Fault Refusal :=
  .next <|
    match (s.rx lane).mgmt with
    | [] => s
    | w :: rest =>
      if !firmware s || !engines s then s
      else
        let s := s.modRx lane fun r => { r with mgmt := rest }
        let arg := bits 55 16 w.toNat
        match bits 15 8 w.toNat with
        | 0x01 => s.modRx lane fun r => { r with partnerId := bits 15 0 arg }
        | 0x02 =>
          let s := if (s.lane lane).partner && preOk arg then
              s.modLane lane fun x => { x with cp1 := bits 4 0 arg, cm1 := bits 8 5 arg }
            else s
          emitOut (.laneMgmt lane.val 0x03 ((s.lane lane).cp1 + (s.lane lane).cm1 * 2 ^ 5)) s
        | 0x03 => s
        | 0x04 =>
          match (s.lane lane).stream with
          | some i => (bundle s i).foldl (fun s l => s.modRx l fun r => { r with resyncLeft := 0 }) s
          | none => s
        | _ => countUnknown lane s

/-- LANE_HEALTH (04 R78). -/
def laneHealth (s : State) (l : Fin 32) : Nat :=
  let x := s.lane l
  match x.state with
  | .failed => if x.failCause = 6 then 5 else 4
  | .ready => if 0 < (s.rx l).crcErrs || (s.rx l).syncSince then 3 else 2
  | _ => 1

/-- The status block of a lane (04 R78). -/
def statusBlock (s : State) (l : Fin 32) : Nat :=
  let k := s.plans.epoch
  0x96 + atBit 8 (s.dev.state = .ready && s.dev.fwRunning) + atBit 9 (decide (0 < (s.rx l).resyncLeft)) + atBit 10 k.isSome +
    laneHealth s l * 2 ^ 12 + (match k with | some k => k % 2 ^ 32 | none => 0xFFFFFFFF) * 2 ^ 16 +
    (s.lane l).ctle * 2 ^ 48 + (s.rx l).crcErrs * 2 ^ 56

/-- STATUS_BLOCK_SEND (04 R78). -/
def execStatusBlockSend (lane : Fin 32) (s : State) : Host.Outcome State Fault Refusal :=
  .next <|
    if engines s && locked s 6 && (s.lane lane).powered then
      let w := statusBlock s lane
      emitOut (.backChannel lane.val [w]) (s.modRx lane fun r =>
        { r with status := BitVec.ofNat 64 w, resyncLeft := r.resyncLeft - 1, crcErrs := 0, syncSince := false })
    else s

end Sys2Proof.Machine
end

