-- ==== Sys2Proof/Machine/Image.lean ====
section
/-! DEFINITION. Plan images as bytes: the header, the directory, the entries of every section, and the checksums (20 R389 to
R395). -/

namespace Sys2Proof.Machine

/-! Fields. -/

/-- A field of `n` bytes at a byte offset of an entry; reserved bits belong to no field and are ignored (00 R8). -/
def fld (x off n : Nat) : Nat := bits (8 * (off + n) - 1) (8 * off) x

/-- A number with an enable bit. -/
def optOf (en : Bool) (x : Nat) : Option Nat := if en then some x else none

/-- The place of a bank's image in near memory (20 R389, 12 R245). -/
def bankBase (b : Fin 2) : Nat := b.val * 0x10000000

/-- A field of an image at a byte offset. -/
def imageLe (s : State) (b : Fin 2) (off n : Nat) : Nat := memLe (nearFor s 6 (bankBase b + off) n) (bankBase b + off) n

/-- Bytes of an image. -/
def imageBytes (s : State) (b : Fin 2) (off n : Nat) : List Byte := nearBytes s 6 (bankBase b + off) n

/-! The header and the directory (20 R391, R392). -/

/-- The fields of an image header that the firmware uses. -/
structure PlanHeader where
  minor    : Nat
  major    : Nat
  tiles    : Nat
  crcTiles : Nat
  sections : Nat
  planId   : Nat
  stepping : Nat
  minFw    : Nat
  nearEnd  : Nat
  sigKind  : Nat
  deriving DecidableEq, Repr, Inhabited

def parseHeader (s : State) (b : Fin 2) : PlanHeader :=
  let w := imageLe s b
  { minor := w 0x004 1, major := w 0x005 1, tiles := w 0x008 4, crcTiles := w 0x00C 2, sections := w 0x00E 2,
    planId := w 0x010 4, stepping := w 0x014 1, minFw := w 0x018 2, nearEnd := w 0x020 8, sigKind := w 0x080 1 }

def parseDirEntry (x : Nat) : DirE :=
  { type := fld x 0x00 2, version := fld x 0x02 1, required := bit 24 x, offset := fld x 0x04 4, bytes := fld x 0x08 4,
    entries := fld x 0x0C 4, entryBytes := fld x 0x10 2 }

def parseDir (s : State) (b : Fin 2) : List DirE :=
  (List.range (parseHeader s b).sections).map fun n => parseDirEntry (imageLe s b (0x200 + 32 * n) 32)

/-- Entry bytes, least and greatest count, and the divisor of the count of a section type (20 R394); none for an unknown
type. -/
def sectionShape (t : Nat) : Option (Nat × Nat × Nat × Nat) :=
  match t with
  | 0x01 => some (32, 16, 16, 1)
  | 0x02 => some (64, 64, 64, 1)
  | 0x03 => some (4, 1, 4194304, 1)
  | 0x04 => some (1, 64, 33554432, 64)
  | 0x05 => some (64, 32, 32, 1)
  | 0x06 => some (32, 64, 64, 1)
  | 0x07 => some (2, 1, 4194304, 1)
  | 0x08 => some (32, 256, 256, 1)
  | 0x09 => some (4, 1, 1048576, 1)
  | 0x0A => some (16, 16, 16, 1)
  | 0x0B => some (2176, 16, 16, 1)
  | 0x0C => some (128, 2, 2, 1)
  | 0x0D => some (64, 16, 16, 1)
  | 0x0E => some (8256, 32, 32, 1)
  | 0x0F => some (128, 1, 1, 1)
  | 0x10 => some (16, 1, 256, 1)
  | 0x11 => some (32, 1, 64, 1)
  | 0x12 => some (32, 1, 1024, 1)
  | 0x13 => some (16, 17, 17, 1)
  | 0x14 => some (1, 64, 134217728, 64)
  | _ => none

/-- The firmware knows the type and the layout version (20 R392, R394, R403). -/
def DirE.known (d : DirE) : Bool := (sectionShape d.type).isSome && decide (d.version ≤ 1)

/-- The known section of a type; an unknown one is ignored (20 R403). -/
def sectionIn (dir : List DirE) (t : Nat) : Option DirE := dir.find? fun d => d.known && d.type = t

/-! Entries (20 R395). -/

def parseLane (x : Nat) : LaneE :=
  { ctle := bits 4 0 x, cm1 := bits 8 5 x, cp1 := bits 13 9 x, polarity := bit 14 x, partner := bits 15 15 x }

def parseStream (x : Nat) : StreamE :=
  { run := bit 0 x, log2Lanes := bits 2 1 x, firstLane := bits 8 3 x, rate := bits 10 9 x, packed := bit 11 x,
    declared := fld x 0x08 8, lanes := (List.range (2 ^ bits 2 1 x)).map fun i => parseLane (fld x (0x10 + 2 * i) 2) }

def parseView (x : Nat) : ViewE :=
  { present := bit 0 x, source := bits 6 1 x, log2n := bits 11 7 x, symmetric := bit 12 x, caldera := bits 14 13 x,
    geyser := bit 15 x, formats := bits 18 16 x, calExclude := bits 22 19 x, hop := fld x 0x04 4, binFirst := fld x 0x08 4,
    binCount := fld x 0x0C 4, scale := fld x 0x10 4, windowBase := fld x 0x14 4, gainRef := fld x 0x18 4,
    colmapRef := fld x 0x1C 4, segBins := fld x 0x20 4 }

def parseZoom (x : Nat) : TerraceE :=
  { present := bit 0 x, source := bits 4 1 x, sections := bits 7 5 x, zshift := bits 14 8 x, syncEn := bit 15 x,
    hostTunable := bit 16 x, ftw := fld x 0x04 4, pow := fld x 0x08 4, zgain := bits 17 0 (fld x 0x0C 4),
    d := bits 16 0 (fld x 0x10 4), m := (List.range 5).map fun i => bits 16 0 (fld x (0x14 + 4 * i) 4) }

def parsePool (x : Nat) : PoolE :=
  let spill := bits 9 0 (fld x 0x14 4)
  { present := bit 0 x, exp := bits 6 1 x, period := bits 18 7 x + 1, exclude := bits 22 19 x, frontBins := fld x 0x04 4,
    threshBase := fld x 0x08 4, skLow := fld x 0x0C 4, skHigh := fld x 0x10 4, spill := optOf (spill ≠ 0x3FF) spill }

def parseMask (x : Nat) : MaskE :=
  { kind := bits 2 0 x, edge := bit 3 x, exclude := bits 7 4 x, binLo := fld x 0x04 4, binHi := fld x 0x08 4,
    minBins := fld x 0x0C 4, minRun := fld x 0x10 4, threshold := signedOf 16 (fld x 0x14 2), table := fld x 0x18 4 }

def parseRegion (x : Nat) : RegionE :=
  let c := fld x 0x04 4
  let r := fld x 0x08 4
  { present := bit 0 x, plane := bits 1 1 x, colFirst := bits 11 0 c, colLast := bits 23 12 c, rowFirst := bits 11 0 r,
    rowLast := bits 23 12 r, threshold := fld x 0x0C 4 }

def parseGeyser (x : Nat) : GeyserE :=
  let n := bits 8 0 (fld x 0x08 4)
  let v := fld x 0x0C 4
  { present := bit 0 x, requireArm := bit 1 x, oneShot := bit 2 x, armGroups := bits 10 3 x, forerunner := bit 11 x,
    alignUs := fld x 0x04 4, instrCount := n, verifyCond := bits 8 0 v, provHe := optOf (bit 9 v) (bits 16 10 v),
    states := (List.range 32).map fun i => let w := fld x (0x40 + 2 * i) 2; optOf (bit 8 w) (bits 7 0 w),
    instrs := (List.range (min n 256)).map fun i => fld x (0x80 + 8 * i) 8 }

def parsePlane (x : Nat) : CalderaE :=
  { present := bit 7 x, decayMode := bits 1 0 x, format := bits 3 2 x, target := bits 6 4 x,
    rowBase := signedOf 16 (fld x 0x04 2), decayF := fld x 0x06 2, rowGain := fld x 0x08 4, tickN := fld x 0x0C 2,
    tickM := fld x 0x10 4, frameW := fld x 0x14 2, frameH := fld x 0x16 2, colourRef := fld x 0x18 4, xMapRef := fld x 0x1C 4,
    yMapRef := fld x 0x20 4, bufs := (List.range 4).map fun b => fld x (0x28 + 8 * b) 8 }

def parseRing (x : Nat) : BasinE :=
  { present := bit 0 x, port := bits 2 1 x, envK := bits 7 3 x, releaseHe := optOf (bit 8 x) (bits 15 9 x),
    credits := fld x 0x04 4, base := fld x 0x08 8, ringTiles := fld x 0x10 4, pre := fld x 0x18 8, post := fld x 0x20 8,
    readRate := fld x 0x28 8 }

def parseDma (x : Nat) : DmaE :=
  { present := bit 0 x, host := bit 1 x, atFlip := bit 2 x, provSafe := bit 3 x, nearBytes := fld x 0x08 8,
    cxlBytes := (List.range 4).map fun p => fld x (0x10 + 8 * p) 8,
    descs := (List.range (min (bits 12 4 x) 256)).map fun d => fld x (0x40 + 32 * d) 32 }

def parseDevice (x : Nat) : DeviceE :=
  let e := fld x 0x04 4
  let v := fld x 0x08 4
  { fabricLatencyUs := fld x 0x00 4, markLine := optOf (bit 7 e) (bits 6 0 e)
    ventStart := [optOf (bit 7 v) (bits 6 0 v), optOf (bit 23 v) (bits 22 16 v)]
    ventDone := [optOf (bit 15 v) (bits 14 8 v), optOf (bit 31 v) (bits 30 24 v)]
    readCredits := (List.range 4).map fun p => bits 10 0 (fld x (0x10 + 2 * p) 2)
    channelStreams := (List.range 16).map fun c => fld x (0x20 + 2 * c) 2 }

def parseRoute (x : Nat) : RouteE :=
  { type := bits 7 0 x, selKind := bits 9 8 x, selector := bits 15 10 x, relay := bit 16 x, mask := bits 24 0 (fld x 0x04 4),
    every := fld x 0x08 2 }

def parseSched (x : Nat) : SchedE :=
  { pairs := bits 1 0 x = 0, cycle := fld x 0x04 4, base := fld x 0x08 4, count := fld x 0x0C 4, sourceRef := fld x 0x10 4 }

def parseAlloc (x : Nat) : AllocE :=
  { kind := bits 3 0 x, owner := bits 11 4 x, base := fld x 0x08 8, bytes := fld x 0x10 8 }

/-- The entries of a section as numbers; none where the image omits it. -/
def sectionEntries (s : State) (b : Fin 2) (dir : List DirE) (t : Nat) : List Nat :=
  match sectionIn dir t with
  | some d => (List.range d.entries).map fun i => imageLe s b (d.offset + i * d.entryBytes) d.entryBytes
  | none => []

/-- The image of a bank as the engines read it. -/
def parsePlan (s : State) (b : Fin 2) : Plan :=
  let h := parseHeader s b
  let dir := parseDir s b
  let get := sectionEntries s b dir
  { planId := h.planId, nearEnd := h.nearEnd, dir := dir, streams := (get 0x01).map parseStream,
    views := (get 0x02).map parseView, terrace := (get 0x05).map parseZoom, pool := (get 0x06).map parsePool,
    masks := (get 0x08).map parseMask, regions := (get 0x0A).map parseRegion, geyser := (get 0x0B).map parseGeyser,
    caldera := (get 0x0C).map parsePlane, basin := (get 0x0D).map parseRing, dma := (get 0x0E).map parseDma,
    device := ((get 0x0F).map parseDevice).headD default, routes := (get 0x10).map parseRoute,
    sched := (get 0x11).map parseSched, allocs := (get 0x12).map parseAlloc,
    proof := (get 0x13).map fun x => (fld x 0 8, fld x 8 8) }

/-- The array section of a type: image offset and entries, 0 entries where it is omitted. -/
def arraySection (dir : List DirE) (t : Nat) : Nat × Nat :=
  match sectionIn dir t with
  | some d => (d.offset, d.entries)
  | none => (0, 0)

/-! Checksums (20 R390). -/

/-- Tiles of the CRC table: the smallest count whose entries cover the other section tiles. -/
def crcTilesFor (tiles : Nat) : Nat := ceilDiv (tiles - 1) 1025

/-- Bytes with those from `a` on, `n` of them, taken as zero. -/
def blank (a n : Nat) (bs : List Byte) : List Byte := bs.take a ++ List.replicate n 0 ++ bs.drop (a + n)

/-- HEADER_CRC holds. -/
def headerCrcOk (s : State) (b : Fin 2) : Bool :=
  decide (imageLe s b 0x1F8 4 = (crc32c (blank 0x1F8 4 (imageBytes s b 0 4096))))

/-- CRC_TABLE_CRC and every tile's CRC hold. -/
def tileCrcsOk (s : State) (b : Fin 2) : Bool :=
  let h := parseHeader s b
  decide (imageLe s b 0x1FC 4 = (crc32c (imageBytes s b 4096 (4096 * h.crcTiles)))) &&
    (List.range (h.tiles - 1 - h.crcTiles)).all fun i =>
      decide (imageLe s b (4096 + 4 * i) 4 = (crc32c (imageBytes s b (4096 * (h.crcTiles + 1 + i)) 4096)))

end Sys2Proof.Machine
end

