-- ==== Sys2Proof/Machine/Ports.lean ====
section
/-! DEFINITION. The downstream ports, CXL transfers and their errors, PCIe links, near memory (12 R233 to R254; 22 R429,
R430). -/

namespace Sys2Proof.Machine

/-! CXL transfers. -/

/-- The sub-link of a window address (12 R236). -/
def subOf (p : Port) (addr : Nat) : Fin 4 := if p.mode.val = 2 ∧ addr / 4096 % 2 = 1 then 1 else 0

/-- 64-byte requests of a transfer (12 R234). -/
def CxlReq.count (r : CxlReq) : Nat := ceilDiv r.len 64

/-- A transfer leaves the port, and its credits are returned; `failed` requests count in ERRORS (12 R238, R239, R243). -/
def retire (p : Fin 4) (r : CxlReq) (failed : Nat) (flag : Option (Fin 5)) (s : State) : State :=
  let lat := (now s - r.issued) / (16 * Config.nsUnits)
  s.modDown p fun d =>
    { d with
      requests := d.requests.erase r
      latMax := BitVec.ofNat 16 (max d.latMax.toNat (min 65535 lat))
      errors := satAdd d.errors failed
      flags := match flag with | some f => d.flags.raise f | none => d.flags }

/-- The data of a read go to its requester (12 R239). -/
def answerRead (p : Fin 4) (r : CxlReq) (data : List Byte) (poison : Bool) (s : State) : State :=
  match r.user with
  | .dma c serial space index dst tile => dmaReturn c serial space index dst p.val r.addr tile data poison s
  | .reader job key => answerJob job key data poison s
  | .writer _ => s

/-- A write has failed: the device keeps what it holds, and the ring's tile there fails its CRC at its next use (12 R239). -/
def writeLost (r : CxlReq) (s : State) : State :=
  match r.user with
  | .writer i => modRings i (fun q =>
      { q with tiles := q.tiles.map fun t => if q.tileAddr t.seq = r.addr then { t with failed := true } else t }) s
  | _ => s

/-- Bytes with 64 of them zero. -/
def poisoned (bs : List Byte) (k : Nat) : List Byte := bs.take (64 * k) ++ List.replicate 64 0 ++ bs.drop (64 * k + 64)

/-- A response (12 R239): data, a poisoned 64 bytes of a read, or the error of a write. The credits that return let waiting tile
reads go on. -/
def respondCxl (p : Fin 4) (r : CxlReq) (poison : Option (Fin 64)) (error : Bool) (s : State) : State :=
  pumpPort p <|
  if r.write then
    if error then writeLost r (retire p r 1 (some 3) s) else cxlPut p r.addr r.data (retire p r 0 none s)
  else
    let data := cxlPeek s p r.addr r.len
    match poison.filter fun k => decide (k.val < r.count) with
    | some k =>
      let s := raiseFault 0x0305 2 p.val (r.addr + 64 * k.val) 0 none (retire p r 1 (some 2) s)
      answerRead p r (poisoned data k.val) true s
    | none => answerRead p r data false (retire p r 0 none s)

/-- A transfer without a response: its credits are returned, a read delivers zeros (12 R239). -/
def timeOut (p : Fin 4) (r : CxlReq) (s : State) : State :=
  let s := retire p r r.count (some 4) s
  pumpPort p <| if r.write then writeLost r s else answerRead p r (List.replicate r.len 0) true s

/-- CXL_RESPONSE (12 R239): to the oldest transfer whose link is up. -/
def execCxlResponse (port : Fin 4) (poison : Option (Fin 64)) (error : Bool) (s : State) :
    Host.Outcome State Fault Refusal :=
  .next <|
    let d := downPort s port
    if !locked s 4 || !engines s then s
    else match d.requests.find? fun r => vget d.linkUp (subOf d r.addr) && windowHolds s port r.addr r.len with
      | some r => respondCxl port r poison error s
      | none => s

/-- CXL_TIMEOUT (12 R239): 50 us after its issue. -/
def execCxlTimeout (port : Fin 4) (s : State) : Host.Outcome State Fault Refusal :=
  .next <|
    match (downPort s port).requests with
    | r :: _ => if engines s && decide (r.issued + 50 * Config.usUnits ≤ now s) then timeOut port r s else s
    | [] => s

/-! Links. -/

/-- A sub-link of a port loses its link: what it carries is completed as timed out (12 R239, R240). -/
def dropLink (p sub : Fin 4) (s : State) : State :=
  let d := downPort s p
  let lost := d.requests.filter fun r => subOf d r.addr = sub
  let s := s.modDown p fun d =>
    { d with
      linkUp := vset d.linkUp sub false, subRate := vset d.subRate sub 0, subWidth := vset d.subWidth sub 0
      capacity := vset d.capacity sub 0, mapped := vset d.mapped sub false }
  lost.foldl (fun s r => timeOut p r s) s

/-- The loss of a link is noted (12 R240, R243). -/
def noteDown (p : Fin 4) (s : State) : State :=
  s.modDown p fun d => { d with flags := d.flags.raise 0, linkDowns := satAdd d.linkDowns 1 }

/-- The writers of a port's rings cannot issue while a link of its is down; they stop by their queues (12 R240). -/
def cxlDown (p sub : Fin 4) (s : State) : State :=
  if cxlMode (downPort s p).mode.val && vget (downPort s p).linkUp sub then
    raiseFault 0x0301 2 p.val sub.val 0 none (dropLink p sub (noteDown p s))
  else s

/-- CXL_LINK_DOWN (12 R239, R240). -/
def execCxlLinkDown (port sub : Fin 4) (s : State) : Host.Outcome State Fault Refusal := .next (cxlDown port sub s)

/-- A link of a port may come up: the port is in a mode that has it, its devices are out of reset, and one is there (22 R429,
12 R233). -/
def linkCanTrain (s : State) (p sub : Fin 4) : Bool :=
  let d := downPort s p
  firmware s && locked s 4 && decide (sub.val < modeSubs d.mode.val) && d.perstOut && !d.absent && !vget d.linkUp sub

/-- Width and rate as trained are those of a link of the mode, at most at TARGET_RATE. -/
def trainedOk (d : Port) (width rate : Nat) : Bool :=
  decide ([1, 2, 4, 8, 16].contains width = true ∧ width * modeSubs d.mode.val ≤ 16 ∧ rate ≤ d.targetRate)

/-- Width and rate of a sub-link with which the banks that stand verified were verified: ACTIVE, PENDING or VERIFIED (12 R240, 03
R44); a link that was down then is not among them. -/
def verifiedLinks (s : State) (p sub : Fin 4) : List (Nat × Nat) :=
  let banks := (List.finRange 2).filter fun b =>
    (s.bank b).state = .active || (s.bank b).state = .pending || (s.bank b).state = .verified
  (banks.map fun b => (s.bank b).links.getD (p.val * 4 + sub.val) (0, 0)).filter fun l => decide (l.1 ≠ 0)

/-- GT/s of a rate code, in whole units as PORT_DEGRADED reports it. -/
def rateGts (code : Nat) : Nat := rateTenths code / 10

/-- A link that retrains at another width or rate (12 R240, 03 R44). -/
def degrade (p : Fin 4) (width rate : Nat) (s : State) : State :=
  raiseFault 0x0302 1 p.val width (rateGts rate) none
    (bumpGen false (s.modDown p fun d => { d with flags := d.flags.raise 1 }))

/-- The link of a sub-link is up, and its device is not mapped yet: Memory_Active is awaited (12 R235). -/
def awaitsActive (d : Port) (sub : Fin 4) : Bool :=
  cxlMode d.mode.val && vget d.linkUp sub && !vget d.mapped sub && !vget d.unsupported sub

/-- The firmware maps the device's volatile capacity, once Memory_Active has appeared (12 R234 to R236). -/
def mapDevice (p sub : Fin 4) (capacity : Nat) (s : State) : State :=
  s.modDown p fun d => { d with capacity := vset d.capacity sub capacity, mapped := vset d.mapped sub true }

/-- A CXL link trains (12 R234, R240); Memory_Active is awaited from now on, and a device outside the subset is reported. -/
def trainCxl (p sub : Fin 4) (width rate : Nat) (supported : Bool) (s : State) : State :=
  let s := s.modDown p fun d =>
    { d with
      linkUp := vset d.linkUp sub true, subWidth := vset d.subWidth sub width, subRate := vset d.subRate sub rate
      upAt := vset d.upAt sub (now s), unsupported := vset d.unsupported sub !supported }
  let s := if supported then s else raiseFault 0x0303 2 p.val sub.val 0 none s
  if (verifiedLinks s p sub).any fun l => l ≠ (width, rate) then degrade p width rate s else s

/-- CXL_LINK_UP (12 R234 to R237, R240): the link trains, and where `device.active` says that Memory_Active has appeared the firmware
maps the device; on a link that waits for it, the row maps it. -/
def execCxlLinkUp (port sub : Fin 4) (width rate capacity : Nat) (device : CxlDevice) (s : State) :
    Host.Outcome State Fault Refusal :=
  .next <|
    let d := downPort s port
    if firmware s && awaitsActive d sub && device.active then mapDevice port sub capacity s
    else if !linkCanTrain s port sub || !cxlMode d.mode.val || !trainedOk d width rate || rate < 2 then s
    else
      let s := trainCxl port sub width rate device.supported s
      if device.active && device.supported then mapDevice port sub capacity s else s

/-- CXL_NOT_ACTIVE (12 R235): Memory_Active has not appeared for 1 s, and the link is treated as down. -/
def execCxlNotActive (port sub : Fin 4) (s : State) : Host.Outcome State Fault Refusal :=
  .next <|
    let d := downPort s port
    if firmware s && awaitsActive d sub && decide (vget d.upAt sub + Config.secUnits ≤ now s) then
      raiseFault 0x0304 2 port.val sub.val 0 none (dropLink port sub s)
    else s

/-- The archives on a sub-link whose link goes down: their appenders stop until they are attached again (12 R241). -/
def stopArchives (p sub : Fin 4) (s : State) : State :=
  let s := (List.finRange 16).foldl (fun s a =>
    let v := archiveOf s a
    if v.attached && v.port = p && v.sub = sub then
      (abandonAppend a s).modArchive a fun v => { v with attached := false, full := false, placed := [], newPlaced := 0 }
    else s) s
  s

/-- A PCIe link of a port goes down. -/
def pcieDown (p sub : Fin 4) (s : State) : State :=
  if pcieMode (downPort s p).mode.val && vget (downPort s p).linkUp sub then
    stopArchives p sub (dropLink p sub (noteDown p s))
  else s

/-- PCIE_DS_LINK_DOWN (12 R241). -/
def execPcieDsLinkDown (port sub : Fin 4) (s : State) : Host.Outcome State Fault Refusal := .next (pcieDown port sub s)

/-- PCIE_LINK_RETURN (12 R241): a link of a PCIe mode trains, and the firmware identifies its drive: Identify, Get Features and
Set Features (log entry 62: DESIGN CHOICE). -/
def execPcieLinkReturn (port sub : Fin 4) (width rate lbaSize tiles : Nat) (volatileCache supported : Bool) (s : State) :
    Host.Outcome State Fault Refusal :=
  .next <|
    let d := downPort s port
    if !linkCanTrain s port sub || !pcieMode d.mode.val || !trainedOk d width rate then s
    else
      let s := s.modDown port fun d =>
        { d with
          linkUp := vset d.linkUp sub true, subWidth := vset d.subWidth sub width, subRate := vset d.subRate sub rate
          unsupported := vset d.unsupported sub !supported }
      let s := s.modDrive (driveAt port sub) fun x =>
        { x with lbaSize := lbaSize, nsTiles := tiles, volatileCache := volatileCache }
      if supported then adminCmds port sub [0x06, 0x0A, 0x09] s else raiseFault 0x0303 2 port.val sub.val 0 none s

/-- DS_PRSNT_CHANGE (22 R429, R430): the level of DS_PRSNT_N; high while links are up, they go down. -/
def execDsPrsntChange (port : Fin 4) (level : Bool) (s : State) : Host.Outcome State Fault Refusal :=
  .next <|
    let s := s.modDown port fun d => { d with absent := level }
    if level then (List.finRange 4).foldl (fun s n => pcieDown port n (cxlDown port n s)) s else s

/-- DS_PERST_RELEASE (22 R429): 1 ms after PORT_MODE left OFF. -/
def execDsPerstRelease (port : Fin 4) (s : State) : Host.Outcome State Fault Refusal :=
  .next <|
    match (downPort s port).perstAt with
    | some t => if t ≤ now s then s.modDown port fun d => { d with perstOut := true, perstAt := none } else s
    | none => s

/-! PORT_MODE. -/

/-- A ring of a bank in use lies on the port, an archive on it is attached, recovery runs, or an earlier PORT_MODE of the port
waits (12 R242). -/
def portBusy (s : State) (p : Fin 4) : Bool :=
  let inUse := fun b : Fin 2 => (s.bank b).state = .active || (s.bank b).state = .pending || (s.bank b).state = .draining
  ([0, 1].any fun b => inUse b && (planIn s b).rings.any fun r => r.2.port = p.val) ||
  ((List.finRange 16).any fun a => (archiveOf s a).attached && (archiveOf s a).port = p) ||
  s.plans.recovering ||
  waits (fun w => match w with | .portMode q _ => q = p | _ => false) s

/-- The first CXL resource of a port that a bank's sums exceed at a mode's full width and rate (12 R242, 03 R44). -/
def portExceeds (s : State) (p : Fin 4) (mode rate : Nat) : Option Nat :=
  let ceil := if cxlMode mode then cxlRateCeiling 16 rate else 0
  let req := if cxlMode mode then 1024 else 0
  (boundBanks s).findSome? fun b =>
    let q := planIn s b
    if ceil < cxlWriteLoad q p.val then some (0x10 + p.val)
    else if ceil < cxlReadLoad q p.val s.params.epochPeriod then some (0x14 + p.val)
    else if req < cxlCreditLoad q p.val then some (0x18 + p.val)
    else none

/-- The mode is set: every link of the port goes down, and the devices leave reset 1 ms after OFF was left (12 R242, 22
R429). -/
def setPortMode (p : Fin 4) (mode : Fin 6) (rate : Nat) (s : State) : State :=
  let s := (List.finRange 4).foldl (fun s n => dropLink p n s) s
  bumpGen true (s.modDown p fun d =>
    { d with
      mode := mode, targetRate := rate, unsupported := Vector.replicate 4 false
      perstOut := d.perstOut && mode ≠ 0
      perstAt := if mode = 0 then none else if d.perstOut then none else (d.perstAt.or (some (now s + Config.msUnits))) })

/-- Trained width and rate of each sub-link (12 R242). -/
def trainedReply (d : Port) : List Byte :=
  (List.finRange 4).flatMap fun n =>
    let up := vget d.linkUp n
    word (if up then vget d.subWidth n else 0) ++ word (if up then vget d.subRate n else 0)

/-- PORT_MODE (12 R233, R242). -/
def execPortMode (s : State) : Host.Outcome State Fault Refusal :=
  .next <| serve (fixedSpec 0xE01 (some 9) [whole 1, whole 1, whole 1])
    (fun c s =>
      match unit 4 (c.u 0 1), unit 6 (c.u 1 1) with
      | none, _ => (s, bad 0)
      | _, none => (s, bad 1)
      | some p, some m =>
        let rate := c.u 2 1
        if 4 < rate ∨ (cxlMode m.val = true ∧ rate < 2) then (s, bad 2)
        else if portBusy s p then (s, refuse .busyRunning 0)
        else match portExceeds s p m.val rate with
          | some r => (s, refuse .budgetExceeded r)
          | none =>
            let s := setPortMode p m rate s
            if m = 0 ∨ (downPort s p).absent then (s, ok (trainedReply (downPort s p)))
            else (s, .wait (.portMode p (now s + 100 * Config.msUnits)))) s

/-- Every link that a mode awaits is up: in a CXL mode one on every sub-link; in a PCIe mode those on which PCIe receiver
detection finds a device; none where no device is present (12 R242). -/
def awaitedUp (d : Port) (detected : BitVec 4) : Bool :=
  d.absent || d.subs.all fun n => vget d.linkUp n || !(cxlMode d.mode.val || detected.getLsb n)

/-- PORT_MODE_DONE (12 R242): every awaited link has trained, or 100 ms have passed. `port.detected` says on which sub-links receiver
detection finds a device. -/
def execPortModeDone (port : DetectedPort) (s : State) : Host.Outcome State Fault Refusal :=
  .next <|
    let mine := fun w : Wait => match w with | .portMode q _ => q = port.port | _ => false
    let d := downPort s port.port
    let due := (s.host.deferred.find? fun d => mine d.wait).any fun d =>
      match d.wait with | .portMode _ t => decide (t ≤ now s) | _ => false
    let up := awaitedUp d port.detected
    if !firmware s || (!up && !due) then s
    else finish mine (fun _ s =>
      (s, { status := if up then .ok else .timeout, detail := 0, payload := trainedReply (downPort s port.port) })) s

/-! Status. -/

/-- An entry of PORT_STATUS (12 R243). -/
def portEntry (s : State) (n : Nat) : List Byte :=
  match unit 4 n with
  | none => padTo 32 []
  | some p =>
    let d := downPort s p
    let (w, r) := d.effective
    let each := fun (f : Fin 4 → Nat) (width : Nat) =>
      ((List.finRange 4).map fun n => (if vget d.linkUp n then f n else 0) * 2 ^ (width * n.val)).sum
    let up := ((List.finRange 4).map fun n => atBit n.val (vget d.linkUp n)).sum
    word (d.mode.val + up * 2 ^ 3 + (if w = 0 then 0 else r) * 2 ^ 7 + w * 2 ^ 10 + atBit 15 (d.unsupported.toList.any id) +
      each (vget d.subRate) 3 * 2 ^ 16) ++
    word d.flags.now.toNat ++ word (windowOf d / 2 ^ 20) ++ word (d.reqPeak.toNat + d.latMax.toNat * 2 ^ 16) ++
    word d.errors.toNat ++ word d.linkDowns.toNat ++ toLe 8 (d.flags.occWord 0 5 + each (vget d.subWidth) 5 * 2 ^ 40)

/-- Clears the flags that a mask names, and the counters of a port (12 R243). -/
def portClear (n mask : Nat) (s : State) : State :=
  match unit 4 n with
  | some p => s.modDown p fun d =>
      { d with flags := d.flags.statusClear mask, reqPeak := 0, latMax := 0, errors := 0, linkDowns := 0 }
  | none => s

/-- PORT_STATUS (12 R243). -/
def execPortStatus (s : State) : Host.Outcome State Fault Refusal :=
  .next <| serve (statusSpec 0xE02 9) (statusBody 4 32 (fun _ => []) portEntry portClear) s

/-! Near memory. -/

/-- The allocations of a bank that is not EMPTY; those of a LOADED one stand in its image (20 R394, R395). -/
def bankAllocs (s : State) (b : Fin 2) : List AllocE :=
  match (s.bank b).state with
  | .empty => []
  | .loaded =>
    (match sectionIn (parseDir s b) 0x12 with
     | some d => (List.range (min d.entries 1024)).map fun i => parseAlloc (imageLe s b (d.offset + i * d.entryBytes) d.entryBytes)
     | none => [])
  | _ => (planIn s b).allocs

/-- A masked segment holds part of a bank that is not EMPTY, or one of its allocations (12 R242, R251). -/
def segmentUsed (s : State) (mask : Nat) : Bool :=
  let seg := nearSize s / 8
  (List.finRange 2).any fun b => (bankAllocs s b).any fun a =>
    (List.range 8).any fun n => bit n mask && decide (a.base < (n + 1) * seg ∧ n * seg < a.base + a.bytes)

/-- NEARMEM_PASR (12 R242, R251). -/
def execNearmemPasr (s : State) : Host.Outcome State Fault Refusal :=
  .next <| serve (fixedSpec 0xE03 (some 9) [whole 1])
    (fun c s =>
      let mask := c.u 0 1
      if bit 0 mask then (s, bad 0)
      else if segmentUsed s mask then (s, refuse .refusedState 0)
      else (s.modNear fun n => { n with pasr := BitVec.ofNat 8 mask }, ok [])) s

/-- The 32 bytes of NEARMEM_STATUS (12 R254). -/
def nearStatus (s : State) : List Byte :=
  let n := s.down.near
  padTo 32 (
    word (n.trained.toNat + (n.refresh.toList.max?.getD 0) * 2 ^ 16 + n.pasr.toNat * 2 ^ 18) ++ word n.flags.now.toNat ++
    word n.retries.toNat ++ word n.fails.toNat ++ toLe 8 n.failAddr.toNat ++ word (n.flags.occWord 0 4))

/-- NEARMEM_STATUS (12 R254). -/
def execNearmemStatus (s : State) : Host.Outcome State Fault Refusal :=
  .next <| serve (singleSpec 0xE04 9) (fun c s =>
    if bit 0 (c.u 0 1) = false ∧ c.u 4 4 ≠ 0 then (s, bad 4)
    else
      let rsp := nearStatus s
      if bit 0 (c.u 0 1) then
        (s.modNear fun n => { n with flags := n.flags.statusClear (c.u 4 4), retries := 0, fails := 0 }, ok rsp)
      else (s, ok rsp)) s

/-- The MR4 code of one channel: 0 x1, 1 x2, 2 x4, 3 above the x4 range (12 R249). -/
def channelRefresh (s : State) (ch : Fin 16) (code : Fin 4 × BitVec 8) : State :=
  let s := s.modNear fun n =>
    { n with
      refresh := vset n.refresh ch code.1.val
      flags :=
        let f := if code.1.val = 0 then n.flags else n.flags.raise 2
        if code.1.val = 3 then f.raise 3 else f }
  if code.1.val = 3 then raiseFault 0x0307 2 ch.val code.2.toNat 0 none s else s

/-- NEARMEM_MAINTENANCE (12 R249): what each channel's MR4 code says, with the code. -/
def execNearmemMaintenance (codes : Vector (Fin 4 × BitVec 8) 16) (s : State) : Host.Outcome State Fault Refusal :=
  .next <|
    if !locked s 3 || s.dev.state = .suspended then s
    else (List.finRange 16).foldl (fun s ch =>
      if bit ch.val s.down.near.trained.toNat then channelRefresh s ch (vget codes ch) else s) s

/-- NEARMEM_READ_FAIL (12 R250): a read of a port fails its link check, and is repeated; `again` says that the repeat fails
too: then the port's next read of these 64 bytes receives data of which nothing is known (log entry 62: DESIGN CHOICE). -/
def execNearmemReadFail (port : Nat) (address : U64) (again : Bool) (s : State) : Host.Outcome State Fault Refusal :=
  .next <|
    let at_ := address.toNat / 64 * 64
    if !locked s 3 || 7 ≤ port || s.dev.state = .suspended || nearSize s ≤ at_ || !bit (nearChannel at_) s.down.near.trained.toNat then s
    else
      let s := s.modNear fun n => { n with retries := satAdd n.retries 1 }
      if again then
        let (serial, s) := freshSerial s
        raiseFault 0x0308 2 port at_ 0 none (s.modNear fun n =>
          { n with
            flags := n.flags.raise 1, fails := satAdd n.fails 1, failAddr := BitVec.ofNat 64 at_
            failing := { port := port, addr := at_, serial := serial } :: n.failing })
      else s.modNear fun n => { n with flags := n.flags.raise 0 }

end Sys2Proof.Machine
end

