-- ==== Sys2Proof/Machine/Boot.lean ====
section
/-! DEFINITION. Power, reset inputs, fuses, boot, watchdogs, PLLs and ALIVE (21 R406 to R421). -/

namespace Sys2Proof.Machine

/-- What every reset leaves as it was: the queue of waiting commands, the trail, the free values drawn, the hosts'
memories, the CXL memories and drives (21 R409), the fuses and the variant. -/
def keepOutside (s r : State) : State :=
  { r with
    pending := s.pending
    free := s.free
    out := s.out
    hostMem := s.hostMem
    down := { r.down with cxl := s.down.cxl, drives := s.down.drives } }

/-- The device part that a reset starts from: fuses, straps, inputs and the trip latch stay. -/
def keptDev (d : Dev) : Dev :=
  { Dev.reset with
    is128 := d.is128
    powered := d.powered
    porstN := d.porstN
    wrstN := d.wrstN
    provEn := d.provEn
    testMode := d.testMode
    i2cAddr := d.i2cAddr
    fuses := d.fuses
    tripLatch := d.tripLatch
    tripHold := d.tripHold
    tripNew := d.tripNew
    bootStep := 0 }

/-- The state while PORST_N is low, or while the trip holds the device (21 R408, R423). -/
def heldReset (s : State) : State :=
  let r := { State.reset with dev := keptDev s.dev }
  let evt := { r.evt with inputs := Vector.ofFn fun i =>
    { EvtIn.reset with latencyPs := vget s.dev.fuses.evtLatency i } }
  keepOutside s { r with evt := evt }

/-- PORST_N_ASSERT (21 R408). -/
def execPorstNAssert (s : State) : Host.Outcome State Fault Refusal :=
  .next <|
    if s.dev.powered && s.dev.porstN then
      heldReset { s with dev := { s.dev with porstN := false, tripHold := false } }
    else s

/-- What self-refresh leaves of near memory: its contents, what is known of them, and the mask (12 R251). -/
def selfRefresh (n : NearMem) : NearMem :=
  { NearMem.reset with
    data := n.data, pasr := n.pasr, held := n.held || n.trained ≠ 0, unallocated := n.unallocated, stale := n.stale }

/-- While WRST_N holds the device: near memory stays, and PLL_T and DLL_T run on; station time and TIME_VALID stay where TREF has
been present throughout (21 R409). -/
def suspended (s : State) : State :=
  let r := heldReset s
  let down := { r.down with near := selfRefresh s.down.near }
  let plls := Vector.ofFn fun i : Fin 7 => if i = 2 then vget s.dev.plls 2 else vget r.dev.plls i
  { r with
    dev := { r.dev with state := .suspended, plls := plls, trefLost := s.dev.trefLost }
    time := { r.time with
      raw := if s.dev.trefLost then 0 else s.time.raw
      tclk := s.time.tclk, elapsed := s.time.elapsed, valid := s.time.valid && !s.dev.trefLost }
    evt := { r.evt with dllT := s.evt.dllT }
    down := down }

/-- Starts the boot sequence at step 1 (21 R413). -/
def startBoot (warm : Bool) (s : State) : State :=
  { s with dev := { s.dev with state := .boot, bootStep := 1, bootWarm := warm } }

/-- WRST_N_ASSERT (21 R409); PORST_N governs while it is low. -/
def execWrstNAssert (s : State) : Host.Outcome State Fault Refusal :=
  .next <|
    let s' := { s with dev := { s.dev with wrstN := false } }
    if s.dev.powered && s.dev.porstN && !s.dev.tripHold then suspended s' else s'

/-- PORST_N_RELEASE (21 R408, 22 R429): the straps are sampled, and the boot runs, or WRST_N holds the device. -/
def execPorstNRelease (provEn testMode : Bool) (i2c : BitVec 2) (s : State) : Host.Outcome State Fault Refusal :=
  .next <|
    if !s.dev.powered || s.dev.porstN then s
    else
      let s := { s with dev := { s.dev with porstN := true, provEn := provEn, testMode := testMode, i2cAddr := i2c } }
      if s.dev.wrstN then startBoot false s else { s with dev := { s.dev with state := .suspended } }

/-- WRST_N_RELEASE (21 R409). -/
def execWrstNRelease (s : State) : Host.Outcome State Fault Refusal :=
  .next <|
    let s' := { s with dev := { s.dev with wrstN := true } }
    if s.dev.powered && s.dev.porstN && s.dev.state = .suspended then startBoot true s' else s'

/-- POWER_UP (21 R406): the device is held in reset. -/
def execPowerUp (s : State) : Host.Outcome State Fault Refusal :=
  .next <|
    if s.dev.powered then s
    else
      let d := { s.dev with powered := true, porstN := false, tripLatch := false, tripHold := false, tripNew := false }
      heldReset { s with dev := d }

/-- POWER_DOWN (21 R407): PORST_N is low first; removing VDD_IO clears the trip latch (R423). -/
def execPowerDown (s : State) : Host.Outcome State Fault Refusal :=
  .next <|
    if s.dev.powered && !s.dev.porstN then
      heldReset { s with dev := { s.dev with powered := false, tripLatch := false, tripHold := false, tripNew := false } }
    else s

/-- HW_THERMAL_TRIP (21 R423): as PORST_N low, with the latch set. -/
def execHwThermalTrip (s : State) : Host.Outcome State Fault Refusal :=
  .next <|
    if s.dev.powered then
      heldReset { s with dev := { s.dev with tripLatch := true, tripHold := true, tripNew := true } }
    else s

/-! Fuses (21 R411). -/

/-- Fuses may be programmed: powered, PROV_EN sampled high, and the boot stopped at step 2. -/
def provisioning (s : State) : Bool :=
  s.dev.powered && s.dev.porstN && s.dev.provEn && s.dev.state = .boot && s.dev.bootStep = 0

/-- Programs a field: a blown bit cannot be cleared, a programmed key slot cannot be changed. -/
def programFuse (f : FuseField) (x : Fuses) : Fuses :=
  match f with
  | .rootKey v => { x with rootKey := if x.rootKey = 0 then v % 2 ^ 384 else x.rootKey }
  | .planKey i v =>
    { x with planKeys := vmod x.planKeys i fun o => match o with | none => some (v % 2 ^ 384) | some k => some k }
  | .sigRequired => { x with sigRequired := true }
  | .rollback n => { x with rollback := min 64 (x.rollback + n) }
  | .tdc i taps coeff =>
    { x with tdcTables := vmod x.tdcTables i fun t => if t.taps = [] then { taps := taps, coeff := coeff } else t }
  | .sensorTrim i v => { x with sensorTrims := vmod x.sensorTrims i fun t => if t = 0 then v else t }
  | .evtLatency i v => { x with evtLatency := vmod x.evtLatency i fun t => if t = 0 then v % 65536 else t }
  | .vddCore v => { x with vddCore := if 720 ≤ v ∧ v ≤ 800 ∧ v % 5 = 0 then v else x.vddCore }

/-- FUSE_PROGRAM (21 R411). -/
def execFuseProgram (field : FuseField) (s : State) : Host.Outcome State Fault Refusal :=
  .next <|
    if provisioning s then { s with dev := { s.dev with fuses := programFuse field s.dev.fuses } } else s

/-! Firmware images and the boot steps. -/

/-- The cause for which the boot ROM refuses a slot, none when it accepts it (21 R412, R424). -/
def slotCause (f : Fuses) (bs : List Byte) : Option Nat :=
  let key := (bs.drop 0x00C).take 97
  let len := ofLe ((bs.drop 8).take 4)
  let image := bs.take (0x200 + len)
  let digest := sha384 (image.take 0x70 ++ List.replicate 96 0 ++ image.drop 0xD0)
  let r := ofBe ((bs.drop 0x70).take 48)
  let t := ofBe ((bs.drop 0xA0).take 48)
  if ofLe (bs.take 4) ≠ 0x0F1A1640 then some 1
  else if ofBe (sha384 key) ≠ f.rootKey then some 2
  else if 8 * 2 ^ 20 < len ∨ bs.length < 0x200 + len ∨ !ecdsaVerify key digest r t then some 3
  else if ofLe ((bs.drop 6).take 1) < f.rollback then some 4
  else none

/-- Boots the image of a slot: its version and rollback index. -/
def takeImage (bs : List Byte) (s : State) : State :=
  { s with dev := { s.dev with
    fwVersion := ofLe ((bs.drop 4).take 2), fwRollback := ofLe ((bs.drop 6).take 1), bootStep := 7 } }

def setStep (n : Nat) (s : State) : State := { s with dev := { s.dev with bootStep := n } }

/-- PLLs that lock together. -/
def lockPlls (l : List (Fin 7)) (s : State) : State :=
  { s with dev := { s.dev with plls := l.foldl (fun v i => vmod v i fun p => { p with locked := true }) s.dev.plls } }

/-- Step 12: READY (21 R413). ROLLBACK_ADVANCED and HW_THERMAL_TRIP are posted then (R412, R423), and WATCHDOG where a
bad firmware copy led to this boot (R416). -/
def bootReady (s : State) : State :=
  let s := { s with dev := { s.dev with
    state := .ready, bootStep := 0, aliveRun := true, serviced := Vector.replicate 2 true } }
  let old := s.dev.fuses.rollback
  let s :=
    if old < s.dev.fwRollback then
      raiseFault 0x0103 0 s.dev.fwRollback old 0 none
        { s with dev := { s.dev with fuses := { s.dev.fuses with rollback := s.dev.fwRollback } } }
    else s
  let s := if s.dev.tripNew then
    raiseFault 0x010E 2 0 0 0 none { s with dev := { s.dev with tripNew := false } } else s
  match s.dev.wdog with
  | some (c, pc, t) => raiseFault 0x0106 2 c.val pc.toNat (time64 t) none { s with dev := { s.dev with wdog := none } }
  | none => s

/-- The addresses of a PASR segment (12 R251). -/
def segmentSpan (s : State) (n : Nat) : Nat × Nat := (n * (nearSize s / 8), (n + 1) * (nearSize s / 8))

/-- Ranges of near memory hold whatever their cells retained. -/
def forgetNear (gone : List (Nat × Nat)) (s : State) : State :=
  let (serial, s) := freshSerial s
  s.modNear fun n =>
    { n with
      stale := gone.map (fun r => { lo := r.1, hi := r.2, serial := serial }) ++
        gone.foldl (fun l r => l.flatMap fun x => x.without r.1 r.2) n.stale
      data := n.data.filter fun c => !gone.any fun r => decide (r.1 ≤ c.1 ∧ c.1 < r.2) }

/-- After self-refresh the segments of the mask hold whatever their cells retained, and are marked unallocated (12 R251);
memory that was not in self-refresh holds nothing known. -/
def wakeNear (s : State) : State :=
  let n := s.down.near
  let gone := if n.held then ((List.range 8).filter fun i => bit i n.pasr.toNat).map (segmentSpan s) else [(0, nearSize s)]
  (forgetNear gone s).modNear fun n => { n with unallocated := n.unallocated ||| n.pasr }

/-- Step 8: every channel has passed the seven steps of its training, the last of which leaves the array zero (12 R247); after
WRST_N the contents that self-refresh kept stay (21 R413, 12 R251). -/
def trainNear (s : State) : State :=
  let s := if s.dev.bootWarm then wakeNear s else s.modNear fun n => { n with data := [], stale := [], unallocated := 0 }
  lockPlls [3] (s.modNear fun n => { n with trained := 0xFFFF, steps := Vector.replicate 16 7, held := false })

/-- A channel of near memory fails a step of its training twice: it is left untrained, and the others are trained (12 R248). -/
def trainFailed (channel step : Nat) (s : State) : State :=
  lockPlls [3] (s.modNear fun n =>
    { n with
      trained := BitVec.ofNat 16 (0xFFFF - 2 ^ (channel % 16))
      steps := Vector.ofFn fun c => if c.val = channel % 16 then step - 1 else 7 })

/-- A boot step that ends well. -/
def stepDone (n : Nat) (s : State) : State :=
  match n with
  | 1 => setStep 2 s
  | 2 => if s.dev.provEn || s.dev.testMode then setStep 0 s else setStep 3 s
  | 3 =>
    let s := lockPlls [1, 2, 4] { s with evt := { s.evt with dllT := true, dllF := true } }
    emitOut (.voutCommand s.dev.fuses.vddCore) (setStep 4 { s with dev := { s.dev with coreSetpoint := s.dev.fuses.vddCore } })
  | 4 => setStep 5 s
  | 7 => drain { s with dev := { s.dev with bootStep := 8, fwRunning := true } }
  | 8 => setStep 9 (trainNear s)
  | 9 => setStep 10 (lockPlls [0, 5, 6] s)
  | 10 =>
    let table := fun i : Fin 16 =>
      { vget s.evt.inputs i with bootTable := decide (i.val < 2), tableTemp := roomTemp }
    setStep 11 { s with evt := { s.evt with inputs := Vector.ofFn table } }
  | 11 => setStep 12 s
  | 12 => bootReady s
  | _ => s

/-- A boot step that fails: FAULT, with the fault that the step names (21 R413); step 8 fails where a channel of near
memory cannot be trained (12 R248). -/
def stepFailed (n a0 a1 : Nat) (s : State) : State :=
  match n with
  | 3 => raiseFault 0x0104 3 0 0 0 none s
  | 8 => raiseFault 0x0306 3 a0 a1 0 none (trainFailed a0 a1 s)
  | 11 => raiseFault 0x0105 3 a0 a1 0 none s
  | _ => enterFault s

/-- The image of a slot has been read: it is booted, or the other slot is tried, or the boot fails (21 R412). -/
def stepImage (n : Nat) (bs : List Byte) (s : State) : State :=
  let cause := slotCause s.dev.fuses bs
  match n, cause with
  | 5, none => takeImage bs s
  | 5, some c => setStep 6 { s with dev := { s.dev with slotCause := vset s.dev.slotCause 0 (some c) } }
  | 6, none => raiseFault 0x0101 1 0 ((vget s.dev.slotCause 0).getD 0) 0 none (takeImage bs s)
  | 6, some c =>
    raiseFault 0x0102 3 c ((vget s.dev.slotCause 0).getD 0) 0 none
      { s with dev := { s.dev with slotCause := vset s.dev.slotCause 1 (some c) } }
  | _, _ => s

/-- BOOT_STEP_DONE (21 R413). -/
def execBootStepDone (step : Nat) (result : StepEnd) (s : State) : Host.Outcome State Fault Refusal :=
  .next <|
    if !s.dev.powered || !s.dev.porstN || s.dev.tripHold || s.dev.bootStep ≠ step || step = 0 then s
    else match result with
      | .done => if step = 5 ∨ step = 6 then s else stepDone step s
      | .failed a b => stepFailed step a b s
      | .image bs => stepImage step bs s

/-! Watchdogs and ALIVE. -/

/-- WATCHDOG (21 R416, R417). -/
def execWatchdog (core : Fin 2) (pc : U64) (s : State) : Host.Outcome State Fault Refusal :=
  .next <|
    if s.dev.state ≠ .ready ∨ s.dev.fwRunning = false then s
    else
      let recent := now s :: s.dev.expiries.filter fun t => decide (now s < t + 10 * Config.secUnits)
      let s := { s with dev := { s.dev with
        state := .watchdog, fwRunning := false, serviced := Vector.replicate 2 false, expiries := recent
        wdog := some (core, pc, now s) } }
      if 3 ≤ recent.length then
        raiseFault 0x0107 2 core.val 0 0 none { s with dev := { s.dev with limited := true } }
      else s

/-- WATCHDOG_RESTART_DONE (21 R416): with a good copy the firmware runs again and posts WATCHDOG; otherwise a full boot
from step 5 runs with the data plane stopped, and near memory loses the plan banks. -/
def execWatchdogRestartDone (digestOk : Bool) (s : State) : Host.Outcome State Fault Refusal :=
  .next <|
    if s.dev.state ≠ .watchdog ∨ s.dev.limited = true ∨ s.dev.fwRunning = true ∨ s.dev.bootStep ≠ 0 then s
    else if digestOk then
      let s' := { s with dev := { s.dev with
        state := .ready, fwRunning := true, serviced := Vector.replicate 2 true, wdog := none } }
      match s.dev.wdog with
      | some (c, pc, t) => drain (raiseFault 0x0106 2 c.val pc.toNat (time64 t) none s')
      | none => drain s'
    else
      let s := stopDataPlane s
      { s with dev := { s.dev with bootStep := 5, bootWarm := false }
               plans := { Plans.reset with gen := s.plans.gen, epoch := s.plans.epoch } }

/-- ALIVE_TOGGLE (21 R420): every 500 us of the TCLK count. -/
def execAliveToggle (s : State) : Host.Outcome State Fault Refusal :=
  .next <|
    let up := s.dev.aliveRun && s.dev.state = .ready && vget s.dev.serviced 0 && vget s.dev.serviced 1
    { s with dev := { s.dev with aliveLevel := up && !s.dev.aliveLevel } }

/-! PLLs (21 R418, R419). -/

/-- An epoch's items carry INVALID_CLOCK from now on. -/
def markInvalid (s : State) : State :=
  match s.plans.epoch with
  | some k => if s.plans.invalid.contains k then s else { s with plans := { s.plans with invalid := k :: s.plans.invalid } }
  | none => s

/-- Every bundle leaves READY, and its link-up starts again (04 R75). -/
def relinkAll (s : State) : State :=
  ((List.finRange 16).filter fun i => (s.stream i).map.run).foldl (fun s i => stopBundle i s) s

/-- Four-step views wait while MCLK is gated, and from its relock until the next boundary: a transform whose gather is not
complete at the gate is not computed (05 R102). -/
def holdFourStep (on : Bool) (s : State) : State :=
  let k := match s.plans.epoch with | some k => k + 1 | none => 0
  { s with plains := { s.plains with views := s.plains.views.map fun v =>
    { v with mHold := on, mResume := if on then v.mResume else some k } } }

/-- What the domain does at the gate. -/
def gateEffect (p : Fin 7) (s : State) : State :=
  match p with
  | 0 => gateStreams s
  | 3 => holdFourStep true s
  | 4 =>
    let down := fun (q : PortId) (s : State) => if (s.port q).linkUp then losePort q false s else s
    let s := down 1 (down 0 s)
    (List.finRange 4).foldl (fun s p => (List.finRange 4).foldl (fun s n => pcieDown p n (cxlDown p n s)) s) s
  | 5 =>
    { s with caldera := { s.caldera with outputs := s.caldera.outputs.map fun o =>
      { o with
        running := false, resume := o.resume || ((o.running || o.joins) && !o.stopAtEnd), joins := false, stopAtEnd := false
        closed := false, abortAt := none } } }
  | 6 =>
    let fab := s.fabric.lanes.map fun l => if l.state = .off then l else l.relink
    relinkAll (ethChange (fun _ => true) false { s with fabric := { s.fabric with lanes := fab } })
  | _ => s

/-- PLL_UNLOCK (21 R418, R419). -/
def execPllUnlock (pll : Fin 7) (trefAbsent : Bool) (s : State) : Host.Outcome State Fault Refusal :=
  .next <|
    if !locked s pll then s
    else
      let s := if s.dev.state = .suspended then s else gateEffect pll s
      let s := { s with dev := { s.dev with plls := vset s.dev.plls pll { locked := false, since := now s } } }
      if s.dev.state = .suspended then
        -- 21 R409: a TREF loss while SUSPENDED clears TIME_VALID, and station time restarts at 0
        if trefAbsent && pll = 2 then
          { s with dev := { s.dev with trefLost := true }, time := { s.time with raw := 0, valid := false } }
        else s
      else
        let s := if pll = 2 then { s with dev := { s.dev with trefLost := trefAbsent } } else s
        let s := if pll = 0 ∨ pll = 2 ∨ pll = 3 then markInvalid s else s
        raiseFault 0x0108 2 pll.val (time64 (now s)) 0 none s

/-- What the domain does at the relock: after PLL_D, intake resumes at the first boundary; the rasters restart after the
display PLL. -/
def relockEffect (p : Fin 7) (s : State) : State :=
  match p with
  | 0 =>
    let k := match s.plans.epoch with | some k => k + 1 | none => 0
    { s with lanes := { s.lanes with streams := s.lanes.streams.map fun t => { t with resumeAt := some k } } }
  | 2 => { s with dev := { s.dev with trefLost := false } }
  | 3 => holdFourStep false s
  | 5 => (List.finRange 2).foldl (fun s o => if (outRt s o).resume && (outRt s o).hpd then restartRaster o s else s) s
  | _ => s

/-- PLL_RELOCK (21 R418). -/
def execPllRelock (pll : Fin 7) (s : State) : Host.Outcome State Fault Refusal :=
  .next <|
    let p := vget s.dev.plls pll
    if p.locked || !s.dev.powered || !s.dev.porstN || s.dev.state = .boot then s
    else
      let s := { s with dev := { s.dev with plls := vset s.dev.plls pll { locked := true, since := 0 } } }
      if s.dev.state = .suspended then relockEffect pll s
      else raiseFault 0x0109 0 pll.val ((now s - p.since) / Config.nsUnits) 0 none (relockEffect pll s)

/-- NEARMEM_LOST (21 R418): relock takes longer than 16 ms, and refresh has failed, so that the cells keep nothing known. -/
def execNearmemLost (s : State) : Host.Outcome State Fault Refusal :=
  .next <|
    let p := vget s.dev.plls 3
    if !p.locked && engines s && decide (p.since + 16 * Config.msUnits < now s) then
      raiseFault 0x0309 3 0 ((now s - p.since) / Config.nsUnits) 0 none (forgetNear [(0, nearSize s)] s)
    else s

end Sys2Proof.Machine
end

