-- ==== Sys2Proof/Machine/Delivery.lean ====
section
/-! DEFINITION. Record delivery: host record rings and UDP destinations (11 R224 to R230). -/

namespace Sys2Proof.Machine

def ringRt (s : State) (r : Fin 16) : Ring := vget s.records.rings r

/-- The path of a host ring. -/
def ringPath (r : Fin 16) : Fin 25 := ⟨r.val, by omega⟩

/-! Host record rings. -/

/-- RING_SETUP (11 R226, R228). -/
def execRingSetup (s : State) : Host.Outcome State Fault Refusal :=
  .next <| serve (fixedSpec 0x0901 (some 8) [whole 1, whole 1, whole 1, whole 1, whole 4, whole 8])
    (fun c s =>
      let up := (unit 16 (c.u 0 1)).any fun r => (ringRt s r).isUp
      if up then (s, refuse .busyRunning 0)
      else if c.u 8 8 % 4096 ≠ 0 then (s, refuse .badAlign 8)
      else match unit 16 (c.u 0 1), unit 2 (c.u 1 1), unit 32 (c.u 2 1) with
        | none, _, _ => (s, bad 0)
        | _, none, _ => (s, bad 1)
        | _, _, none => (s, bad 2)
        | some r, some p, some v =>
          if c.u 3 1 < 18 ∨ 32 < c.u 3 1 then (s, bad 3)
          else if 10000 < c.u 4 4 then (s, bad 4)
          else if !(s.port p).linkUp then (s, refuse .notReady 0)
          else
            (s.modRecRing r fun _ =>
              { Ring.reset with
                isUp := true, port := p, vector := v, log2Bytes := c.u 3 1, holdoffUs := c.u 4 4, base := c.u 8 8 }, ok [])) s

/-- RING_TEARDOWN (11 R228): an entry is written whole in one step, so none is in progress; what still waits is dropped. -/
def execRingTeardown (s : State) : Host.Outcome State Fault Refusal :=
  .next <| serve (fixedSpec 0x0902 (some 8) [whole 1])
    (fun c s =>
      match unit 16 (c.u 0 1) with
      | none => (s, bad 0)
      | some r =>
        if !(ringRt s r).isUp then (s, refuse .refusedState 0)
        else
          let s := s.modPath (ringPath r) fun p => { p with queue := [], drops := satAdd p.drops p.queue.length }
          (s.modRecRing r fun g => { g with isUp := false, waiting := false }, ok [])) s

/-- The slots of a ring. -/
def Ring.slots (g : Ring) : Nat := 2 ^ g.log2Bytes / 64

/-- Slots that host software has not passed (11 R226). -/
def Ring.unpassed (g : Ring) : Nat := (BitVec.ofNat 32 g.written - g.consumed).toNat

/-- An entry header of 16 bytes (11 R226). -/
def entryHeader (seq : U64) (slots : Nat) (pad : Bool) : List Byte :=
  toLe 8 seq.toNat ++ toLe 4 (slots + atBit 11 pad) ++ toLe 4 (2 ^ 32 - 1 - seq.toNat % 2 ^ 32)

/-- One entry is written at the ring's slot: its record and padding, then its header (11 R226). -/
def putEntry (r : Fin 16) (slots : Nat) (pad : Bool) (body : List Byte) (s : State) : State :=
  let g := ringRt s r
  let bs := entryHeader g.entrySeq slots pad ++ padTo (slots * 64 - 16) body
  let s := s.modHostMem g.port fun m => memWrite m (g.base + g.slot * 64) bs
  s.modRecRing r fun g =>
    { g with entrySeq := g.entrySeq + 1, slot := (g.slot + slots) % max g.slots 1, written := g.written + slots }

/-- The ring's vector is raised after an entry, or waits for the end of RING_IRQ_HOLDOFF (11 R226). -/
def announceRing (r : Fin 16) (s : State) : State :=
  let g := ringRt s r
  if g.holdoffUs = 0 then s
  else if g.lastMsg.any fun t => decide (now s < t + g.holdoffUs * Config.usUnits) then
    s.modRecRing r fun g => { g with waiting := true }
  else sendMsix g.port g.vector (s.modRecRing r fun g => { g with lastMsg := some (now s), waiting := false })

/-- A record is written as an entry, behind a PAD entry where the rest of the ring is too short; it is dropped where their
slots have not all been passed (11 R226). -/
def ringEntry (r : Fin 16) (q : Queued) (s : State) : State :=
  let g := ringRt s r
  let bytes := q.item.bytes q.seq
  let need := ceilDiv (16 + bytes.length) 64
  let rest := g.slots - g.slot
  let pad := if rest < need then rest else 0
  if g.slots < g.unpassed + pad + need then dropOn (ringPath r) s
  else
    let s := if 0 < pad then putEntry r pad true [] s else s
    announceRing r (putEntry r need false bytes s)

/-- RING_ENTRY_WRITE (11 R226, R227, R228): the oldest record that waits for the ring. -/
def execRingEntryWrite (ring : Fin 16) (s : State) : Host.Outcome State Fault Refusal :=
  .next <|
    match (vget s.records.paths (ringPath ring)).queue with
    | [] => s
    | q :: rest =>
      if !engines s then s
      else
        let s := s.modPath (ringPath ring) fun p => { p with queue := rest }
        let g := ringRt s ring
        if g.isUp && (s.port g.port).linkUp then ringEntry ring q s else dropOn (ringPath ring) s

/-- RING_IRQ_HOLDOFF_EXPIRY (11 R226, 18 R370). -/
def execRingIrqHoldoffExpiry (ring : Fin 16) (s : State) : Host.Outcome State Fault Refusal :=
  .next <|
    let g := ringRt s ring
    if g.isUp && g.waiting && g.lastMsg.all fun t => decide (t + g.holdoffUs * Config.usUnits ≤ now s) then
      sendMsix g.port g.vector (s.modRecRing ring fun g => { g with lastMsg := some (now s), waiting := false })
    else s

/-! UDP destinations. -/

/-- The MAC address of a multicast destination, which needs no resolution (11 R229; log entry 17: PRESUMED): an IPv4 address as its first
byte comes first. -/
def multicastMac (ipv6 : Bool) (addr : List Byte) : Option Nat :=
  let b := fun i => (addr.getD i 0).toNat
  if ipv6 then
    if b 0 = 0xFF then some (0x3333 * 2 ^ 32 + b 12 * 2 ^ 24 + b 13 * 2 ^ 16 + b 14 * 2 ^ 8 + b 15) else none
  else if 224 ≤ b 0 ∧ b 0 < 240 then some (0x01005E000000 + b 1 % 128 * 2 ^ 16 + b 2 * 2 ^ 8 + b 3) else none

/-- The payload offset of the first field of UDP_DEST_SET that breaks R229. -/
def udpBad (c : Cmd) : Option Nat :=
  if 7 < c.u 0 1 then some 0
  else if 2 < c.u 2 1 then some 2
  else if 63 < c.u 3 1 then some 3
  else if 4094 < c.u 6 2 then some 6
  else if c.u 8 2 < 1280 ∨ 9000 < c.u 8 2 then some 8
  else if c.u 10 2 < 1 ∨ 1000 < c.u 10 2 then some 10
  else none

/-- UDP_DEST_SET (11 R228, R229). -/
def execUdpDestSet (s : State) : Host.Outcome State Fault Refusal :=
  .next <| serve
    (fixedSpec 0x0903 (some 8) [whole 1, (1, 3), whole 1, whole 1, whole 2, whole 2, whole 2, whole 2, whole 16])
    (fun c s =>
      match udpBad c, unit 8 (c.u 0 1) with
      | some x, _ => (s, bad x)
      | none, none => (s, bad 0)
      | none, some d =>
        let on := bit 0 (c.u 1 1)
        let v6 := bit 1 (c.u 1 1)
        if on && (vget s.records.udp d).enabled then (s, refuse .busyRunning 0)
        else if !on then ((flushUdp d s).modUdp d fun u => { u with enabled := false }, ok [])
        else
          let addr := (c.payload.drop 16).take 16
          (s.modUdp d fun u =>
            { u with
              enabled := true, ipv6 := v6, ports := c.u 2 1, dscp := c.u 3 1, udpPort := c.u 4 2, vlan := c.u 6 2
              mtu := c.u 8 2, flushUs := c.u 10 2, addr := addr, mac := multicastMac v6 addr, pending := [] }, ok [])) s

/-- UDP_FLUSH_EXPIRY (11 R230): FLUSH_US after the first record of the pending datagram was placed. -/
def execUdpFlushExpiry (dest : Fin 8) (s : State) : Host.Outcome State Fault Refusal :=
  .next <|
    let u := vget s.records.udp dest
    if engines s && decide (u.placedAt + u.flushUs * Config.usUnits ≤ now s) then flushUdp dest s else s

/-- ADDRESS_RESOLUTION (11 R229): the firmware has resolved a unicast address. -/
def execAddressResolution (dest : Fin 8) (mac : Nat) (s : State) : Host.Outcome State Fault Refusal :=
  .next <|
    let u := vget s.records.udp dest
    if firmware s && u.enabled && u.mac.isNone then s.modUdp dest fun u => { u with mac := some (mac % 2 ^ 48) } else s

end Sys2Proof.Machine
end

