-- ==== Sys2Proof/Machine/Event.lean ====
section
/-! DEFINITION. Event inputs and their stamps, interval pairs, the DLLs and the frame-clock outputs (15). -/

namespace Sys2Proof.Machine

/-- Domain CD12 (15 R312). -/
def cd12 : Option (Fin 16) := some 12

/-! Frame-clock outputs. -/

/-- FCO_CONFIG (15 R312). -/
def execFcoConfig (s : State) : Host.Outcome State Fault Refusal :=
  .next <| serve (fixedSpec 0xB03 cd12 [whole 1, whole 2]) (fun c s =>
    match unit 8 (c.u 0 1) with
    | none => (s, bad 0)
    | some i =>
      let d := c.u 2 2
      let f := vget s.evt.outputs i
      if d < 1 ∨ 4096 < d then (s, bad 2)
      else if f.on && f.div ≠ d then (s, refuse .busyRunning 0)
      else ((settleFco s i).modFco i fun f => if f.div = d then f else { f with div := d, phase := 0 }, ok [])) s

/-- FCO_GATE (15 R312): a mask of one byte names no output above 7. -/
def execFcoGate (s : State) : Host.Outcome State Fault Refusal :=
  .next <| serve (fixedSpec 0xB04 cd12 [whole 1, (1, 1)]) (fun c s =>
    (gateFco (c.u 0 1) (bit 0 (c.u 1 1)) s, ok [])) s

/-- The request of FCO_STEP: FLAGS, TARGET_EPOCH, then COUNT and RATE of each output. -/
def fcoStepFields : List Field := [(1, 1), whole 8] ++ List.replicate 16 (whole 4)

/-- Count and rate of an output in FCO_STEP; a COUNT of 0 leaves the output out of the schedule. -/
def stepOf (c : Cmd) (n : Nat) : Int × Nat := (c.int (16 + 8 * n) 4, c.u (20 + 8 * n) 4)

/-- The first field of FCO_STEP outside its range: a rate outside 1 to 4, but 0 for an output that the schedule leaves
out, or a count of -2^31 (15 R309, R312). -/
def stepBad (c : Cmd) : Option Nat :=
  (List.range 8).findSome? fun n =>
    let (k, r) := stepOf c n
    if k = -(2 ^ 31) then some (16 + 8 * n)
    else if 4 < r ∨ (r = 0 ∧ k ≠ 0) then some (20 + 8 * n) else none

/-- FCO_STEP (15 R309, R312; 03 R51 to R53). -/
def execFcoStep (s : State) : Host.Outcome State Fault Refusal :=
  .next <| serve (fixedSpec 0xB05 cd12 fcoStepFields) (fun c s =>
    let k := c.u 8 8
    if bit 0 (c.u 0 1) then
      match s.evt.pending with
      | none => if s.plans.epoch = none then (s, refuse .notReady 0) else (s, refuse .refusedState 0)
      | some _ =>
        if s.evt.closed then (s, refuse .refusedState 0)
        else ({ s with evt := { s.evt with pending := none } },
              ok (timeBytes c.recorded ++ toLe 4 0 ++ toLe 8 Config.noEpoch))
    else match s.plans.epoch with
      | none => (s, refuse .notReady 0)
      | some e =>
        match stepBad c with
        | some o => (s, bad o)
        | none =>
          if k ≤ e then (s, bad 8)
          else if s.evt.pending.isSome then (s, refuse .refusedState 0)
          else
            let late := decide (boundaryTime s k < c.recorded + Config.msUnits)
            let eff := if late then k + commitPeriod s else k
            let sch : Schedule := { epoch := eff, steps := (List.range 8).map (stepOf c) }
            let closed := decide (boundaryTime s eff < now s + Config.msUnits)
            let s := { s with evt := { s.evt with pending := some sch, closed := closed } }
            let rsp := timeBytes c.recorded ++ toLe 4 0 ++ toLe 8 eff
            if late then
              let covered := (List.finRange 8).filter fun i => (stepOf c i.val).1 ≠ 0
              (covered.foldl (fun s i => s.modFco i fun f => { f with flags := f.flags.raise 0 }) s,
                .reply { status := .stepLate, detail := 0, payload := rsp })
            else (s, ok rsp)) s

/-- A schedule starts at its boundary, or as soon as the epoch has passed it: what is left of an earlier one is abandoned (15
R309). -/
def startSchedule (k : Nat) (s : State) : State :=
  match s.evt.pending with
  | none => s
  | some sch =>
    if k < sch.epoch then s
    else
      let begin_ := fun (s : State) (i : Fin 8) =>
        let (n, r) := sch.steps.getD i.val (0, 0)
        if n = 0 then s
        else s.modFco i fun f => Fco.rebase s
          { f with flags := if f.stepsLeft ≠ 0 then f.flags.raise 2 else f.flags, stepsLeft := n, rate := r }
      (List.finRange 8).foldl begin_ { s with evt := { s.evt with pending := none, closed := false } }

/-- FCO_PHASE_STEP (15 R307): one unit in the direction of what is left, as it is due; DLL_F must be locked (R311). -/
def execFcoPhaseStep (output : Fin 8) (s : State) : Host.Outcome State Fault Refusal :=
  .next <|
    let f := vget s.evt.outputs output
    if f.stepsLeft = 0 ∨ s.evt.dllF = false ∨ stepDue s f = false then s
    else
      let up := decide (0 < f.stepsLeft)
      emitOut (.fcoStep output.val up) ((settleFco s output).modFco output fun f =>
        { f with stepsLeft := if up then f.stepsLeft - 1 else f.stepsLeft + 1
                 stepsDone := f.stepsDone + 1
                 phase := if up then (f.phase + 1) % f.circle else (f.phase + f.circle - 1) % f.circle })

/-- STATE of FCO_STATUS (15 R314). -/
def fcoState (s : State) (f : Fco) : Nat :=
  if !s.evt.dllF then 3 else if !f.on then 0 else if f.stepsLeft ≠ 0 then 2 else 1

/-- The entry of FCO_STATUS for an output (15 R314). -/
def fcoEntry (s : State) (n : Nat) : List Byte :=
  match unit 8 n with
  | none => []
  | some i =>
    let f := vget s.evt.outputs i
    word (fcoState s f + atBit 2 s.evt.pending.isSome + f.div * 8) ++ word f.flags.now.toNat ++ word f.phase ++
      toLeInt 4 f.stepsLeft ++ timeBytes f.lastEdge ++ word (f.flags.occWord 0 3)

/-- FCO_STATUS (15 R310, R314). -/
def execFcoStatus (s : State) : Host.Outcome State Fault Refusal :=
  .next <| serve (statusSpec 0xB06 12) (fun c s =>
    statusBody 8 32 (fun _ => []) fcoEntry (fun n m s =>
      match unit 8 n with
      | none => s
      | some i => s.modFco i fun f => { f with flags := f.flags.statusClear m }) c (settleFcos s)) s

/-! Event inputs. -/

/-- The start input whose pair an input stops, if any. -/
def startOf (s : State) (i : Fin 16) : Option (Fin 16) :=
  (List.finRange 16).find? fun j => (vget s.evt.inputs j).pair.any fun p => p.stop = i

/-- The first field of EVT_CONFIG outside R300 or R302 (15 R312). -/
def evtBad (c : Cmd) (s : State) : Option Nat :=
  let stop := c.u 4 1
  if 15 < c.u 0 1 then some 0
  else if 1 < c.u 1 1 then some 1
  else if 2 < c.u 2 1 then some 2
  else if 7 < c.u 3 1 then some 3
  else if c.u 5 1 = 1 ∧ (15 < stop ∨ stop = c.u 0 1) then some 4
  else if 1 < c.u 5 1 then some 5
  else if c.u 6 2 < 1 ∨ 32767 < c.u 6 2 then some 6
  else if c.u 5 1 = 1 ∧ (c.u 10 2 < 1 ∨ 32767 < c.u 10 2) then some 10
  else if c.u 5 1 = 1 then
    match unit 16 (c.u 0 1), unit 16 stop with
    | some i, some j =>
      let other := fun k : Fin 16 => (vget s.evt.inputs k).pair.isSome && k ≠ i
      if (startOf s i).isSome ∨ (startOf s j).any (fun k => k ≠ i) ∨ other j = true then some 4 else none
    | _, _ => none
  else none

/-- An edge is of the selected polarity (15 R300). -/
def selectedEdge (polarity : Fin 3) (falling : Bool) : Bool :=
  polarity = 2 || (if falling then polarity = 1 else polarity = 0)

/-- Loop calibration of an input: EVT0 and EVT1, with DLL_T locked and the boot table present (15 R297, R299). -/
def loopCal (s : State) (i : Fin 16) : Bool := i.val < 2 && s.evt.dllT && (vget s.evt.inputs i).bootTable

/-- EVT_EDGE (15 R294, R296, R301): the sampling edge is the present TCLK edge. Edges are lost while PLL_T is unlocked
(21 R418). -/
def execEvtEdge (input : Fin 16) (falling : Bool) (taps : Nat) (s : State) : Host.Outcome State Fault Refusal :=
  .next <|
    let x := vget s.evt.inputs input
    if !engines s || !x.enabled then s
    else if !locked s 2 then
      s.modIn input fun x => { x with lost := satAdd x.lost 1, flags := x.flags.raise 1 }
    else if !selectedEdge x.polarity falling || x.last.any (fun t => decide (s.time.tclk < t + x.holdoff)) then
      s.modIn input fun x => { x with suppressed := satAdd x.suppressed 1, flags := x.flags.raise 0 }
    else
      let s := s.modIn input fun x => { x with last := some s.time.tclk, seq := x.seq + 1 }
      let x := vget s.evt.inputs input
      if 256 ≤ x.fifo.length then
        s.modIn input fun x => { x with lost := satAdd x.lost 1, flags := x.flags.raise 1 }
      else
        let e : Edge := { ts := now s, taps := taps, falling := falling, loop := loopCal s input, seq := x.seq, latencyPs := x.latencyPs }
        s.modIn input fun x => { x with fifo := x.fifo ++ [e], peak := max x.peak (x.fifo.length + 1) }

/-- The fine code of a tap count (15 R294, R297 to R299). -/
def fineCode (s : State) (i : Fin 16) (e : Edge) : Nat :=
  if 640 < e.taps then 511
  else if e.loop then (max 0 (min 511 ((e.taps : Int) + Config.tdcLoop i.val e.taps))).toNat
  else
    let t := vget s.dev.fuses.tdcTables i
    (Config.tdcTable t.taps t.coeff (vget s.evt.inputs i).tableTemp e.taps).val

/-- stamp = T_s - f x 256 - round(EVT_LATENCY x 65.536) (15 R294). -/
def stampOf (ts f latencyPs : Nat) : Nat := ts - f * 256 - (latencyPs * 65536 + 500) / 1000

/-- The stamp of an edge in an input's FIFO, with the latency that held when it was accepted (15 R294, R295). -/
def edgeStamp (s : State) (i : Fin 16) (e : Edge) : Nat := stampOf e.ts (fineCode s i e) e.latencyPs

/-- The event time-stamp record of an edge or an interval (11 R222, 15 R303). -/
def stampRecord (s : State) (kind : Nat) (i : Fin 16) (x : Stamp) (stop : Nat) (flags : Nat) (interval : Int) :
    Record :=
  mkRecord s 10 kind none none (epochNum (epochAt s x.time)) x.time 0
    (word (i.val + atBit 4 x.falling + stop * 32 + flags) ++ word x.seq.toNat ++ toLeInt 8 interval)

/-- An EDGE record (15 R303). -/
def edgeRecord (s : State) (i : Fin 16) (x : Stamp) : Record := stampRecord s 0 i x 0 (atBit 11 x.loop) 0

/-- STAMP_TAKEN (15 R294, R296, R299, R304): the stamp raises condition 272 + n, and is recorded at once unless the
input belongs to a pair. -/
def execStampTaken (input : Fin 16) (s : State) : Host.Outcome State Fault Refusal :=
  .next <|
    match (vget s.evt.inputs input).fifo with
    | [] => s
    | e :: rest =>
      if !dclk s then s
      else
        let fallback := input.val < 2 && !e.loop
        let s := s.modIn input fun x =>
          { x with fifo := rest, flags := if fallback then x.flags.raise 3 else x.flags }
        let t := edgeStamp s input e
        let x : Stamp := { time := t, falling := e.falling, loop := e.loop, seq := e.seq }
        let s := condEvent (272 + input.val) t none s
        match (vget s.evt.inputs input).pair, startOf s input with
        | some _, _ =>
          s.modIn input fun y => { y with pair := y.pair.map fun p => { p with starts := p.starts ++ [x] } }
        | none, some j =>
          s.modIn j fun y => { y with pair := y.pair.map fun p => { p with stops := p.stops ++ [x] } }
        | none, none => emit (edgeRecord s input x) s

/-- The unpaired stop nearest to a start and within the window; of two at equal distance, the earlier (15 R303). -/
def nearestStop (t w : Nat) (stops : List Stamp) : Option Stamp :=
  let dist := fun x : Stamp => ((x.time : Int) - t).natAbs
  (stops.filter fun x => decide (dist x ≤ w)).foldl (fun best x =>
    match best with
    | none => some x
    | some b => if dist x < dist b ∨ (dist x = dist b ∧ x.time < b.time) then some x else some b) none

/-- The interval of two stamps in units of 256, with COINCIDENT and ORDER (15 R303). -/
def intervalOf (d : Int) : Int × Bool × Bool :=
  if -256 < d ∧ d < 256 then (0, true, false)
  else
    let v : Int := if 0 ≤ d then (d + 128) / 256 else -((-d + 128) / 256)
    (v, false, decide (v < 0))

/-- Stops that no undecided start can take any more, given the latest time by which a start still to come can be
stamped: they are reported as EDGE records (15 R303). -/
def staleStops (limit : Int) (p : Pair) : List Stamp :=
  let w : Int := (p.window * 2 * Config.nsUnits : Nat)
  p.stops.filter fun x =>
    decide ((x.time : Int) + w < limit) && p.starts.all fun t => decide (w < ((x.time : Int) - t.time).natAbs)

/-- A stamp up to a time is still in an input's FIFO (15 R296). -/
def stampsDue (s : State) (i : Fin 16) (t : Nat) : Bool :=
  (vget s.evt.inputs i).fifo.any fun e => decide (edgeStamp s i e ≤ t)

/-- PAIR_DECIDE (15 R303): the earliest start whose PAIR_WINDOW has passed is decided, and the stops that stay unpaired
are reported. -/
def execPairDecide (input : Fin 16) (s : State) : Host.Outcome State Fault Refusal :=
  .next <|
    match (vget s.evt.inputs input).pair with
    | none => s
    | some p =>
      let w := p.window * 2 * Config.nsUnits
      let setPair := fun (q : Pair) (s : State) => s.modIn input fun x => { x with pair := some q }
      let first := p.starts.foldl (fun b x => match b with
        | none => some x
        | some y => if x.time < y.time then some x else some y) none
      let (s, p) :=
        match first with
        | none => (s, p)
        | some x =>
          if now s < x.time + w ∨ stampsDue s input (x.time + w) = true ∨ stampsDue s p.stop (x.time + w) = true then (s, p)
          else
            match nearestStop x.time w p.stops with
            | none =>
              let q := { p with starts := p.starts.erase x }
              let s := setPair q s
              (emit (edgeRecord s input x) (s.modIn input fun y => { y with flags := y.flags.raise 2 }), q)
            | some y =>
              let q := { p with starts := p.starts.erase x, stops := p.stops.erase y }
              let s := setPair q s
              let (v, co, ord) := intervalOf ((y.time : Int) - x.time)
              let fl := atBit 9 ord + atBit 10 co + atBit 11 (x.loop && y.loop)
              (emit (stampRecord s 1 input x p.stop.val fl v) s, q)
      let stale := (staleStops ((now s : Int) - w) p).filter fun x => !stampsDue s input (x.time + w)
      let s := setPair { p with stops := p.stops.filter fun x => !stale.contains x } s
      stale.foldl (fun s x =>
        emit (edgeRecord s p.stop x) (s.modIn p.stop fun y => { y with flags := y.flags.raise 2 })) s

/-- The stamps that a pair leaves undecided when it is cleared or changed have no partner: they are recorded as edges
(15 R303). -/
def closePair (i : Fin 16) (s : State) : State :=
  match (vget s.evt.inputs i).pair with
  | none => s
  | some p =>
    let alone := fun (j : Fin 16) (s : State) (x : Stamp) =>
      emit (edgeRecord s j x) (s.modIn j fun y => { y with flags := y.flags.raise 2 })
    p.stops.foldl (alone p.stop) (p.starts.foldl (alone i) (s.modIn i fun y => { y with pair := none }))

/-- EVT_CONFIG (15 R300, R302, R312). With PAIR_SET 1 the input becomes the start of a pair with PAIR_STOP; with 0 it
starts none. -/
def execEvtConfig (s : State) : Host.Outcome State Fault Refusal :=
  .next <| serve (fixedSpec 0xB01 cd12 (List.replicate 6 (whole 1) ++ List.replicate 3 (whole 2))) (fun c s =>
    match evtBad c s, unit 16 (c.u 0 1) with
    | some o, _ => (s, bad o)
    | none, none => (s, bad 0)
    | none, some i =>
      let x := vget s.evt.inputs i
      let enabledAt := fun j : Fin 16 => (vget s.evt.inputs j).enabled
      let pair : Option (Fin 16 × Nat) :=
        if c.u 5 1 = 1 then (unit 16 (c.u 4 1)).map fun j => (j, c.u 10 2) else none
      let pairChange := x.pair.map (fun p => (p.stop, p.window)) ≠ pair
      let touched := [i] ++ (x.pair.map (·.stop)).toList ++ (pair.map (·.1)).toList
      let rws := x.polarity.val ≠ c.u 2 1 || x.hyst.val ≠ c.u 3 1 || x.holdoff ≠ c.u 6 2
      if (x.enabled && rws) || (pairChange && touched.any enabledAt) then (s, refuse .busyRunning 0)
      else
        let newPair := if pairChange then
          pair.map fun p => { stop := p.1, window := p.2, starts := [], stops := [] } else x.pair
        ((if pairChange then closePair i s else s).modIn i fun x =>
          { x with enabled := c.u 1 1 = 1, polarity := ⟨c.u 2 1 % 3, Nat.mod_lt _ (by decide)⟩
                   hyst := ⟨c.u 3 1 % 8, Nat.mod_lt _ (by decide)⟩, holdoff := c.u 6 2, latencyPs := c.u 8 2
                   pair := newPair }, ok [])) s

/-- TDC_TABLE_REBUILD (15 R298): the free-running tables follow the temperature. -/
def execTdcTableRebuild (s : State) : Host.Outcome State Fault Refusal :=
  .next <|
    if firmware s then
      let table := fun i : Fin 16 =>
        { vget s.evt.inputs i with tableTemp := vget s.dev.sensors (Config.nearestSensor i.val) }
      { s with evt := { s.evt with inputs := Vector.ofFn table } }
    else s

/-- DLL_UNLOCK (15 R305, R311): `frame` names DLL_F. -/
def execDllUnlock (frame : Bool) (s : State) : Host.Outcome State Fault Refusal :=
  .next <|
    if frame then
      if !s.evt.dllF then s
      else
        let s := settleFcos s
        let outs := s.evt.outputs.map fun f => { f with flags := f.flags.raise 1 }
        raiseFault 0x010A 2 1 (time64 (now s)) 0 none { s with evt := { s.evt with dllF := false, outputs := outs } }
    else
      if !s.evt.dllT then s
      else raiseFault 0x010A 2 0 (time64 (now s)) 0 none { s with evt := { s.evt with dllT := false } }

/-- DLL_RELOCK (15 R299, R311): outputs and calibration restore. -/
def execDllRelock (frame : Bool) (s : State) : Host.Outcome State Fault Refusal :=
  .next <|
    if !engines s then s
    else if frame then
      if s.evt.dllF then s
      else
        let restart := fun f : Fco => Fco.rebase s { f with since := gateFrom s f }
        { s with evt := { s.evt with dllF := true, outputs := s.evt.outputs.map restart } }
    else { s with evt := { s.evt with dllT := true } }

/-- The entry of EVT_STATUS for an input (15 R313). -/
def evtEntry (s : State) (n : Nat) : List Byte :=
  match unit 16 n with
  | none => []
  | some i =>
    let x := vget s.evt.inputs i
    let partner := match x.pair, startOf s i with
      | some p, _ => some p.stop.val
      | none, some j => some j.val
      | none, none => none
    word (atBit 0 x.enabled + x.polarity.val * 2 + x.hyst.val * 8 + atBit 6 (loopCal s i) + atBit 7 (!s.evt.dllT) +
        atBit 8 partner.isSome + atBit 9 x.pair.isSome + partner.getD 0 * 2 ^ 10) ++
      word x.flags.now.toNat ++ word x.seq.toNat ++ word x.holdoff ++ word x.suppressed.toNat ++ word x.lost.toNat ++
      word x.peak ++ word (x.flags.occWord 0 4)

/-- EVT_STATUS (15 R313). -/
def execEvtStatus (s : State) : Host.Outcome State Fault Refusal :=
  .next <| serve (statusSpec 0xB02 12) (statusBody 16 32 (fun _ => []) evtEntry (fun n m s =>
    match unit 16 n with
    | none => s
    | some i => s.modIn i fun x =>
      { x with flags := x.flags.statusClear m, suppressed := 0, lost := 0, peak := 0 })) s

end Sys2Proof.Machine
end

