-- ==== Sys2Proof/Machine/Zoom.lean ====
section
/-! DEFINITION. The zoom channels: outputs, SYNC, the commands of CD4 (06 R106 to R117). -/

namespace Sys2Proof.Machine

/-- The stream of a channel. -/
def zoomStream (s : State) (c : Fin 32) : Fin 16 := ⟨(s.zoom c).cfg.source % 16, Nat.mod_lt _ (by decide)⟩

/-- ZOOM_OUTPUT (06 R111): the next output whose inputs have all been staged. -/
def execZoomOutput (channel : Fin 32) (s : State) : Host.Outcome State Fault Refusal :=
  .next <|
    if dclk s && outputDue (s.zoom channel) (s.stream (zoomStream s channel)).avail then zoomOne channel s else s

/-! SYNC. -/

/-- The channel takes part in a SYNC (06 R115). -/
def takesSync (s : State) (c : Fin 32) : Bool := (s.zoom c).cfg.syncEn && (s.zoom c).state ≠ .stopped

/-- A SYNC is recorded; one that is pending is replaced (06 R116). -/
def recordSync (ts : Nat) (s : State) : State :=
  let s :=
    if s.terrace.sync.isSome then
      ((List.finRange 32).filter (takesSync s)).foldl (fun s c => s.modZoom c fun z => { z with flags := z.flags.raise 2 }) s
    else s
  { s with terrace := { s.terrace with sync := some ts }, fabric := { s.fabric with lastSync := some ts } }

/-- TERRACE_SYNC_EDGE (06 R115): a rising edge, dated now; the manager forwards it while SYNC_FORWARD is 1. -/
def execTerraceSyncEdge (s : State) : Host.Outcome State Fault Refusal :=
  .next <|
    if !engines s then s
    else
      let ts := now s + s.params.syncDelay * Config.usUnits
      let s := recordSync ts s
      if s.fabric.role = .manager && s.params.syncForward then originate (downlinks s) 0x3F true true (.sync ts) s else s

/-- ZOOM_SYNC_RESTART (06 R115): at t_s, every participating channel is to restart on the first sample at or after it; a
restart whose sample has been delivered takes place. -/
def execZoomSyncRestart (s : State) : Host.Outcome State Fault Refusal :=
  .next <|
    match s.terrace.sync with
    | none => s
    | some ts =>
      if !engines s || decide (now s < ts) then s
      else
        let s := { s with terrace := { s.terrace with sync := none } }
        let s := ((List.finRange 32).filter (takesSync s)).foldl (fun s c =>
          let at_ := placeTime s (zoomStream s c) ts
          s.modZoom c fun z => { z with syncAt := at_ }) s
        (List.finRange 16).foldl (fun s i => dueSyncs i s) s

/-! Commands. -/

/-- What each command of CD4 checks first (06 R113): a bank is ACTIVE, and the active plan configures the channel. -/
def zoomChecked (c : Cmd) (s : State) (body : Fin 32 → State × Verdict) : State × Verdict :=
  if (activeBank s).isNone then (s, refuse .notReady 0)
  else match (unit 32 (c.u 0 1)).filter fun z => ((planNow s).zoom z.val).present with
    | none => (s, bad 0)
    | some z => body z

/-- ZOOM_STOP (06 R113): what has reached the channel is processed, and nothing more. -/
def execZoomStop (s : State) : Host.Outcome State Fault Refusal :=
  .next <| serve (fixedSpec 0x0501 (some 4) [whole 1])
    (fun c s => zoomChecked c s fun z =>
      if (s.zoom z).state = .stopped then (s, ok [])
      else
        let s := zoomCatchUp z (s.stream (zoomStream s z)).avail s
        (s.modZoom z fun r => { r with state := .stopped, syncAt := none, waiting := false }, ok [])) s

/-- A section length that breaks R106: 2 to 65,536, a multiple of D by 1 to 8; 0 beyond SECTIONS. -/
def sectionBad (sections d i m : Nat) : Bool :=
  if i < sections then !decide (2 ≤ m ∧ m ≤ 65536 ∧ 0 < d ∧ m % d = 0 ∧ 1 ≤ m / d ∧ m / d ≤ 8) else decide (m ≠ 0)

/-- The section lengths of a ZOOM_LOAD. -/
def loadLengths (c : Cmd) : List Nat := (List.range 5).map fun i => c.u (20 + 4 * i) 4

/-- The first field of a ZOOM_LOAD that differs from the plan where it may not, or breaks R106. -/
def loadBad (p : TerraceE) (c : Cmd) : Option Nat :=
  if c.u 1 1 ≠ p.sections then some 1
  else if 80 < c.u 2 1 then some 2
  else if 262143 < c.u 12 4 then some 12
  else if c.u 16 4 ≠ p.d then some 16
  else ((loadLengths c).zipIdx.find? fun m => sectionBad p.sections p.d m.2 m.1).map fun m => 20 + 4 * m.2

/-- ZOOM_LOAD (06 R113). -/
def execZoomLoad (s : State) : Host.Outcome State Fault Refusal :=
  .next <| serve
    (fixedSpec 0x0502 (some 4) ([whole 1, whole 1, whole 1] ++ List.replicate 9 (whole 4)))
    (fun c s => zoomChecked c s fun z =>
      let p := (planNow s).zoom z.val
      if !p.hostTunable then (s, refuse .refusedState 0)
      else if (s.zoom z).state ≠ .stopped then (s, refuse .busyRunning 0)
      else match loadBad p c with
        | some o => (s, bad o)
        | none =>
          (s.modZoom z fun r =>
            { r with hostLoaded := true
                     cfg := { r.cfg with ftw := c.u 4 4, pow := c.u 8 4, zshift := c.u 2 1, zgain := c.u 12 4
                                         m := loadLengths c } }, ok [])) s

/-- The next sample that a stream's channels take, where it is known: the next of the open superblock, or the one after the
last delivered while superblocks follow each other without a gap. -/
def nextSample (s : State) (i : Fin 16) : Option Nat :=
  let t := s.stream i
  match intakeFrom i s, t.asm with
  | some lo, some a =>
    if a.deliver && decide (lo < a.index + t.map.samples) then some (max lo a.index) else none
  | some lo, none => if t.delivering && t.last.isSome && t.resumeAt.isNone then some lo else none
  | none, _ => none

/-- ZOOM_START (06 R113): the channel starts with the next sample that its source delivers. Where that is not known yet, the
response is a free value (log entries 1, 24: DESIGN CHOICE). -/
def execZoomStart (s : State) : Host.Outcome State Fault Refusal :=
  .next <| serve (fixedSpec 0x0503 (some 4) [whole 1])
    (fun c s => zoomChecked c s fun z =>
      if (s.zoom z).state ≠ .stopped then (s, refuse .refusedState 0)
      else
        let i := zoomStream s z
        let s := (regrid z s).modZoom z fun r => r.start r.cfg (s.stream i).avail true
        match nextSample s i with
        | some x => (s.modZoom z fun r => { r with s0 := x }, ok (toLe 8 x))
        | none =>
          let (v, s) := fresh s
          (s, ok (toLe 8 v.toNat))) s

/-- ZOOM_SYNC (06 R115). -/
def execZoomSync (s : State) : Host.Outcome State Fault Refusal :=
  .next <| serve (fixedSpec 0x0504 (some 4) [whole 12])
    (fun c s =>
      if c.badTime 0 then (s, bad 0)
      else
        let given := c.time 0
        let ts := if given = 0 then c.recorded + s.params.syncDelay * Config.usUnits else given
        if ts < c.recorded + 10 * Config.usUnits then (s, bad 0)
        else (recordSync ts s, ok (timeBytes ts))) s

/-- STATE of ZOOM_STATUS (06 R117). -/
def ZoomState.code : ZoomState → Nat
  | .stopped => 0
  | .filling => 1
  | .running => 2

/-- An entry of ZOOM_STATUS (06 R117). -/
def zoomEntry (s : State) (n : Nat) : List Byte :=
  match unit 32 n with
  | none => padTo 32 []
  | some c =>
    let z := s.zoom c
    let awaits := s.terrace.sync.isSome && takesSync s c
    word (z.state.code + atBit 2 z.hostLoaded + atBit 3 awaits + z.cfg.source * 2 ^ 4 + z.cfg.sections * 2 ^ 8) ++
    word z.flags.now.toNat ++ toLe 8 z.s0 ++ word z.cfg.ftw ++ word z.cfg.d ++ word z.zsatCount.toNat ++
    word (z.flags.occWord 0 4)

/-- Clears the flags that a mask names, and the counters of a channel (06 R117). -/
def zoomClear (n mask : Nat) (s : State) : State :=
  match unit 32 n with
  | some c => s.modZoom c fun z => { z with flags := z.flags.statusClear mask, zsatCount := 0 }
  | none => s

/-- ZOOM_STATUS (06 R117). -/
def execZoomStatus (s : State) : Host.Outcome State Fault Refusal :=
  .next <| serve (statusSpec 0x0505 4) (statusBody 32 32 (fun _ => []) zoomEntry zoomClear) s

end Sys2Proof.Machine
end

