-- ==== Sys2Proof/Machine/Fabric.lean ====
section
/-! DEFINITION. The Corvel fabric: receiving and forwarding messages, links, membership, FIREs and SYNCs of other nodes,
the mailbox tunnel, relayed records, the commands of CD13 (16; 07 R149, R150; 08 R160; 11 R231). -/

namespace Sys2Proof.Machine

def State.fabLane (s : State) (f : Fin 12) : FabLane := vget s.fabric.lanes f
def State.nodeRt (s : State) (n : Fin 64) : NodeRt := vget s.fabric.nodes n

def State.modFabric (s : State) (f : Fabric → Fabric) : State := { s with fabric := f s.fabric }

/-- The lane's number among L0 to L45. -/
def laneNumber (f : Fin 12) : Nat := 32 + f.val

/-! Receiving. -/

/-- A link takes a message: it is UP, or it measures and the message is of the control class (16 R317). -/
def linkTakes (s : State) (f : Fin 12) (m : FabricMsg) : Bool :=
  engines s && s.fabric.role ≠ .off &&
    ((s.fabLane f).state = .up || ((s.fabLane f).state = .measuring && m.body.cls = 1))

/-- The message waited at its sender for longer than the pad (16 R318): a block period is 2.0625 ns, the pad in 10 ps. -/
def forwardedLate (l : FabLane) (m : FabricMsg) : Bool := decide (l.pad * 100 < m.wait * 20625)

/-- A message arrives (16 R318, R319): whether the link goes on with it. -/
def arrive (f : Fin 12) (m : FabricMsg) (s : State) : State × Bool :=
  if !linkTakes s f m then (s, false)
  else if !m.crcOk then
    (s.modFabLane f fun l => { l with crcErr := satAdd l.crcErr 1, flags := l.flags.raise 1 }, false)
  else if m.body = .other then (s.modFabLane f fun l => { l with unknown := satAdd l.unknown 1 }, false)
  else if forwardedLate (s.fabLane f) m then
    (s.modFabLane f fun l => { l with fwdLate := satAdd l.fwdLate 1, flags := l.flags.raise 2 }, true)
  else (s, true)

/-- The message comes from a child. -/
def fromBelow (s : State) (f : Fin 12) : Bool := (s.fabLane f).use = 3

/-- The class under which a message is remembered. -/
def seenClass (s : State) (f : Fin 12) (m : FabricMsg) : Nat := m.body.cls.val + if fromBelow s f then 3 else 0

/-- Remembers a message, and says whether it is new among the last 128 of its SRC and class (16 R321). -/
def takeOnce (f : Fin 12) (m : FabricMsg) (s : State) : State × Bool :=
  let c := seenClass s f m
  if s.fabric.seen.contains (m.src, c, m.mseq) then (s, false)
  else
    let same := fun e : Nat × Nat × Nat => e.1 = m.src && e.2.1 = c
    let parts := (List.range m.body.messages).reverse.map fun i => (m.src, c, (m.mseq + i) % 256)
    let mine := (parts ++ s.fabric.seen.filter same).take 128
    (s.modFabric fun b => { b with seen := mine ++ b.seen.filter fun e => !same e }, true)

/-- A message is received: what its link does with it, and what the node does with one it has not taken before. -/
def receive (f : Fin 12) (m : FabricMsg) (link act : State → State) (s : State) : State :=
  let a := arrive f m s
  if !a.2 then a.1
  else
    let b := takeOnce f m (link a.1)
    if b.2 then act b.1 else b.1

/-- A control block that is of no type of the fabric is counted (16 R319). -/
def strange (f : Fin 12) (m : FabricMsg) (s : State) : State := if m.body = .other then (arrive f m s).1 else s

/-- Passes a message on, unchanged (16 R319, R322). -/
def passOn (lanes : List (Fin 12)) (m : FabricMsg) (s : State) : State := sendOn lanes { m with wait := 0 } s

/-- The downlink towards a node, if there is one that is UP (16 R322). -/
def downTo (s : State) (dst : Nat) : List (Fin 12) :=
  match unit 64 dst with
  | none => []
  | some n =>
    match (s.nodeRt n).via with
    | some l => if (downlinks s).contains l then [l] else []
    | none => (downlinks s).filter fun l => (s.fabLane l).partner = dst

/-- The lanes towards DST of a message that was taken on `f` (16 R322). -/
def towards (s : State) (f : Fin 12) (dst : Nat) : List (Fin 12) :=
  if fromBelow s f && s.fabric.role = .worker then activeUplink s else downTo s dst

/-- A message that is routed by DST: it is this node's, or it is passed on. -/
def routed (f : Fin 12) (m : FabricMsg) (mine : State → State) (s : State) : State :=
  if m.dst = nodeId s then mine s else passOn (towards s f m.dst) m s

/-- A node's messages come up on this lane (16 R322). -/
def learnVia (f : Fin 12) (src : Nat) (s : State) : State :=
  match unit 64 src with
  | some n => if fromBelow s f then s.modNode n fun x => { x with via := some f } else s
  | none => s

/-! Links. -/

/-- The node has a downlink assigned. -/
def hasDown (s : State) : Bool := (List.finRange 12).any fun f => (s.fabLane f).use = 3

/-- A link to a partner obeys the topology rules (16 R316): a DOWN lane leads to a worker, the uplink of a relay to the
manager, that of a leaf to the manager or a relay. -/
def topologyOk (s : State) (f : Fin 12) (node depth : Nat) : Bool :=
  if node = nodeId s ∨ 63 < node then false
  else if (s.fabLane f).use = 3 then node ≠ 0
  else s.fabric.role = .worker && (if node = 0 then depth = 0 else !hasDown s && decide (depth ≤ 1))

/-- One more than the lowest depth among the parents (16 R316). -/
def depthNow (s : State) : Nat :=
  match s.fabric.role with
  | .worker =>
    match (uplinks s).map fun f => (s.fabLane f).partnerDepth with
    | [] => s.fabric.depth
    | d :: ds => ds.foldl min d + 1
  | _ => 0

/-- The node's depth follows its uplinks, and an uplink that is UP is active (16 R316, R327). -/
def refreshUplinks (s : State) : State :=
  let s := s.modFabric fun b => { b with depth := depthNow s }
  match uplinks s with
  | [] => s
  | u :: us => if (u :: us).contains s.fabric.activeUp then s else s.modFabric fun b => { b with activeUp := u }

/-- An uplink is UP: a worker that is no member begins to join (16 R326). -/
def beginJoin (s : State) : State :=
  if s.fabric.role = .worker && !(activeUplink s).isEmpty &&
      (s.fabric.member = .unjoined || s.fabric.member = .orphan) then
    s.modFabric fun b => { b with member := .joining, joining := none }
  else s

/-- A link has measured D. -/
def measured (l : FabLane) : Bool := l.state = .measuring && l.probes.length = 64

/-- The first heartbeat of the partner: the link is UP, or refused with cause TOPOLOGY (16 R316, R317). -/
def linkAdmit (f : Fin 12) (node depth : Nat) (s : State) : State :=
  if topologyOk s f node depth then
    let s := s.modFabLane f fun l =>
      { l with state := .up, partner := node, partnerDepth := depth, lastBeat := s.time.tclk, lastOwn := s.time.tclk
               failCause := 0 }
    beginJoin (refreshUplinks s)
  else
    raiseFault 0x0601 2 (laneNumber f) node 0 none
      (s.modFabLane f fun l => { l with state := .failed, failCause := 10, partner := node })

/-- FABRIC_LINK_UP (16 R316, R317): a part of a link's coming up. A link that has failed to lock, or found no eye, goes on
trying. -/
def execFabricLinkUp (lane : Fin 12) (part : LinkPart) (s : State) : Host.Outcome State Fault Refusal :=
  .next <|
    let l := s.fabLane lane
    if !engines s || !locked s 6 then s
    else match part with
      | .failed cause =>
        if l.state = .linking && cause ≠ 0 then
          s.modFabLane lane fun l => { l with state := .failed, failCause := cause.val }
        else s
      | .hello p =>
        if (l.state = .linking || (l.state = .failed && decide (l.failCause ≤ 3))) && l.peak.isSome then
          let s := emitOut (.laneMgmt (laneNumber lane) 0x01 0x1640) s
          if p ≠ 0x1640 then s.modFabLane lane fun l => { l with state := .failed, failCause := 8 }
          else
            let s := s.modFabLane lane fun l => { l with state := .measuring, probes := [], failCause := 0 }
            (List.range 64).foldl (fun s n => originate [lane] 0x3F true true (.probe n) s) s
        else s
      | .heartbeat node depth => if measured l then linkAdmit lane node depth s else s

/-- PROBE (16 R317). -/
def execProbe (lane : Fin 12) (msg : FabricMsg) (s : State) : Host.Outcome State Fault Refusal :=
  .next <|
    match msg.body with
    | .probe n => receive lane msg id (originate [lane] msg.src true true (.echo n)) s
    | _ => strange lane msg s

/-- The running streams (16 R320). -/
def runningStreams (s : State) : BitVec 16 :=
  BitVec.ofNat 16 ((List.finRange 16).foldl (fun m i => m + atBit i.val (s.stream i).map.run) 0)

/-- STATE of a node (16 R326): the manager is always a MEMBER. -/
def memberCode (s : State) : Nat :=
  match s.fabric.role with
  | .manager => 2
  | .off => 0
  | .worker => match s.fabric.member with
    | .unjoined => 0
    | .joining => 1
    | .member => 2
    | .orphan => 3

def sourceCode : TimeSource → Nat
  | .none => 0
  | .domainA => 1
  | .domainB => 2
  | .pps => 3

/-- PLAN_ID of the active plan, 0 when none. -/
def activePlanId (s : State) : Nat := ((activeBank s).map fun b => (planIn s b).planId).getD 0

/-- What a heartbeat and a JOIN report of their sender (16 R320). -/
def nodeReport (s : State) : NodeReport :=
  { state := memberCode s, depth := s.fabric.depth, timeValid := s.time.valid, source := sourceCode s.time.source
    streams := runningStreams s, planId := activePlanId s }

/-- A node's heartbeat (16 R320). -/
def heartbeatOf (s : State) : FabBody := .heartbeat (now s) (nodeReport s)

/-- ECHO (16 R317): the round trip less the partner's turnaround, in ps. At the 64th, D is half of the mean; a link whose D
is above 90 ns is refused, another sends its first heartbeat. -/
def execEcho (lane : Fin 12) (msg : FabricMsg) (roundTrip : Nat) (s : State) : Host.Outcome State Fault Refusal :=
  .next <|
    match msg.body with
    | .echo _ =>
      receive lane msg id (fun s =>
        let l := s.fabLane lane
        if l.state ≠ .measuring ∨ 64 ≤ l.probes.length then s
        else
          let ps := l.probes ++ [roundTrip]
          let s := s.modFabLane lane fun l => { l with probes := ps }
          if ps.length < 64 then s
          else if 90000 * 128 < ps.sum then
            s.modFabLane lane fun l => { l with state := .failed, failCause := 9, delay := ps.sum / 1280 }
          else
            let s := s.modFabLane lane fun l => { l with delay := ps.sum / 1280, pad := 16000 - ps.sum / 1280 }
            originate [lane] 0x3F true true (heartbeatOf s) s) s
    | _ => strange lane msg s

/-! Heartbeats and epoch marks. -/

/-- HEARTBEAT_SEND (16 R322): on every link that is UP. -/
def execHeartbeatSend (s : State) : Host.Outcome State Fault Refusal :=
  .next <|
    if engines s && s.fabric.role ≠ .off then originate (upLanesOf s [1, 2, 3]) 0x3F true true (heartbeatOf s) s else s

/-- The mean of the neighbour offsets, in 2^-16 ns (16 R325). -/
def meanOffset (l : FabLane) : Int := l.offsets.sum / max (l.offsets.length : Int) 1

/-- An offset in ps. -/
def offsetPs (l : FabLane) : Int := meanOffset l * 1000 / (Config.nsUnits : Int)

/-- The neighbour offset is beyond TIME_TOL (16 R325). -/
def timeDisagrees (s : State) (l : FabLane) : Bool := decide ((s.fabric.timeTol * Config.nsUnits : Nat) < (meanOffset l).natAbs)

/-- 160 ns: the latency of a link (16 R318). -/
def linkLatency : Nat := 160 * Config.nsUnits

/-- The partner's own heartbeat gives the neighbour offset; where it comes to lie beyond TIME_TOL, this is reported (16
R325). -/
def takeOffset (f : Fin 12) (sent : Nat) (s : State) : State :=
  let before := (s.fabLane f).apart
  let x : Int := (now s : Int) - (linkLatency : Int) - (sent : Int)
  let s := s.modFabLane f fun l =>
    let l := { l with offsets := (x :: l.offsets).take 16 }
    { l with apart := timeDisagrees s l }
  if (s.fabLane f).apart && !before then
    raiseFault 0x0602 1 (laneNumber f) (offsetPs (s.fabLane f) % (2 ^ 64 : Nat)).toNat 0 none
      (s.modFabLane f fun l => { l with flags := l.flags.raise 3 })
  else s

/-- What a link does with a heartbeat (16 R317, R325, R327). -/
def linkBeat (f : Fin 12) (src sent depth : Nat) (s : State) : State :=
  let s := if measured (s.fabLane f) then linkAdmit f src depth s else s
  if (s.fabLane f).state ≠ .up then s
  else
    let s := s.modFabLane f fun l => { l with lastBeat := s.time.tclk }
    if (s.fabLane f).partner ≠ src then s
    else
      let s := s.modFabLane f fun l => { l with lastOwn := s.time.tclk, partnerDepth := depth }
      refreshUplinks (takeOffset f sent s)

/-- The manager takes a node's heartbeat (16 R326, R337). -/
def noteNode (src sent : Nat) (r : NodeReport) (s : State) : State :=
  match unit 64 src with
  | some n => s.modNode n fun x =>
    { x with lastBeat := s.time.tclk, lastSent := sent, depth := r.depth, streams := r.streams, planId := r.planId
             state := if r.state = 1 ∧ (x.state = .absent ∨ x.state = .lost) then .joining else x.state }
  | none => s

/-- What a node does with a heartbeat (16 R322, R326, R327). -/
def nodeBeat (f : Fin 12) (m : FabricMsg) (sent : Nat) (r : NodeReport) (s : State) : State :=
  let s := learnVia f m.src s
  match s.fabric.role with
  | .manager => noteNode m.src sent r s
  | .worker =>
    if fromBelow s f then passOn (uplinks s) m s
    else if m.src = 0 then passOn (downlinks s) m (s.modFabric fun b => { b with lastManager := s.time.tclk })
    else s
  | .off => s

/-- HEARTBEAT (16 R322, R325 to R327). -/
def execHeartbeat (lane : Fin 12) (msg : FabricMsg) (s : State) : Host.Outcome State Fault Refusal :=
  .next <|
    match msg.body with
    | .heartbeat t r => receive lane msg (linkBeat lane msg.src t r.depth) (nodeBeat lane msg t r) s
    | _ => strange lane msg s

/-- The boundary next to a station time. -/
def nearestBoundary (s : State) (t : Nat) : Nat := if t < origin s then 0 else (t - origin s + period s / 2) / max (period s) 1

/-- A mark agrees with the node's own epochs (16 R325). -/
def markAgrees (s : State) (k : Nat) : Bool :=
  let own := nearestBoundary s (now s - linkLatency)
  let due := boundaryTime s own + linkLatency
  let tol := s.fabric.timeTol * Config.nsUnits
  k = own && decide (now s ≤ due + tol ∧ due ≤ now s + tol)

/-- EPOCH_MARK (16 R325). -/
def execEpochMark (lane : Fin 12) (msg : FabricMsg) (s : State) : Host.Outcome State Fault Refusal :=
  .next <|
    match msg.body with
    | .epochMark k =>
      receive lane msg id (fun s =>
        if markAgrees s k then s
        else raiseFault 0x0603 2 (laneNumber lane) k (nearestBoundary s (now s - linkLatency)) none
          (s.modFabLane lane fun l => { l with flags := l.flags.raise 4 })) s
    | _ => strange lane msg s

/-! Membership. -/

/-- Node n counts as a member at a station time (16 R326): from a t_j until the sending time of the last heartbeat received
before it was lost. -/
def memberAt (s : State) (n t : Nat) : Bool :=
  n = 0 || (match unit 64 n with
    | some n => (s.nodeRt n).spans.any fun p => decide (p.1 ≤ t) && p.2.all fun e => decide (t ≤ e)
    | none => false)

/-- The node was a member at the latest SYNC's t_s (16 R330, R337). -/
def syncMemberOf (s : State) (n : Fin 64) : Bool :=
  s.fabric.lastSync.any fun t => decide (t ≤ now s) && memberAt s n.val t

/-- A worker that stops being a member frees what its tunnel owners hold (18 R365). -/
def leaveMembership (s : State) : State :=
  if s.fabric.role = .worker && s.fabric.member = .member then forceRelease .tunnelB (forceRelease .tunnelA s) else s

/-- ARMED at t_j: the state of each arm group by the orders executed so far (16 R330). -/
def armedGroups (s : State) (j : Nat) : Nat :=
  (s.fabric.arms.filter fun a => decide (a.e ≤ j)).foldl
    (fun m a => if a.disarm then m &&& (255 - a.mask % 256) else m ||| a.mask % 256) 0

/-- The orders that set the arming at t_j from ARMED (16 R330): a sequencer in several groups is armed when one of them
is. -/
def joinOrders (j armed : Nat) : List ArmOrder :=
  [{ e := j, mask := 255 - armed % 256, disarm := true }, { e := j, mask := armed % 256, disarm := false }]

/-- The arming from ARMED goes before what later ARM messages have said of t_j (16 R330). -/
def joinArming (j armed : Nat) (s : State) : State :=
  let os := joinOrders j armed
  let s := s.modFabric fun b => { b with arms := os ++ b.arms }
  (List.finRange 16).foldl (fun s q =>
    let mine := os.filter fun o => ((progOf s q).armGroups &&& o.mask) ≠ 0
    s.modSeq q fun r => { r with arms := mine.map (fun o => { start := boundaryTime s j, arm := !o.disarm }) ++ r.arms }) s

/-- JOIN_SEND (16 R326, R330). -/
def execJoinSend (s : State) : Host.Outcome State Fault Refusal :=
  .next <|
    if !engines s then s
    else
      let s := beginJoin s
      if s.fabric.role = .worker && s.fabric.member = .joining && s.fabric.joining.isNone && !(activeUplink s).isEmpty then
        originate (activeUplink s) 0 true true (.join (epochNum (epochAt s (now s))) (nodeReport s)) s
      else s

/-- The manager's answer to a JOIN of node n with an epoch index (16 R330): the reason of a rejection. -/
def joinRefused (s : State) (n : Fin 64) (k : Nat) : Option Nat :=
  let x := s.nodeRt n
  let own := epochNum (epochAt s (now s))
  if n = 0 ∨ (x.state = .member ∧ s.time.tclk < x.lastBeat + 8000) then some 1
  else if own + 1 < k ∨ k + 1 < own then some 2
  else none

/-- The manager takes a JOIN (16 R326, R330). -/
def takeJoin (n : Fin 64) (k : Nat) (s : State) : State :=
  let j := nextButOne s
  match joinRefused s n k with
  | some reason =>
    let s := s.modFabric fun b => { b with flags := b.flags.raise 3 }
    originate (downTo s n.val) n.val true true (.joinAck j 0 false reason) s
  | none =>
    let s := s.modNode n fun x => { x.grant (boundaryTime s j) with lastBeat := s.time.tclk }
    originate (downTo s n.val) n.val true true (.joinAck j (armedGroups s j) true 0) s

/-- JOIN (16 R322, R330). -/
def execJoin (lane : Fin 12) (msg : FabricMsg) (s : State) : Host.Outcome State Fault Refusal :=
  .next <|
    match msg.body with
    | .join k _ =>
      receive lane msg id (fun s =>
        let s := learnVia lane msg.src s
        match s.fabric.role, unit 64 msg.src with
        | .manager, some n => takeJoin n k s
        | _, _ => routed lane msg id s) s
    | _ => strange lane msg s

/-- The open span of ORPHAN ends at a station time (16 R329). -/
def endOrphan (t : Nat) (b : Fabric) : Fabric :=
  { b with orphans := b.orphans.map fun o => match o.2 with | none => (o.1, some t) | some _ => o }

/-- The worker takes JOIN_ACK (16 R329, R330). -/
def takeJoinAck (j armed : Nat) (accept : Bool) (reason : Nat) (s : State) : State :=
  if s.fabric.role ≠ .worker ∨ s.fabric.member ≠ .joining then s
  else if accept then
    joinArming j armed (s.modFabric fun b =>
      { endOrphan (boundaryTime s j) b with joining := some (j, armed), joinEpoch := j })
  else
    raiseFault 0x0605 2 reason 0 0 none
      (s.modFabric fun b => { b with member := .unjoined, flags := b.flags.raise 3 })

/-- JOIN_ACK (16 R322, R330). -/
def execJoinAck (lane : Fin 12) (msg : FabricMsg) (s : State) : Host.Outcome State Fault Refusal :=
  .next <|
    match msg.body with
    | .joinAck j armed accept reason => receive lane msg id (routed lane msg (takeJoinAck j armed accept reason)) s
    | _ => strange lane msg s

/-! Loss. -/

/-- UPLINK_INACTIVE (16 R327). -/
def execUplinkInactive (s : State) : Host.Outcome State Fault Refusal :=
  .next <|
    if engines s && s.fabric.role = .worker && decide ((s.fabLane s.fabric.activeUp).lastOwn + 2000 ≤ s.time.tclk) then
      match (uplinks s).filter fun f => f ≠ s.fabric.activeUp with
      | u :: _ => s.modFabric fun b => { b with activeUp := u }
      | [] => s
    else s

/-- Transfers that a link's loss leaves incomplete are discarded (16 R331): on an uplink those from the manager, on a
downlink those of the nodes behind it. -/
def dropPartials (f : Fin 12) (s : State) : State :=
  let behind := fun n : Nat => (unit 64 n).any fun n => (s.nodeRt n).via = some f
  let gone := fun n : Nat => if fromBelow s f then behind n else n = 0
  s.modFabric fun b => { b with partials := b.partials.filter fun p => !gone p.1 }

/-- FABRIC_LINK_DOWN (16 R327): the link comes up again without a command. -/
def execFabricLinkDown (lane : Fin 12) (s : State) : Host.Outcome State Fault Refusal :=
  .next <|
    let l := s.fabLane lane
    if engines s && l.state = .up && decide (l.lastBeat + 8000 ≤ s.time.tclk) then
      let s := dropPartials lane s
      refreshUplinks (s.modFabLane lane fun l =>
        { l.relink with flags := l.flags.raise 0, linkDowns := satAdd l.linkDowns 1 })
    else s

/-- A fault record of severity 2 for a stream of a lost node (16 R328, 21 R424): NODE n, HAS_STREAM, MISSING. -/
def missingRecord (n : Fin 64) (k t : Nat) (s : State) (i : Fin 16) : State :=
  let last := time64 (s.nodeRt n).lastSent
  let r := faultRecord s 0x0604 2 i.val last 0 none
  let s := emit { r with node := n.val, stream := some i.val, epoch := k, time := t, flags := r.flags ||| 4 } s
  let s := postEvent 0x0604 2 (Config.faultDomain 0x0604) i.val last 0 s
  { s with dev := { s.dev with faultCount := satAdd s.dev.faultCount 1 } }

/-- The MISSING records of a lost node (16 R328). -/
def missingRecords (k t : Nat) (s : State) (n : Fin 64) : State :=
  ((List.finRange 16).filter fun i => bit i.val (s.nodeRt n).streams.toNat).foldl (missingRecord n k t) s

/-- NODE_LOST (16 R327, R328). -/
def execNodeLost (node : Fin 64) (s : State) : Host.Outcome State Fault Refusal :=
  .next <|
    let x := s.nodeRt node
    if engines s && s.fabric.role = .manager && (x.state = .joining || x.state = .member) &&
        decide (x.lastBeat + 8000 ≤ s.time.tclk) then
      let s := s.modNode node fun x => { x.close with state := .lost, missing := true }
      let s := s.modFabric fun b => { b with flags := b.flags.raise 1 }
      let s := postEvent 0x800B 0 13 node.val (timeNs x.lastSent) 0 s
      missingRecords (epochNum (epochAt s (now s))) (now s) s node
    else s

/-- MANAGER_LOST (16 R326, R327, R329). -/
def execManagerLost (s : State) : Host.Outcome State Fault Refusal :=
  .next <|
    if engines s && s.fabric.role = .worker && s.fabric.member = .member &&
        decide (s.fabric.lastManager + 8000 ≤ s.time.tclk) then
      let s := leaveMembership s
      s.modFabric fun b =>
        { b with member := .orphan, joining := none, flags := b.flags.raise 0, orphans := (now s, none) :: b.orphans }
    else s

/-- What a boundary t_k brings to the fabric (16 R325, R326, R328): joins take effect, lost nodes are reported again, every
link gets its mark. -/
def fabricBoundary (k : Nat) (s : State) : State :=
  let s := match s.fabric.role, s.fabric.joining with
    | .worker, some (j, _) =>
      if j ≤ k then s.modFabric fun b => { b with member := .member, joining := none } else s
    | _, _ => s
  let s :=
    if s.fabric.role = .manager then
      let join := fun x : NodeRt =>
        if x.state = .joining && x.openFrom.any (fun t => decide (t ≤ boundaryTime s k)) then
          { x with state := .member, missing := false } else x
      let s := s.modFabric fun b => { b with nodes := b.nodes.map join }
      ((List.finRange 64).filter fun n => (s.nodeRt n).missing).foldl (missingRecords k (boundaryTime s k)) s
    else s
  (upLanesOf s [1, 2, 3]).foldl (fun s f => originate [f] (s.fabLane f).partner true true (.epochMark k) s) s

/-! Urgent messages of the system. -/

/-- Carries an urgent message on, and says whether this node acts on it (16 R322, R324): relays forward up what comes from
below; what comes down, or reaches the manager, is forwarded to every child and acted on. -/
def carry (f : Fin 12) (m : FabricMsg) (s : State) : State × Bool :=
  match s.fabric.role with
  | .manager => (passOn (downlinks s) m s, true)
  | .worker => if fromBelow s f then (passOn (uplinks s) m s, false) else (passOn (downlinks s) m s, true)
  | .off => (s, false)

/-- FABRIC_ARM (07 R149, 16 R330). -/
def execFabricArm (lane : Fin 12) (msg : FabricMsg) (s : State) : Host.Outcome State Fault Refusal :=
  .next <|
    match msg.body with
    | .arm e mask disarm _ =>
      receive lane msg id (fun s =>
        let c := carry lane msg s
        if c.2 then keepOrder { e := e, mask := mask, disarm := disarm } (applyArm mask (!disarm) (boundaryTime c.1 e) c.1)
        else c.1) s
    | _ => strange lane msg s

/-- FABRIC_SYNC (06 R115). -/
def execFabricSync (lane : Fin 12) (msg : FabricMsg) (s : State) : Host.Outcome State Fault Refusal :=
  .next <|
    match msg.body with
    | .sync ts => receive lane msg id (fun s => let c := carry lane msg s; if c.2 then recordSync ts c.1 else c.1) s
    | _ => strange lane msg s

/-- The manager takes a FIRE-class message of a node that was no member at the fire time: it is dropped (16 R324). -/
def nonMemberFire (s : State) (m : FabricMsg) (x : FireMsg) : Bool :=
  s.fabric.role = .manager && !memberAt s m.src x.time

/-- A FIRE-class message: a node does not act on its own, which a relay hands on to its children; the manager drops those of
non-members, every other is carried on and acted on (07 R147, 16 R322, R324). -/
def receiveFire (f : Fin 12) (m : FabricMsg) (x : FireMsg) (act : State → State) (s : State) : State :=
  receive f m id (fun s =>
    if m.src = nodeId s then (if s.fabric.role = .worker then (carry f m s).1 else s)
    else if nonMemberFire s m x then
      s.modFabric fun b => { b with nonmember := satAdd b.nonmember 1, flags := b.flags.raise 2 }
    else
      let c := carry f m s
      if c.2 then act c.1 else c.1) s

/-- The anchor of a FIRE-class message: its node is the sender (16 R320). -/
def FireMsg.anchor (x : FireMsg) (src : Nat) : Option Anchor :=
  if x.anchorValid then some { node := src, stream := x.anchorStream, index := x.index } else none

/-- The streams that the plan assigns to a fabric channel (07 R150). -/
def channelMask (s : State) (c : Nat) : Nat := (planNow s).device.channelStreams.getD c 0

/-- The epoch of a fire time of another node (03 R49). -/
def fireEpoch (s : State) (x : FireMsg) : Option Nat := epochAt s x.time

/-- What a freeze of a fabric channel carries besides its range (09 R182). -/
def fabricCapture (s : State) (src : Nat) (x : FireMsg) (prov : Bool) : Capture :=
  { (default : Capture) with
    provisional := prov, fabric := true, source := x.channel, origin := src, sequencer := x.sequencer, fireSeq := x.seq, trigTime := x.time
    epoch := epochNum (fireEpoch s x) }

/-- The freezes of a FIRE-class message (07 R150). -/
def channelFreezes (src : Nat) (x : FireMsg) (prov : Bool) (s : State) : State :=
  (freezeMask (channelMask s x.channel) x.time (x.anchor src) (fabricCapture s src x prov) s).1

/-- Condition 288 + c (07 R150). -/
def channelCond (src : Nat) (x : FireMsg) (s : State) : State := condEvent (288 + x.channel) x.time (x.anchor src) s

/-- FABRIC_FIRE (07 R150). -/
def execFabricFire (lane : Fin 12) (msg : FabricMsg) (s : State) : Host.Outcome State Fault Refusal :=
  .next <|
    match msg.body with
    | .fire x =>
      if x.kind = .fire then
        receiveFire lane msg x (fun s => channelCond msg.src x (channelFreezes msg.src x false s)) s
      else s
    | _ => strange lane msg s

/-- FIRE_PROVISIONAL (08 R160). -/
def execFireProvisional (lane : Fin 12) (msg : FabricMsg) (s : State) : Host.Outcome State Fault Refusal :=
  .next <|
    match msg.body with
    | .fire x =>
      if x.kind = .provisional then
        receiveFire lane msg x (fun s =>
          let p : RemoteProv :=
            { src := msg.src, sequencer := x.sequencer, channel := x.channel, seq := x.seq, time := x.time
              anchor := x.anchor msg.src, epoch := (fireEpoch s x).getD 0, captured := channelMask s x.channel }
          let s := channelFreezes msg.src x true s
          { s with geyser := { s.geyser with remote := s.geyser.remote ++ [p] } }) s
      else s
    | _ => strange lane msg s

/-- The provisional FIRE that a decision names. -/
def RemoteProv.named (p : RemoteProv) (src : Nat) (x : FireMsg) : Bool :=
  p.src = src && p.sequencer = x.sequencer && p.seq = x.seq

/-- The provisional captures of a FIRE of another node. -/
def remoteCaps (s : State) (p : RemoteProv) : List (Fin 16 × U32) := 
  capsWhere s (provisionalOf true p.channel p.src p.sequencer p.seq)

/-- A decision that arrives after a local retraction is counted (08 R160). -/
def lateDecision (src : Nat) (x : FireMsg) (s : State) : State :=
  if s.geyser.timedOut.contains (src, x.sequencer, x.seq) then
    s.modFabric fun b => { b with lateDecisions := satAdd b.lateDecisions 1, flags := b.flags.raise 4 }
  else s

/-- A decision of a provisional FIRE: it no longer waits, and `act` is its effect; one that matches none has no further
effect (08 R160). -/
def decideRemote (src : Nat) (x : FireMsg) (act : RemoteProv → State → State) (s : State) : State :=
  match s.geyser.remote.find? fun p => p.named src x with
  | some p => act p { s with geyser := { s.geyser with remote := s.geyser.remote.erase p } }
  | none => lateDecision src x s

/-- CONFIRM (08 R159, R160). -/
def execConfirm (lane : Fin 12) (msg : FabricMsg) (s : State) : Host.Outcome State Fault Refusal :=
  .next <|
    match msg.body with
    | .fire x =>
      if x.kind = .confirm then
        receiveFire lane msg x (decideRemote msg.src x fun p s =>
          channelCond msg.src x ((remoteCaps s p).foldl confirmCap s)) s
      else s
    | _ => strange lane msg s

/-- RETRACT (08 R159, R160). -/
def execRetract (lane : Fin 12) (msg : FabricMsg) (s : State) : Host.Outcome State Fault Refusal :=
  .next <|
    match msg.body with
    | .fire x =>
      if x.kind = .retract then
        receiveFire lane msg x (decideRemote msg.src x fun p s => (remoteCaps s p).foldl retractCap s) s
      else s
    | _ => strange lane msg s

/-- The RETRACT record of a local retraction (08 R160, 11 R218). What set TT at the origin, and the FIREs held there, no
message carries: free values (log entry 1: DESIGN CHOICE). -/
def timeoutRecord (p : RemoteProv) (s : State) : State :=
  let (v, s) := fresh s
  let body := toLe 8 ((p.anchor.map (·.index)).getD 0) ++ toLe 4 p.seq ++
    toLe 4 (p.sequencer + v.toNat % 2 ^ 9 * 2 ^ 4 + atBit 13 p.anchor.isSome + 2 * 2 ^ 20) ++ toLe 4 (v.toNat / 2 ^ 9) ++
    toLe 4 p.captured
  let r := mkRecord s 4 4 none none p.epoch p.time 0 body
  emit { r with stream := p.anchor.map (·.stream) } s

/-- FABRIC_PROVISIONAL_TIMEOUT (08 R160, R162). -/
def execFabricProvisionalTimeout (s : State) : Host.Outcome State Fault Refusal :=
  .next <|
    match s.geyser.remote.find? fun p => decide (boundaryTime s (p.epoch + 2) ≤ now s) with
    | some p =>
      if !engines s then s
      else
        let s := { s with geyser := { s.geyser with
          remote := s.geyser.remote.erase p, timedOut := (p.src, p.sequencer, p.seq) :: s.geyser.timedOut } }
        timeoutRecord p ((remoteCaps s p).foldl retractCap s)
    | none => s

/-! Relayed records. -/

/-- The manager delivers a record of another node (11 R231); records missing from the origin's FAB sequence are counted
(16 R336). -/
def relayRecord (src : Fin 64) (seq : U32) (r : Record) (s : State) : State :=
  let gap := match (s.nodeRt src).fabSeq with
    | some q => (seq - (q + 1)).toNat
    | none => 0
  let s := s.modNode src fun x => { x with fabSeq := some seq }
  let s := s.modFabric fun b => { b with fabGaps := satAdd b.fabGaps gap }
  assignMask ((routePlan s r.epoch).relayMask r.type % 2 ^ 24) { r with flags := r.flags ||| BitVec.ofNat 16 (2 ^ 11) } s

/-- RECORD_FRAG (11 R231, 16 R322). -/
def execRecordFrag (lane : Fin 12) (msg : FabricMsg) (s : State) : Host.Outcome State Fault Refusal :=
  .next <|
    match msg.body with
    | .recordFrag seq r =>
      receive lane msg id (fun s =>
        match s.fabric.role, unit 64 msg.src with
        | .manager, some n => relayRecord n seq r s
        | .worker, _ => passOn (activeUplink s) msg s
        | _, _ => s) s
    | _ => strange lane msg s

/-! The mailbox tunnel. -/

/-- A fragment of a transfer: the bytes of the transfer once its last fragment has come (16 R331). A fragment whose first
one is missing is discarded. -/
def assemblePart (m : FabricMsg) (data : List Byte) (s : State) : State × Option (List Byte) :=
  let old := if m.first then some [] else (s.fabric.partials.find? (·.1 = m.src)).map (·.2)
  let others := s.fabric.partials.filter fun p => p.1 ≠ m.src
  match old with
  | none => (s, none)
  | some bs =>
    let bs := bs ++ data
    if m.last then (s.modFabric fun b => { b with partials := others }, some bs)
    else (s.modFabric fun b => { b with partials := (m.src, bs) :: others }, none)

/-- The owner of commands tunnelled from a host port of the manager (16 R332). -/
def tunnelOwner (port : Nat) : Owner := if port = 1 then .tunnelB else .tunnelA

/-- The inner command of a slot image (16 R331, R332). -/
def innerCmd (port tag : Nat) (bs : List Byte) (s : State) : Cmd :=
  let le := fun a n => ofLe ((bs.drop a).take n)
  { source := .tunnel (tunnelOwner port) tag, order := s.host.order, recorded := now s, seq := BitVec.ofNat 32 (le 0 4)
    code := BitVec.ofNat 16 (le 4 2), flags := BitVec.ofNat 16 (le 6 2), length := BitVec.ofNat 16 (le 8 2)
    payload := padTo (min (le 8 2) 440) (bs.drop 32) }

/-- The target takes an inner command (16 R332): a repeated TAG returns the stored response; one whose response is still to
come gets it then. -/
def takeInner (port tag : Nat) (bs : List Byte) (s : State) : State :=
  let o := tunnelOwner port
  let src := Source.tunnel o tag
  match (vget s.fabric.stored o.tunnelIndex).find? (·.1 = tag) with
  | some e => sendFragments (activeUplink s) 0 (.tunnelRsp o.tunnelIndex.val tag) e.2 s
  | none =>
    if s.host.serial.any (fun c => c.source = src) || s.host.deferred.any (fun d => d.cmd.source = src) then s
    else
      let c := innerCmd port tag bs s
      drain { s with host := { s.host with order := s.host.order + 1, serial := s.host.serial ++ [c] } }

/-- TUNNEL_CMD (16 R331, R332). -/
def execTunnelCmd (lane : Fin 12) (msg : FabricMsg) (s : State) : Host.Outcome State Fault Refusal :=
  .next <|
    match msg.body with
    | .tunnelCmd port tag data =>
      receive lane msg id (routed lane msg fun s =>
        let a := assemblePart msg data s
        match a.2 with
        | some bs => if s.fabric.role = .worker then takeInner port tag bs a.1 else a.1
        | none => a.1) s
    | _ => strange lane msg s

/-- FABRIC_TUNNEL waits for this response. -/
def tunnelWait (port target tag : Nat) (w : Wait) : Bool :=
  match w with
  | .tunnel p n t _ => p = port && n = target && t = tag
  | _ => false

/-- The inner response completes FABRIC_TUNNEL (16 R331): what the response holds before offset 8 the manual leaves open
(log entry 1: DESIGN CHOICE). -/
def tunnelReply (bs : List Byte) (_ : Deferred) (s : State) : State × Reply :=
  let (v, s) := fresh s
  let size := 32 + ofLe ((bs.drop 10).take 2)
  (s, { status := .ok, detail := 0, payload := (toLe 8 v.toNat ++ bs.take size).take 480 })

/-- TUNNEL_RSP (16 R331). -/
def execTunnelRsp (lane : Fin 12) (msg : FabricMsg) (s : State) : Host.Outcome State Fault Refusal :=
  .next <|
    match msg.body with
    | .tunnelRsp port tag data =>
      receive lane msg id (routed lane msg fun s =>
        let a := assemblePart msg data s
        match a.2 with
        | some bs => finish (tunnelWait port msg.src tag) (tunnelReply bs) a.1
        | none => a.1) s
    | _ => strange lane msg s

/-- TUNNEL_TIMEOUT (16 R334). -/
def execTunnelTimeout (tag : Nat) (s : State) : Host.Outcome State Fault Refusal :=
  .next <|
    let due := fun w : Wait => match w with
      | .tunnel _ _ t d => t = tag && decide (d ≤ now s)
      | _ => false
    if firmware s then finish due (fun _ s => (s, { status := .timeout, detail := 0, payload := [] })) s else s

/-- Data of a tunnelled read, as far as it has come. -/
def keepData (m : FabricMsg) (port tag : Nat) (data : List Byte) (s : State) : State × List Byte :=
  let old := if m.first then [] else ((s.fabric.tunnelData.find? (·.1 = (port, tag))).map (·.2)).getD []
  let bs := old ++ data
  (s.modFabric fun b =>
    { b with tunnelData := ((port, tag), bs) :: b.tunnelData.filter fun e => e.1 ≠ (port, tag) }, bs)

/-- The manager writes the data of a tunnelled CAPTURE_READ to the host memory that the outer command's port reaches, at the
address that the inner command names (16 R333). -/
def deliverData (src port tag : Nat) (bs : List Byte) (s : State) : State :=
  match s.host.deferred.find? (fun d => tunnelWait port src tag d.wait), unit 2 port with
  | some d, some p =>
    if d.cmd.u 12 2 = 0x0701 ∧ (s.port p).linkUp = true then
      s.modHostMem p fun m => memWrite m (d.cmd.u 56 8) (bs.take (d.cmd.u 52 4 * 4096))
    else s
  | _, _ => s

/-- TUNNEL_DATA (16 R333): kept by the target of a PLAN_LOAD until its read is complete, delivered by the manager. -/
def execTunnelData (lane : Fin 12) (msg : FabricMsg) (s : State) : Host.Outcome State Fault Refusal :=
  .next <|
    match msg.body with
    | .tunnelData port tag data =>
      receive lane msg id (routed lane msg fun s =>
        let k := keepData msg port tag data s
        if msg.last ∧ s.fabric.role = .manager then deliverData msg.src port tag k.2 k.1 else k.1) s
    | _ => strange lane msg s

/-- The request of FABRIC_TUNNEL (16 R331): 8 bytes and the inner slot image. -/
def tunnelSpec : CmdSpec :=
  { code := 0x0C04, domain := fun _ => none, fields := fun _ => [(4, 0xFFFF003F), (4, 0)]
    length := fun c => 40 + min 440 (c.u 16 2), boot := fun _ => false }

/-- A node can be reached (16 R335). -/
def hasPath (s : State) (target : Nat) : Bool :=
  match unit 64 target with
  | some n => (s.nodeRt n).state ≠ .absent && (s.nodeRt n).state ≠ .lost && !(downTo s target).isEmpty
  | none => false

/-- The data that a tunnelled PLAN_LOAD reads from the manager's host memory (16 R333). -/
def tunnelPlanData (c : Cmd) (p : PortId) (s : State) : List Byte :=
  if c.u 12 2 = 0x0201 ∧ c.u 56 4 ≤ 2 ^ 28 ∧ (s.port p).linkUp = true then memRead (vget s.hostMem p) (c.u 48 8) (c.u 56 4)
  else []

/-- FABRIC_TUNNEL (16 R331, R333 to R335). -/
def execFabricTunnel (s : State) : Host.Outcome State Fault Refusal :=
  .next <| serve tunnelSpec
    (fun c s =>
      let target := c.u 0 1 % 64
      let tag := c.u 2 2
      if s.fabric.role ≠ .manager ∨ target = 0 then (s, bad 0)
      else if c.u 12 2 = 0x0C04 then (s, bad 12)
      else if 440 < c.u 16 2 then (s, bad 16)
      else if !hasPath s target then (s, refuse .notReady 0)
      else match c.source with
        | .tunnel .. => (s, bad 0)
        | .slot p _ =>
          let lanes := downTo s target
          let data := tunnelPlanData c p s
          let s := sendFragments lanes target (.tunnelCmd p.val tag) (c.payload.drop 8) s
          let s := if data.isEmpty then s else sendFragments lanes target (.tunnelData p.val tag) data s
          (s, .wait (.tunnel p.val target tag (now s + s.params.tunnelTimeout * Config.msUnits)))) s

/-! Commands. -/

/-- LANE_USE of FABRIC_CONFIG for a lane. -/
def laneUse (c : Cmd) (f : Fin 12) : Fin 4 := ⟨c.u (2 + f.val) 1 % 4, Nat.mod_lt _ (by decide)⟩
def lanePeaking (c : Cmd) (f : Fin 12) : Nat := c.u (2 + f.val) 1 / 4 % 32

/-- How many lanes have a use. -/
def useCount (c : Cmd) (u : Fin 4) : Nat := ((List.finRange 12).filter fun f => laneUse c f = u).length

/-- The lane uses fit the role (16 R316): a manager has downlinks alone, a worker UP0 and perhaps UP1, and at most 10
downlinks. -/
def usesOk (c : Cmd) : Role → Bool
  | .off => true
  | .manager => useCount c 1 = 0 && useCount c 2 = 0 && decide (1 ≤ useCount c 3)
  | .worker => useCount c 1 = 1 && decide (useCount c 2 ≤ 1) && decide (useCount c 3 ≤ 10)

def Role.ofCode : Nat → Role
  | 1 => .manager
  | 2 => .worker
  | _ => .off

/-- The first field of FABRIC_CONFIG that breaks R315, R316, R317 or R325. -/
def configBad (c : Cmd) : Option Nat :=
  let node := c.u 1 1
  if 2 < c.u 0 1 then some 0
  else if (if c.u 0 1 = 2 then node = 0 ∨ 63 < node else node ≠ 0) then some 1
  else match (List.finRange 12).find? fun f => decide (18 < lanePeaking c f ∧ lanePeaking c f ≠ 31) with
    | some f => some (2 + f.val)
    | none =>
      if !usesOk c (Role.ofCode (c.u 0 1)) then some 2
      else if c.u 16 4 < 10 ∨ 100000 < c.u 16 4 then some 16
      else none

/-- A new role or node: nothing of the old one's is kept; a worker starts UNJOINED, an orphan (16 R326, R329). -/
def newRole (role : Role) (node : Nat) (s : State) : State :=
  let s := leaveMembership s
  s.modFabric fun b =>
    let b := endOrphan (now s) b
    { b with
      role := role, node := node, member := .unjoined, depth := 0, activeUp := 0, joining := none
      nodes := Vector.replicate 64 NodeRt.reset, seen := [], arms := [], partials := []
      stored := Vector.replicate 2 [], tunnelData := [], lastSync := none
      orphans := if role = .worker then (now s, none) :: b.orphans else b.orphans }

/-- FABRIC_CONFIG (16 R315 to R317, R335): lanes whose use changes come up again. -/
def execFabricConfig (s : State) : Host.Outcome State Fault Refusal :=
  .next <| serve
    (fixedSpec 0x0C01 (some 13) ([whole 1, whole 1] ++ List.replicate 12 (1, 0x7F) ++ [whole 4]))
    (fun c s =>
      let role := Role.ofCode (c.u 0 1)
      let node := c.u 1 1
      match configBad c with
      | some o => (s, bad o)
      | none =>
        let change := role ≠ s.fabric.role || node ≠ s.fabric.node
        if change && anyBankBusy s then (s, refuse .busyRunning 0)
        else
          let s := if change then newRole role node s else s
          let set := fun f : Fin 12 =>
            let l := s.fabLane f
            let x := { l with use := laneUse c f, ctle := lanePeaking c f }
            if role = .off then { x with state := .off, peak := none }
            else if change || l.use ≠ x.use then x.relink else x
          let s := s.modFabric fun b => { b with lanes := Vector.ofFn set, timeTol := c.u 16 4 }
          (refreshUplinks s, ok [])) s

def Role.code : Role → Nat
  | .off => 0
  | .manager => 1
  | .worker => 2

def LinkState.code : LinkState → Nat
  | .off => 0
  | .linking => 1
  | .measuring => 2
  | .up => 3
  | .failed => 4

/-- A signed value of 32 bits, saturating. -/
def satInt32 (x : Int) : Int := max (-(2 : Int) ^ 31) (min x ((2 : Int) ^ 31 - 1))

/-- The device part of FABRIC_STATUS (16 R336). -/
def fabricHead (s : State) : List Byte :=
  let b := s.fabric
  word (b.role.code + nodeId s * 2 ^ 2 + memberCode s * 2 ^ 8 + b.depth % 4 * 2 ^ 10 + b.activeUp.val * 2 ^ 12) ++
  word b.flags.now.toNat ++ toLe 8 b.joinEpoch ++ word b.nonmember.toNat ++ word b.fabGaps.toNat ++
  word (b.lateDecisions.toNat + b.flags.occWord 4 5 * 2 ^ 16) ++ word (b.flags.occWord 0 4)

/-- A lane part of FABRIC_STATUS (16 R336). -/
def fabricEntry (s : State) (n : Nat) : List Byte :=
  match unit 12 n with
  | none => padTo 32 []
  | some f =>
    let l := s.fabLane f
    word (l.state.code + l.use.val * 2 ^ 3 + l.partner % 64 * 2 ^ 5 + l.failCause * 2 ^ 11) ++ word l.flags.now.toNat ++
    word (l.delay + l.pad * 2 ^ 16) ++ toLeInt 4 (satInt32 (offsetPs l)) ++ word l.crcErr.toNat ++
    word (l.fwdLate.toNat + l.unknown.toNat * 2 ^ 16) ++ word (l.linkDowns.toNat + l.flags.occWord 4 5 * 2 ^ 16) ++
    word (l.flags.occWord 0 4)

/-- Clears the flags that a mask names, and the counters, of the device part and of a lane (16 R336). -/
def fabricClear (n mask : Nat) (s : State) : State :=
  let s := s.modFabric fun b =>
    { b with flags := b.flags.statusClear mask, nonmember := 0, fabGaps := 0, lateDecisions := 0 }
  match unit 12 n with
  | some f => s.modFabLane f fun l =>
    { l with flags := l.flags.statusClear mask, crcErr := 0, fwdLate := 0, unknown := 0, linkDowns := 0 }
  | none => s

/-- FABRIC_STATUS (16 R336). -/
def execFabricStatus (s : State) : Host.Outcome State Fault Refusal :=
  .next <| serve (statusSpec 0x0C02 13) (statusBody 12 32 fabricHead fabricEntry fabricClear) s

def NodeState.code : NodeState → Nat
  | .absent => 0
  | .joining => 1
  | .member => 2
  | .lost => 3

/-- An entry of FABRIC_NODES (16 R337); the manager's own is that of a MEMBER at depth 0. -/
def nodeEntry (s : State) (n : Nat) : List Byte :=
  match unit 64 n with
  | none => padTo 8 []
  | some i =>
    let x := s.nodeRt i
    if n = 0 then
      toLe 8 (2 + (runningStreams s).toNat * 2 ^ 4 + activePlanId s * 2 ^ 20 + atBit 52 (syncMemberOf s i))
    else
      toLe 8 (x.state.code + x.depth % 4 * 2 ^ 2 + x.streams.toNat * 2 ^ 4 + x.planId % 2 ^ 32 * 2 ^ 20 +
        atBit 52 (syncMemberOf s i))

/-- FABRIC_NODES (16 R335, R337). -/
def execFabricNodes (s : State) : Host.Outcome State Fault Refusal :=
  .next <| serve (fixedSpec 0x0C03 none [whole 1, whole 1])
    (fun c s =>
      let first := c.u 0 1
      let n := c.u 1 1
      if s.fabric.role ≠ .manager then (s, refuse .refusedState 0)
      else if 63 < first then (s, bad 0)
      else if n = 0 ∨ 32 < n ∨ 64 < first + n then (s, bad 1)
      else (s, ok (((List.range n).map fun i => nodeEntry s (first + i)).flatten))) s

end Sys2Proof.Machine
end

