-- ==== Sys2Proof/Machine/Pool.lean ====
section
/-! DEFINITION. Pool: quantised powers, integration periods, the finisher, integrated-spectrum and occupancy records (06 R118
to R128, 11 R217). -/

namespace Sys2Proof.Machine

/-- p of R118: min(floor(P 2^E + 0.5), 65535) of a binary32 power, and whether it was limited. -/
def poolP (exp word : Nat) : Nat × Bool :=
  let p := ((f32Scaled word).toNat * 2 ^ (exp + 1) + 2 ^ 149) / 2 ^ 150
  if 65535 < p then (65535, true) else (p, false)

/-- The first epoch of the period that an epoch lies in: the latest multiple of PERIOD_EPOCHS or flip (06 R120). -/
def periodFirst (s : State) (pe k : Nat) : Nat :=
  let m := k / max pe 1 * max pe 1
  match s.plans.flips.find? fun f => decide (f.1 ≤ k) with
  | some f => max m f.1
  | none => m

/-- The epoch at which a period closes: the next opening (06 R120). -/
def periodEnd (s : State) (pe first : Nat) : Nat :=
  let m := (first / max pe 1 + 1) * max pe 1
  (s.plans.flips.filter fun f => decide (first < f.1)).foldl (fun e f => min e f.1) m

/-- The bin of an entry as the finisher closes it (06 R124, R125). -/
def finishBin (p : PoolE) (m : Nat) (b : PoolBin) : FinBin :=
  let s1 := b.s1.toNat
  let s2 := b.s2.toNat
  let sk := if m < 2 ∨ s1 = 0 then 0 else toF32 ((m + 1) * (m * s2 - s1 * s1)) ((m - 1) * (s1 * s1))
  let mask := decide (2 ≤ m ∧ 0 < s1) &&
    (decide (f32Scaled sk < f32Scaled p.skLow) || decide (f32Scaled p.skHigh < f32Scaled sk))
  { s1 := s1, s2 := s2, occ := b.occ.toNat, sk := sk, mask := mask }

/-- The Pool entry of a view in a bank. -/
def poolEntry (s : State) (b : Fin 2) (v : Fin 64) : PoolE := (planIn s b).poolOf v.val

/-! Spilled bins (06 R119): those of a view beyond FRONT_BINS are 16-byte entries of its spill allocation, in bin order, with
the fields in the order of R119's table (log entry 15: DESIGN CHOICE). -/

/-- The bins of a view in a bank that stand on chip. -/
def frontCount (s : State) (b : Fin 2) (v : Fin 64) : Nat :=
  min (poolEntry s b v).frontBins ((planIn s b).view v.val).binCount

/-- The address of the first spilled entry of a view. -/
def spillAt (s : State) (b : Fin 2) (v : Fin 64) : Nat :=
  (((poolEntry s b v).spill.bind fun i => (planIn s b).allocs[i]?).getD default).base

/-- An entry as it stands in near memory. -/
def binBytes (b : PoolBin) : List Byte :=
  toLe 6 b.s1.toNat ++ toLe 6 b.s2.toNat ++ toLe 4 (b.occ.toNat + atBit 31 b.tag)

def binAt (m : Memory) (a : Nat) : PoolBin :=
  let w := memLe m (a + 12) 4
  { s1 := BitVec.ofNat 48 (memLe m a 6), s2 := BitVec.ofNat 48 (memLe m (a + 6) 6), occ := BitVec.ofNat 31 w, tag := bit 31 w }

/-- The entries of a view in bin order: the front ones, then the spilled ones. -/
def entriesOf (s : State) (b : Fin 2) (v : Fin 64) : List PoolBin :=
  let front := frontCount s b v
  let n := ((planIn s b).view v.val).binCount - front
  let near := nearFor s 2 (spillAt s b v) (16 * n)
  (vget s.pool v).bins ++ (List.range n).map fun i => binAt near (spillAt s b v + 16 * i)

/-- Writes the entries of a view, each to where it stands. -/
def putEntries (b : Fin 2) (v : Fin 64) (l : List PoolBin) (s : State) : State :=
  let front := frontCount s b v
  let rest := l.drop front
  let s := s.modPool v fun r => { r with bins := l.take front }
  if rest.isEmpty then s
  else nearPut (spillAt s b v) (rest.flatMap binBytes) (nearTaken 2 (spillAt s b v) (16 * rest.length) s)

/-- A view's entries can be accessed: while MCLK is gated the requests to near memory wait (21 R418). -/
def entriesReady (s : State) (b : Fin 2) (v : Fin 64) : Bool :=
  decide (((planIn s b).view v.val).binCount ≤ frontCount s b v) || locked s 3

/-! Periods. -/

/-- A period opens: every entry is new, under the other TAG (06 R120, R121). -/
def openPeriod (v : Fin 64) (b : Fin 2) (first : Nat) (s : State) : State :=
  let tag := !(vget s.pool v).tag
  putEntries b v (List.replicate ((planIn s b).view v.val).binCount { s1 := 0, s2 := 0, occ := 0, tag := tag })
    (s.modPool v fun r =>
      { r with
        tag := tag
        period := some { first := first, last := first, bank := b, m := 0, clamped := 0, excluded := 0, late := 0, taken := [] } })

/-- The open period of a view closes: its bins pass the finisher, and its mask bits go to the view's RFI slots (06 R121,
R125; 07 R132). -/
def finishPeriod (v : Fin 64) (p : Period) (s : State) : State :=
  let e := poolEntry s p.bank v
  let stop := periodEnd s e.period p.first
  let p := { p with last := stop - 1 }
  let bins := (entriesOf s p.bank v).map (finishBin e p.m)
  let s := s.modPool v fun r =>
    { r with period := none, bins := [], closed := r.closed ++ [(p, bins)], closedTo := some p.first }
  rfiSlots v p.bank (bins.map (·.mask)) (boundaryTime s stop) s

/-- Every period closes at the next opening (06 R120): the next one of the view opens under the bank of its first epoch. -/
def closePeriod (v : Fin 64) (s : State) : State :=
  match (vget s.pool v).period with
  | none => s
  | some p =>
    let stop := periodEnd s (poolEntry s p.bank v).period p.first
    let s := finishPeriod v p s
    match bankFor s stop with
    | some b => if (poolEntry s b v).present then openPeriod v b stop s else s
    | none => s

/-- The periods of a view that begin before `first` close; `n` bounds their number. -/
def closeUntil (v : Fin 64) (first : Nat) : Nat → State → State
  | 0, s => s
  | n + 1, s =>
    if (vget s.pool v).period.any fun p => decide (p.first < first) then closeUntil v first n (closePeriod v s) else s

/-- A flip to a bank at epoch `k` opens a period of each of its Pool views that has none open (06 R120). -/
def poolFlip (k : Nat) (new : Fin 2) (s : State) : State :=
  (List.finRange 64).foldl (fun s v =>
    if (poolEntry s new v).present && (vget s.pool v).period.isNone then openPeriod v new k s else s) s

/-- A spectrum's bins enter the accumulators (06 R118, R119, R126). -/
def accumulate (v : Fin 64) (x : Spectrum) (s : State) : State :=
  let e := poolEntry s x.bank v
  let bk := s.bank x.bank
  let ps := x.bins.map fun z => poolP e.exp (powerF32 z)
  let add := fun (b : PoolBin) (q : (Nat × Bool) × Nat) =>
    let t := memLe bk.thresholds (2 * schedAddr bk false x.epoch (e.threshBase + q.2)) 2
    { b with
      s1 := b.s1 + BitVec.ofNat 48 q.1.1, s2 := b.s2 + BitVec.ofNat 48 (q.1.1 * q.1.1)
      occ := if t < q.1.1 then b.occ + 1 else b.occ }
  let s := putEntries x.bank v (List.zipWith add (entriesOf s x.bank v) ps.zipIdx) s
  s.modPool v fun r =>
    { r with
      period := r.period.map fun p =>
        { p with m := p.m + 1, clamped := p.clamped + (ps.filter (·.2)).length
                 taken := p.taken ++ [{ stream := x.stream, lo := x.lo, hi := x.hi }] } }

/-- POOL_ACCUMULATE (06 R120, R121, R123, R127). -/
def execPoolAccumulate (view : Fin 64) (s : State) : Host.Outcome State Fault Refusal :=
  .next <|
    match (s.view view).poolQ with
    | [] => s
    | x :: rest =>
      if !dclk s || !entriesReady s x.bank view || !(vget s.pool view).period.all (fun p => entriesReady s p.bank view) then s
      else
        let s := s.modView view fun r => { r with poolQ := rest }
        let e := poolEntry s x.bank view
        let first := periodFirst s e.period x.epoch
        let r := vget s.pool view
        if x.epoch = Config.noEpoch then s
        else if r.closedTo.any fun c => decide (first ≤ c) then s.modPool view fun r => { r with late := r.late + 1 }
        else
          let s := closeUntil view first first s
          let s := if (vget s.pool view).period.isNone then openPeriod view x.bank first s else s
          if x.excludedBy e.exclude then
            s.modPool view fun r => { r with period := r.period.map fun p => { p with excluded := p.excluded + 1 } }
          else accumulate view x s

/-- The declared source rate of a view, as samples per second over a divisor (06 R122). -/
def declaredRate (p : Plan) (v : ViewE) : Nat × Nat :=
  if v.source < 16 then ((p.stream v.source).declared, 1)
  else ((p.stream (p.zoom (v.source - 16)).source).declared, max (p.zoom (v.source - 16)).d 1)

/-- The stream that feeds a view under a plan, for a zoom source the channel's input stream (11 R212). -/
def viewStream (p : Plan) (v : ViewE) : Fin 16 :=
  ⟨(if v.source < 16 then v.source else (p.zoom (v.source - 16)).source) % 16, Nat.mod_lt _ (by decide)⟩

/-- STREAM_TIME_OFFSET of a stream in 2^-16 ns. -/
def offsetOf (s : State) (i : Fin 16) : Nat := ceilDiv (vget s.params.streamOffset i * Config.nsUnits) 1000

/-- The earliest boundary at which the firmware sweeps a view's open period (06 R122), as a station time. -/
def sweepFrom (s : State) (v : Fin 64) (p : Period) : Nat :=
  let pl := planIn s p.bank
  let e := pl.view v.val
  let (rate, d) := declaredRate pl e
  boundaryTime s (periodEnd s (poolEntry s p.bank v).period p.first) +
    ceilDiv ((e.n + e.hop) * d * Config.secUnits) (max rate 1) + offsetOf s (viewStream pl e) + 2 * Config.msUnits

/-- POOL_SWEEP (06 R122): at the first epoch boundary from then on. -/
def execPoolSweep (view : Fin 64) (s : State) : Host.Outcome State Fault Refusal :=
  .next <|
    match (vget s.pool view).period, s.plans.epoch with
    | some p, some k =>
      if firmware s && dclk s && entriesReady s p.bank view && decide (sweepFrom s view p ≤ boundaryTime s k) then
        closePeriod view s
      else s
    | _, _ => s

/-! Records. -/

/-- The bytes of a bin (11 R217). -/
def finBytes (type : Nat) (b : FinBin) : List Byte :=
  if type = 2 then toLe 4 b.s1 ++ toLe 6 b.s2 ++ toLe 2 (atBit 0 b.mask) ++ toLe 4 b.sk else toLe 4 b.occ

/-- The body of a segment of a period's record (11 R217). -/
def poolBody (type : Nat) (e : PoolE) (p : Period) (late linkErr segs k first : Nat) (bins : List FinBin) : List Byte :=
  toLe 4 p.m ++ toLe 4 (p.last + 1 - p.first + e.exp * 2 ^ 16) ++ toLe 4 p.clamped ++ toLe 4 p.excluded ++ toLe 4 late ++
  toLe 4 linkErr ++ toLe 4 first ++ toLe 4 bins.length ++ toLe 2 k ++ toLe 2 segs ++ toLe 4 0 ++
  padMul 8 (bins.flatMap (finBytes type))

/-- The epoch flags that any epoch of a period carries for the view's source (06 R128). -/
def periodFlags (s : State) (i : Fin 16) (p : Period) : Nat :=
  (List.range (p.last + 1 - p.first)).foldl (fun f n =>
    let e := epochRec s i (p.first + n)
    f ||| (atBit 3 (invalidClock s (p.first + n)) + atBit 4 (e.any (·.extrapolated)) + atBit 5 (e.any (·.rateMismatch)) +
      atBit 6 (e.any (·.fitDegraded)))) 0

/-- The records of one type of a closed period, segment by segment (06 R128, 11 R214, R217). -/
def poolRecords (v : Fin 64) (type : Nat) (p : Period) (bins : List FinBin) (late : Nat) (s : State) : State :=
  let pl := planIn s p.bank
  let e := pl.view v.val
  let i := viewStream pl e
  let ms := p.taken.map fun t => marksOver (s.stream t.stream).marks t.lo t.hi
  let more := periodFlags s i p ||| markFlags (ms.foldl orMarks (false, false, false))
  let segs := segmentsOf e.segBins bins.length
  segs.zipIdx.foldl (fun s g =>
    emit (mkRecord s type 0 (some i) (some v.val) p.first (boundaryTime s p.first)
      (more ||| atBit 10 (g.2 + 1 < segs.length))
      (poolBody type (pl.poolOf v.val) p late (ms.filter (·.1)).length segs.length g.2 g.1.1
        ((bins.drop g.1.1).take g.1.2))) s) s

/-- POOL_RECORDS (06 R127, R128): after the hold of the period's spectra. -/
def execPoolRecords (view : Fin 64) (s : State) : Host.Outcome State Fault Refusal :=
  .next <|
    match (vget s.pool view).closed with
    | [] => s
    | (p, bins) :: rest =>
      if !engines s || p.taken.any fun t => decide ((s.stream t.stream).checkedTo ≤ t.hi) then s
      else
        let late := (vget s.pool view).late
        let s := s.modPool view fun r => { r with closed := rest, late := 0 }
        poolRecords view 3 p bins late (poolRecords view 2 p bins late s)

end Sys2Proof.Machine
end

