-- ==== Sys2Proof/Machine/Programs.lean ====
section
/-! DEFINITION. The checks of sequencer programs: instruction fields (07 R135, R141), forerunner headers (08 R153), and the
four program checks (07 R145). Times are seconds and rates events per second, as fractions. -/

namespace Sys2Proof.Machine

/-! Refusals. -/

/-- What a refusal of an image names (19 R381, 20 R398). -/
structure Fail where
  sect  : Nat
  entry : Nat
  fld   : Nat
  check : Nat
  deriving DecidableEq, Repr

/-- A check: nothing where it holds, else the refusal. -/
def need (holds : Bool) (sect entry fld check : Nat) : List Fail :=
  if holds then [] else [{ sect := sect, entry := entry, fld := fld, check := check }]

/-! Latency bounds and rates (07 R145). -/

/-- Cycles of DCLK in seconds. -/
def dclkSec (n : Nat) : Rat := (n : Rat) / 1500000000
def usSec (n : Nat) : Rat := (n : Rat) / 1000000

/-- The declared rate of a source. -/
def srcRate (p : Plan) (src : Nat) : Rat := let f := fsOf p src; (f.1 : Rat) / f.2

/-- EPOCH_PERIOD. -/
def periodSec (s : State) : Rat := usSec s.params.epochPeriod

/-- STREAM_TIME_OFFSET of the stream that feeds a view. -/
def offsetSec (s : State) (p : Plan) (v : ViewE) : Rat := ((vget s.params.streamOffset (viewStream p v) : Nat) : Rat) / 10 ^ 12

/-- The bound of R86 on a view's transform. -/
def transformSec (v : ViewE) : Rat :=
  if v.fourStep then dclkSec (v.n / 2) + usSec 50 else dclkSec (v.n / 2 + 1024)

/-- Latency bound of VIOLATION and BAND on a view. -/
def slotSec (s : State) (p : Plan) (v : ViewE) : Rat :=
  (v.n : Rat) / srcRate p v.source + offsetSec s p v + usSec 2 + transformSec v + dclkSec 256 +
    (if v.source < 16 then 0
     else
      let z := p.zoom (v.source - 16)
      (z.d : Rat) / (p.stream z.source).declared + dclkSec 64)

/-- Latency bound of RFI on a view. -/
def rfiSec (s : State) (p : Plan) (v : ViewE) : Rat :=
  ((v.n + v.hop : Nat) : Rat) / srcRate p v.source + offsetSec s p v + usSec 2000 + periodSec s +
    (v.hop : Rat) / srcRate p v.source + dclkSec 2304 + usSec 2

/-- The counted rate of a per-spectrum slot. -/
def slotRate (p : Plan) (v : ViewE) : Rat := (10002 : Rat) / 10000 * srcRate p v.source / v.hop

/-- VERIFY_BOUND of a forerunner program (08 R153). -/
def verifySec (s : State) (p : Plan) (g : GeyserE) : Rat := slotSec s p (p.view (g.verifyCond / 4))

/-- The timers that a program starts in hops of a view, with the view. -/
def hopTimers (g : GeyserE) : List (Nat × Nat) :=
  (g.instrs.filter fun w => iOp w = 3 && bits 8 7 w = 0 && bit 9 w).map fun w => (bits 6 4 w, bits 15 10 w)

/-- Latency bound of a condition for a program. -/
def condSec (s : State) (p : Plan) (g : GeyserE) (c : Nat) : Rat :=
  if c < 256 then
    let v := p.view (c / 4)
    if (p.mask c).kind = 4 then rfiSec s p v else slotSec s p v
  else if c < 272 then usSec 2000
  else if c < 288 then usSec 1
  else if c < 304 then max (usSec 2) (usSec p.device.fabricLatencyUs)
  else if c < 321 then usSec 1
  else if c < 337 then
    let m := p.seqOf (c - 321)
    usSec m.alignUs + (if m.forerunner then verifySec s p m else usSec 1)
  else ((hopTimers g).filter fun t => t.1 = c - 337).foldl (fun b t => max b (slotSec s p (p.view t.2))) (usSec 1)

/-- Counted rate of a condition that is not a local FIRE. -/
def plainRate (s : State) (p : Plan) (c : Nat) : Rat :=
  if c < 256 then if (p.mask c).kind = 4 then 1 / periodSec s else slotRate p (p.view (c / 4))
  else if c < 272 then 120
  else if c < 288 then
    match unit 16 (c - 272) with
    | some i => 500000000 / (max (vget s.evt.inputs i).holdoff 1 : Nat)
    | none => 0
  else if c < 304 then 50000000
  else if c = 304 then 1 / periodSec s
  else if c < 321 then 1000000
  else 0

/-- The rate sum of a sequencer's program; a sequencer that its own FIREs feed counts once (`n` bounds the chain). -/
def rateSum (s : State) (p : Plan) : Nat → List Nat → Nat → Rat
  | 0, _, _ => 0
  | n + 1, seen, q =>
    if seen.contains q then 0
    else
      ((p.seqOf q).conds.eraseDups.map fun c =>
        if 321 ≤ c ∧ c < 337 then rateSum s p n (q :: seen) (c - 321) else plainRate s p c).sum

/-! Control flow. -/

/-- The address of a state of a program. -/
def stateAddr (g : GeyserE) (st : Nat) : Option Nat := g.states.getD st none

/-- What an instruction can go on to within the program. -/
def successors (g : GeyserE) (pc : Nat) : List Nat :=
  let w := g.instrs.getD pc 0
  let target := fun st => (stateAddr g st).toList
  let next := match iOp w with
    | 0 => []
    | 1 => (pc + 1) :: (if bit 34 w then target (bits 48 44 w) else [])
    | 2 => (pc + 1) :: (if bit 7 w then [] else target (bits 44 40 w))
    | 4 => target (bits 8 4 w)
    | _ => [pc + 1]
  next.filter fun x => decide (x < g.instrs.length)

def isWait (g : GeyserE) (pc : Nat) : Bool := iOp (g.instrs.getD pc 0) = 1

/-- From which addresses `n` more non-WAIT instructions can be executed in a row. -/
def longRuns (g : GeyserE) : Nat → List Bool
  | 0 => g.instrs.map fun _ => true
  | n + 1 =>
    let prev := longRuns g n
    (List.range g.instrs.length).map fun pc =>
      !isWait g pc && (n = 0 || (successors g pc).any fun x => prev.getD x false)

/-- A cycle of instructions contains no WAIT: more of them than the program holds can be executed in a row. -/
def waitless (g : GeyserE) : Bool := (longRuns g (g.instrs.length + 1)).any id

/-- The longest run of non-WAIT instructions from each address to a WAIT; none where no WAIT follows. -/
def runsToWait (g : GeyserE) : Nat → List (Option Nat)
  | 0 => g.instrs.map fun _ => none
  | n + 1 =>
    let prev := runsToWait g n
    (List.range g.instrs.length).map fun pc =>
      if isWait g pc then some 0
      else (((successors g pc).filterMap fun x => prev.getD x none).max?).map (· + 1)

/-- L of the rate check. -/
def runLength (g : GeyserE) : Nat :=
  let runs := runsToWait g (g.instrs.length + 1)
  let from_ := (List.range g.instrs.length).filter (isWait g)
  ((from_.flatMap fun pc => (successors g pc).filterMap fun x => runs.getD x none).max?).getD 0 + 1

/-! Instruction fields (07 R135, R141). -/

/-- A program may name a condition: a number of R135, and no slot that is OFF. -/
def condOk (p : Plan) (c : Nat) : Bool := decide (c ≤ 344) && (decide (256 ≤ c) || (p.mask c).kind ≠ 0)

/-- A state number with an entry whose address lies within the program. -/
def stateOk (g : GeyserE) (st : Nat) : Bool := (stateAddr g st).any fun a => decide (a < g.instrCount)

/-- Every stream of a mask has a ring (09 R171). -/
def ringMask (p : Plan) (m : Nat) : Bool := (List.range 16).all fun i => !bit i m || (p.ringOf i).present

def instrOk (p : Plan) (g : GeyserE) (w : Nat) : Bool :=
  match iOp w with
  | 0 | 5 | 8 => true
  | 1 =>
    decide (bits 6 5 w ≤ 2) && (waitTerms w).all (condOk p) && (waitAbort w).all (condOk p) &&
      (!bit 34 w || stateOk g (bits 48 44 w))
  | 2 => bit 7 w || (decide (1 ≤ bits 39 8 w) && stateOk g (bits 44 40 w))
  | 3 =>
    decide (bits 8 7 w ≤ 1) &&
      (bits 8 7 w = 1 || (decide (1 ≤ bits 47 16 w) && (!bit 9 w || (p.view (bits 15 10 w)).present)))
  | 4 => stateOk g (bits 8 4 w)
  | 6 => ringMask p (bits 32 17 w)
  | 7 => bits 5 4 w ≠ 2 || (p.view (bits 11 6 w)).present
  | _ => false

/-! Forerunner headers (08 R153). -/

/-- Every consumer of a line is a DMA program that may read provisional captures (08 R153, R157). -/
def provLineOk (p : Plan) (line : Nat) : Bool :=
  (p.dmas.all fun d => d.provSafe || !(d.descs.any fun x =>
    (dOp x = 3 && dLine x = line) || (dMove x && dDstSpace x = 9 && dLine x = line))) &&
  (p.rings.all fun r => r.2.releaseHe ≠ some line) && !p.device.ventStart.contains (some line)

def forerunnerOk (s : State) (p : Plan) (g : GeyserE) : Bool :=
  let v := p.view (g.verifyCond / 4)
  let k := (p.mask g.verifyCond).kind
  decide (g.verifyCond < 256 ∧ 1 ≤ k ∧ k ≤ 3) && g.provHe.all (provLineOk p) &&
    decide (((usSec g.alignUs * slotRate p v).ceil : Rat) + (v.n : Rat) / v.hop ≤ 4096) &&
    decide (verifySec s p g ≤ periodSec s)

/-! A GEYSER entry. -/

/-- The refusals of a sequencer's entry, fields first, then the checks of R145. -/
def seqFails (s : State) (p : Plan) (q : Nat) : List Fail :=
  let g := p.seqOf q
  if !g.present then []
  else
    let rate := rateSum s p 17 [] q
    let conds := g.conds.eraseDups
    need (decide (1 ≤ g.alignUs ∧ g.alignUs ≤ 10000000)) 0x0B q 0x004 0 ++
    need (decide (1 ≤ g.instrCount ∧ g.instrCount ≤ 256)) 0x0B q 0x008 0 ++
    need (!g.forerunner || forerunnerOk s p g) 0x0B q 0x00C 0 ++
    ((List.range 32).flatMap fun st =>
      need ((stateAddr g st).all fun a => decide (a < g.instrCount)) 0x0B q (0x040 + 4 * (st / 2)) 0) ++
    ((List.range g.instrs.length).flatMap fun i => need (instrOk p g (g.instrs.getD i 0)) 0x0B q (0x080 + 8 * i) 0) ++
    need (!waitless g) 0x0B q 0xFFFF 1 ++
    need (conds.all fun c => decide (condSec s p g c ≤ usSec g.alignUs)) 0x0B q 0x004 2 ++
    need (decide (rate * runLength g ≤ 1500000000)) 0x0B q 0xFFFF 3 ++
    need (decide (rate * usSec g.alignUs + ((conds.filter fun c => 337 ≤ c).length : Nat) ≤ 16384)) 0x0B q 0x004 4

end Sys2Proof.Machine
end

