-- ==== Sys2Proof/Machine/PlanCheck.lean ====
section
/-! DEFINITION. The structural checks of PLAN_VERIFY: versions, signature, and the field limits of every section, in the order
of 20 R405, each with what its refusal names (20 R393 to R403, 19 R381). -/

namespace Sys2Proof.Machine

/-- All entries of a section, each by its refusals. -/
def eachOf (n : Nat) (f : Nat → List Fail) : List Fail := (List.range n).flatMap f

/-! Versions and signature (20 R402, R403). -/

def versionFails (h : PlanHeader) (dir : List DirE) : List Fail :=
  need (decide (h.major = 3 ∧ h.minor ≤ 2)) 0 0xFFFF 0x004 8 ++
  need (decide (h.minFw ≤ 0x0302)) 0 0xFFFF 0x018 8 ++
  need (decide (h.stepping = Config.stepping)) 0 0xFFFF 0x014 8 ++
  eachOf dir.length fun i => let d := dir.getD i default; need (d.known || !d.required) d.type i 0xFFFF 8

/-- The digest that a signature covers: the image with SIG_R, SIG_S and HEADER_CRC taken as zero. -/
def signedDigest (s : State) (b : Fin 2) (tiles : Nat) : List Byte :=
  sha384 (blank 0x1F8 4 (blank 0x170 96 (imageBytes s b 0 (4096 * tiles))))

def signatureFails (s : State) (b : Fin 2) (h : PlanHeader) : List Fail :=
  let key := imageBytes s b 0x100 97
  let keys := s.dev.fuses.planKeys.toList.filterMap id
  if h.sigKind = 0 then need (!s.dev.fuses.sigRequired) 0 0xFFFF 0x080 7
  else if h.sigKind ≠ 1 then need false 0 0xFFFF 0x080 7
  else
    need (keys.isEmpty || keys.contains (ofBe (sha384 key))) 0 0xFFFF 0x100 7 ++
    need (ecdsaVerify key (signedDigest s b h.tiles) (ofBe (imageBytes s b 0x170 48)) (ofBe (imageBytes s b 0x1A0 48)))
      0 0xFFFF 0x170 7

/-! Tile 0 and the directory (20 R393, R405). -/

/-- The tiles of a section. -/
def DirE.span (d : DirE) : Nat × Nat := (d.offset / 4096, (d.offset + d.bytes + 4095) / 4096)

def dirFails (h : PlanHeader) (dir : List DirE) (i : Nat) : List Fail :=
  let d := dir.getD i default
  if !d.known then []
  else
    let before := (dir.take i).filter (·.known)
    let shape := (sectionShape d.type).getD (0, 0, 0, 1)
    need (before.all fun e => e.type ≠ d.type) 0 i 0x00 0 ++
    need (decide (d.offset % 4096 = 0 ∧ (h.crcTiles + 1) * 4096 ≤ d.offset ∧ d.offset + d.bytes ≤ h.tiles * 4096) &&
      before.all fun e => decide (e.span.2 ≤ d.span.1 ∨ d.span.2 ≤ e.span.1)) 0 i 0x04 0 ++
    need (decide (d.entryBytes = shape.1)) 0 i 0x10 0 ++
    need (decide (shape.2.1 ≤ d.entries ∧ d.entries ≤ shape.2.2.1 ∧ d.entries % shape.2.2.2 = 0)) 0 i 0x0C 0 ++
    need (decide (d.bytes = d.entries * d.entryBytes)) 0 i 0x08 0

def tileZeroFails (h : PlanHeader) (dir : List DirE) : List Fail :=
  need (decide (h.planId ≠ 0)) 0 0xFFFF 0x010 0 ++ eachOf dir.length (dirFails h dir)

/-- A section that must be present is missing. -/
def missingFails (dir : List DirE) (t : Nat) : List Fail := need (sectionIn dir t).isSome t 0xFFFF 0xFFFF 0

/-! Streams. -/

def laneOk (l : LaneE) : Bool :=
  decide ((l.ctle ≤ 18 ∨ l.ctle = 31) ∧ l.cm1 ≤ 10 ∧ l.cp1 ≤ 16 ∧ l.cm1 + l.cp1 ≤ 20)

def streamFails (p : Plan) (i : Nat) : List Fail :=
  let e := p.stream i
  let n := 2 ^ e.log2Lanes
  let group := fun x : StreamE => (List.range (2 ^ x.log2Lanes)).map (x.firstLane + ·)
  if !e.run then []
  else
    need (decide (e.firstLane % n = 0 ∧ e.firstLane + n ≤ 32)) 0x01 i 0x00 0 ++
    need (decide (0 < e.declared)) 0x01 i 0x08 0 ++
    (e.lanes.zipIdx.flatMap fun l => need (laneOk l.1) 0x01 i (0x10 + 4 * (l.2 / 2)) 0) ++
    need ((List.range i).all fun j => !(p.stream j).run || (group (p.stream j)).all fun l => !(group e).contains l) 0x01 i 0x00 5

/-! Tables of TABLE_POOL (20 R396). -/

/-- A table lies wholly within TABLE_POOL. -/
def tableFits (p : Plan) (ref bytes : Nat) : Bool :=
  decide (ref ≠ 0xFFFFFFFF ∧ 64 * ref + bytes ≤ (arraySection p.dir 0x04).2)

/-- `n` entries of 4 bytes of a table, from the image. -/
def imageTable (s : State) (b : Fin 2) (p : Plan) (ref n : Nat) : List Nat :=
  (List.range n).map fun i => imageLe s b ((arraySection p.dir 0x04).1 + 64 * ref + 4 * i) 4

/-- A view's column map, from the image. -/
def imageMap (s : State) (b : Fin 2) (p : Plan) (v : ViewE) : List Nat := imageTable s b p v.colmapRef v.binCount

/-- A rule holds between every two neighbours of a list. -/
def steps (r : Nat → Nat → Bool) : List Nat → Bool
  | a :: b :: t => r a b && steps r (b :: t)
  | _ => true

/-- Entries rise: COL_FIRST at most COL_LAST, and neither decreases among those not skipped (10 R188). -/
def mapRises (map : List Nat) : Bool :=
  let xs := map.filter fun e => !mSkip e
  xs.all (fun e => decide (mFirst e ≤ mLast e)) && steps (fun a b => decide (mFirst a ≤ mFirst b ∧ mLast a ≤ mLast b)) xs

/-- Entries of Y_MAP fall, and no plane row feeds more than 16 frame rows (10 R196). -/
def mapFalls (map : List Nat) : Bool :=
  let xs := map.filter fun e => !mSkip e
  xs.all (fun e => decide (mLast e ≤ mFirst e)) && steps (fun a b => decide (mFirst b ≤ mFirst a ∧ mLast b ≤ mLast a)) xs &&
    (List.range 4096).all fun r => decide ((xs.filter fun e => decide (mLast e ≤ r ∧ r ≤ mFirst e)).length ≤ 16)

/-- A colour entry (10 R195). -/
def colourOk (e : Nat) : Bool :=
  decide (64 ≤ bits 9 0 e ∧ bits 9 0 e ≤ 940 ∧ 64 ≤ bits 19 10 e ∧ bits 19 10 e ≤ 960 ∧ 64 ≤ bits 29 20 e ∧
    bits 29 20 e ≤ 960)

/-! Views, zoom channels, Pool. -/

/-- A source that the plan runs or configures (05 R88). -/
def sourceOk (p : Plan) (src : Nat) : Bool :=
  if src < 16 then (p.stream src).run else decide (src < 48) && (p.zoom (src - 16)).present

/-- An allocation of a kind and owner of at least some bytes (20 R396). -/
def hasAlloc (p : Plan) (kind owner bytes : Nat) : Bool :=
  p.allocs.any fun a => a.kind = kind && a.owner = owner && decide (bytes ≤ a.bytes)

/-- Least bytes of a view's transpose space (20 R396). -/
def transposeBytes (p : Plan) (v : ViewE) : Nat :=
  let f := fsOf p v.source
  12 * v.n * (ceilDiv ((v.n / 2 + 75000) * f.1) (1500000000 * max v.hop 1 * f.2) + 1)

def viewFails (s : State) (b : Fin 2) (p : Plan) (i : Nat) : List Fail :=
  let v := p.view i
  let len := if v.symmetric then v.n / 2 + 1 else v.n
  if !v.present then []
  else
    need (sourceOk p v.source &&
      decide (6 ≤ v.log2n ∧ v.log2n ≤ 22 ∧ (17 ≤ v.log2n → v.symmetric = true) ∧ v.caldera ≤ 2) &&
      (v.caldera = 0 || (p.planeOf (v.caldera - 1)).present)) 0x02 i 0x00 0 ++
    need (decide (v.hop % 64 = 0 ∧ v.n ≤ 16 * v.hop ∧ v.hop ≤ v.n)) 0x02 i 0x04 0 ++
    need (decide (v.binFirst < v.n)) 0x02 i 0x08 0 ++
    need (decide (1 ≤ v.binCount ∧ v.binFirst + v.binCount ≤ v.n)) 0x02 i 0x0C 0 ++
    need (decide (v.windowBase + len ≤ 4194304)) 0x02 i 0x14 0 ++
    need (v.gainRef = 0xFFFFFFFF || tableFits p v.gainRef (2 * v.binCount)) 0x02 i 0x18 0 ++
    need (if v.caldera = 0 then v.colmapRef = 0xFFFFFFFF || tableFits p v.colmapRef (4 * v.binCount)
      else tableFits p v.colmapRef (4 * v.binCount) && mapRises (imageMap s b p v)) 0x02 i 0x1C 0 ++
    need (!v.fourStep || hasAlloc p 1 i (transposeBytes p v)) 0x02 i 0xFFFF 0

def zoomFails (p : Plan) (i : Nat) : List Fail :=
  let z := p.zoom i
  if !z.present then []
  else
    need ((p.stream z.source).run && decide (1 ≤ z.sections ∧ z.sections ≤ 5 ∧ z.zshift ≤ 80)) 0x05 i 0x00 0 ++
    need (decide (2 ≤ z.d ∧ z.d ≤ 65536)) 0x05 i 0x10 0 ++
    z.m.zipIdx.flatMap fun m => need (!sectionBad z.sections z.d m.2 m.1) 0x05 i (0x14 + 4 * m.2) 0

/-- The most spectra of a view in a Pool period (06 R119). -/
def poolSpectra (s : State) (p : Plan) (v : ViewE) (e : PoolE) : Nat :=
  let f := fsOf p v.source
  ceilDiv (qNum * f.1 * e.period * s.params.epochPeriod) (10000 * f.2 * max v.hop 1 * 10 ^ 6) + 1

/-- A binary32 word at or above 0, with -0 as 0; none for a negative number or NaN. -/
def floatAtLeast0 (w : Nat) : Option Nat :=
  if w = 0x80000000 then some 0 else if w ≤ 0x7F800000 then some w else none

/-- 0 ≤ SK_LOW < SK_HIGH (06 R125). -/
def skOk (e : PoolE) : Bool :=
  match floatAtLeast0 e.skLow, floatAtLeast0 e.skHigh with
  | some a, some b => decide (a < b)
  | _, _ => false

def poolFails (s : State) (p : Plan) (i : Nat) : List Fail :=
  let e := p.poolOf i
  let v := p.view i
  let spilled := v.binCount - e.frontBins
  if !e.present then []
  else
    need (v.present && decide (e.exp ≤ 46 ∧ poolSpectra s p v e ≤ 65536)) 0x06 i 0x00 0 ++
    need (decide (e.threshBase + v.binCount ≤ 4194304)) 0x06 i 0x08 0 ++
    need (skOk e) 0x06 i 0x0C 0 ++
    need (spilled = 0 || e.spill.any fun n =>
      let a := p.allocs.getD n default
      a.kind = 2 && a.owner = i && decide (16 * spilled ≤ a.bytes)) 0x06 i 0x14 0

/-- The front bins and the bins of all Pool views (06 R119). -/
def poolTotals (p : Plan) : List Fail :=
  let on := (List.range 64).filter fun i => (p.poolOf i).present
  need (decide ((on.map fun i => (p.poolOf i).frontBins).sum ≤ 2097152 ∧ (on.map fun i => (p.view i).binCount).sum ≤ 4194304))
    0x06 0xFFFF 0xFFFF 0

/-! Masks and regions. -/

def maskFails (p : Plan) (i : Nat) : List Fail :=
  let m := p.mask i
  let v := p.view (i / 4)
  let n := m.binHi + 1 - m.binLo
  if m.kind = 0 then []
  else
    need (decide (m.kind ≤ 4) && v.present && v.geyser && (m.kind ≠ 4 || (p.poolOf (i / 4)).present)) 0x08 i 0x00 0 ++
    need (decide (m.binLo ≤ m.binHi)) 0x08 i 0x04 0 ++
    need (decide (m.binHi < v.binCount)) 0x08 i 0x08 0 ++
    need (decide (1 ≤ m.minBins ∧ m.minBins ≤ n)) 0x08 i 0x0C 0 ++
    need (m.kind ≠ 1 || decide (1 ≤ m.minRun ∧ m.minRun ≤ m.minBins)) 0x08 i 0x10 0 ++
    need (m.kind ≠ 1 || decide (m.table + n ≤ 1048576)) 0x08 i 0x18 0

def regionFails (p : Plan) (i : Nat) : List Fail :=
  let r := p.region i
  if !r.present then []
  else need (decide (r.colFirst ≤ r.colLast)) 0x0A i 0x04 0 ++ need (decide (r.rowFirst ≤ r.rowLast)) 0x0A i 0x08 0

/-! Event lines: at most one producer each (01 R16). -/

/-- The lines that a sequencer drives, each with the offset of the word that names it (20 R395). -/
def seqLineWords (p : Plan) (q : Nat) : List (Nat × Nat) :=
  let g := p.seqOf q
  if !g.present then []
  else (if g.forerunner then g.provHe.toList.map fun l => (0x00C, l) else []) ++
    ((g.instrs.zipIdx.filter fun w => iOp w.1 = 6 && bit 9 w.1).map fun w => (0x080 + 8 * w.2, bits 16 10 w.1))

def seqLines (p : Plan) (q : Nat) : List Nat := (seqLineWords p q).map (·.2)

/-- The lines that a channel drives: those of its SIGNAL descriptors and the doorbell lines of its ARCHIVE moves, each
with the offset of the word that names it (20 R395, 13 R256). -/
def dmaLineWords (p : Plan) (c : Nat) : List (Nat × Nat) :=
  let d := p.dmaOf c
  if d.present then
    (d.descs.zipIdx.filter fun x => dOp x.1 = 4 || (dMove x.1 && dDstSpace x.1 = 9)).map fun x => (0x40 + 32 * x.2, dLine x.1)
  else []

def dmaLines (p : Plan) (c : Nat) : List Nat := (dmaLineWords p c).map (·.2)

/-- The producers before an entry have none of some lines. -/
def linesFree (earlier : List (List Nat)) (mine : List Nat) : Bool := mine.all fun l => earlier.all fun e => !e.contains l

/-- The words of an entry whose lines an earlier producer has (19 R381 check 6). -/
def lineFails (sect entry : Nat) (earlier : List (List Nat)) (mine : List (Nat × Nat)) : List Fail :=
  mine.flatMap fun w => need (linesFree earlier [w.2]) sect entry w.1 6

def seqLineFails (p : Plan) (q : Nat) : List Fail := lineFails 0x0B q ((List.range q).map (seqLines p)) (seqLineWords p q)

/-! Planes. -/

/-- Bytes of a frame (10 R197). -/
def frameSize (e : CalderaE) : Nat :=
  let ten := frameTen e.format
  let rows := if frame422 e.format then e.frameH else e.frameH / 2
  chromaOffset e.frameW e.frameH ten + rows * (if ten then e.frameW * 5 / 4 else e.frameW)

/-- A range lies within an allocation of a kind and owner. -/
def inAlloc (p : Plan) (kind owner base bytes : Nat) : Bool :=
  p.allocs.any fun a => a.kind = kind && a.owner = owner && decide (a.base ≤ base ∧ base + bytes ≤ a.base + a.bytes)

def apart (a la b lb : Nat) : Bool := decide (a + la ≤ b ∨ b + lb ≤ a)

/-- Two targets name an output both. -/
def sameTarget (a b : Nat) : Bool := a ≠ 0 && b ≠ 0 && (a = b || a = 3 || b = 3)

def planeFails (s : State) (b : Fin 2) (p : Plan) (i : Nat) : List Fail :=
  let e := p.planeOf i
  let w := if frameTen e.format then 256 else 64
  let shown := e.target ≠ 0
  let tick := decide (1 ≤ e.tickN ∧ e.tickN ≤ 1200)
  if !e.present then []
  else
    need (decide (e.decayMode ≤ 2 ∧ e.target ≤ 3) &&
      (List.range i).all fun j => !((p.planeOf j).present && sameTarget (p.planeOf j).target e.target)) 0x0C i 0x00 0 ++
    need (decide (1 ≤ e.rowGain ∧ e.rowGain ≤ 262143)) 0x0C i 0x08 0 ++
    need tick 0x0C i 0x0C 0 ++
    need (decide (1 ≤ e.tickM ∧ e.tickM ≤ 100000 ∧ (e.tickN = 1 ∨ e.tickM = 1) ∧
      e.tickN * 10 ^ 6 ≤ 120 * e.tickM * s.params.epochPeriod)) 0x0C i 0x10 0 ++
    need (decide (e.frameW ≤ 7680 ∧ e.frameW % w = 0 ∧ e.frameH % 2 = 0 ∧ 64 ≤ e.frameH ∧
      e.frameH ≤ 2160)) 0x0C i 0x14 0 ++
    need (tableFits p e.colourRef 2048 && (imageTable s b p e.colourRef 512).all colourOk) 0x0C i 0x18 0 ++
    need (tableFits p e.xMapRef (4 * e.frameW) && mapRises (imageTable s b p e.xMapRef e.frameW)) 0x0C i 0x1C 0 ++
    need (tableFits p e.yMapRef (4 * e.frameH) && mapFalls (imageTable s b p e.yMapRef e.frameH)) 0x0C i 0x20 0 ++
    eachOf 4 fun n =>
      let a := e.bufs.getD n 0
      let others := p.allocs.filter fun x => !(x.kind = 3 && x.owner = i)
      need (decide (a % 4096 = 0) && (!shown || inAlloc p 3 i a (frameSize e)) &&
        (others.all fun x => apart a (frameSize e) x.base x.bytes) &&
        (List.range n).all fun m => apart a (frameSize e) (e.bufs.getD m 0) (frameSize e)) 0x0C i (0x28 + 8 * n) 0

/-! Rings (09 R169). -/

def BasinE.bytes (e : BasinE) : Nat := (64 + e.ringTiles) * 4096

/-- Two rings overlap in a window. -/
def ringsMeet (a b : BasinE) : Bool := a.port = b.port && !apart a.base a.bytes b.base b.bytes

/-- A ring that the ACTIVE bank has alike. -/
def ringKept (p q : Plan) (i : Nat) : Bool :=
  (q.ringOf i).present && p.ringOf i = q.ringOf i && (p.stream i).packed = (q.stream i).packed

/-- The plan of the ACTIVE bank. -/
def activePlan (s : State) : Plan := ((activeBank s).map (planIn s)).getD default

def ringFails (s : State) (p : Plan) (i : Nat) : List Fail :=
  let e := p.ringOf i
  let port := downPort s (cxlPort e.port)
  let q := activePlan s
  if !e.present then []
  else
    need ((p.stream i).run && cxlMode port.mode.val && decide (e.envK = 0 ∨ (4 ≤ e.envK ∧ e.envK ≤ 24))) 0x0D i 0x00 0 ++
    need (decide (e.base % 4096 = 0 ∧ e.base + e.bytes ≤ windowOf port)) 0x0D i 0x08 0 ++
    need (decide (1024 ≤ e.ringTiles ∧ e.ringTiles ≤ 134217664)) 0x0D i 0x10 0 ++
    need (decide (e.pre + e.post ≤ (e.ringTiles - 128) * tileSamples (p.stream i).packed)) 0x0D i 0x18 0 ++
    need (decide (1 ≤ e.post)) 0x0D i 0x20 0 ++
    need (((List.range i).all fun j => !((p.ringOf j).present && ringsMeet e (p.ringOf j))) &&
      (ringKept p q i || q.rings.all fun r => !ringsMeet e r.2)) 0x0D i 0x08 5

/-! DMA (13 R255 to R257, R264, R266). -/

/-- A range of a port's window overlaps a ring of the plan. -/
def planRing (p : Plan) (port a len : Nat) : Bool :=
  p.rings.any fun r => r.2.port = port && decide (a < r.2.base + r.2.bytes ∧ r.2.base < a + len)

/-- The near addresses of a move lie in the channel's staging allocations (20 R396). -/
def nearOk (p : Plan) (c d : Nat) : Bool :=
  !dMove d || ((dSrcSpace d ≠ 1 || inAlloc p 4 c (dSrc d) (dLength d)) && (dDstSpace d ≠ 1 || inAlloc p 4 c (dDst d) (dLength d)))

/-- The word of a descriptor that breaks a rule (20 R398): its first word, LENGTH, SRC_ADDR, DST_ADDR or the last. -/
def descWord (p : Plan) (e : DmaE) (size c d : Nat) : Nat :=
  let tile := (dOp d = 2 && (dSrcSpace d = 1 || dSrcSpace d = 6 || dSrcSpace d = 7)) || dSrcSpace d = 8 ||
    (decide (2 ≤ dSrcSpace d ∧ dSrcSpace d ≤ 5) && planRing p (dSrcSpace d - 2) (dSrc d) (dLength d))
  let near := fun space a => space ≠ 1 || (decide (planRegion ≤ a ∧ a + dLength d ≤ size) && inAlloc p 4 c a (dLength d))
  if 5 < dOp d then 0x00
  else if !dMove d then 0x18
  else if !(spacePair (dSrcSpace d) (dDstSpace d) && (!touchesNear d || decide (0 < e.nearBytes)) &&
      ((srcPort p d).all fun q => decide (0 < e.cxlBytes.getD q 0)) &&
      !(e.provSafe && dDstSpace d = 9) && (dDstSpace d ≠ 10 || decide (dDest d < 8))) then 0x00
  else if dLength d % (if tile then 4096 else 64) ≠ 0 then 0x04
  else if dSrc d % (if tile && dSrcSpace d ≠ 8 then 4096 else 64) ≠ 0 ∨ near (dSrcSpace d) (dSrc d) = false then 0x08
  else if dDst d % 64 ≠ 0 ∨ near (dDstSpace d) (dDst d) = false then 0x10
  else 0x18

/-- `count` is the descriptor count as the entry holds it. -/
def dmaFails (s : State) (p : Plan) (count : Nat) (c : Nat) : List Fail :=
  let e := p.dmaOf c
  if !e.present then []
  else
    need (if e.host then count = 0 else decide (1 ≤ count ∧ count ≤ 256)) 0x0E c 0x00 0 ++
    need (decide (e.nearBytes < 2 ^ 48)) 0x0E c 0x08 0 ++
    (eachOf 4 fun q => need (decide (e.cxlBytes.getD q 0 < 2 ^ 48)) 0x0E c (0x10 + 8 * q) 0) ++
    (e.descs.zipIdx.flatMap fun d =>
      need (descOkFor p e (nearSize s) d.1 && !misaligned (planRing p) d.1 && nearOk p c d.1) 0x0E c
        (0x40 + 32 * d.2 + descWord p e (nearSize s) c d.1) 0) ++
    need (decide ((waitLines e.descs).length ≤ 16)) 0x0E c 0xFFFF 0 ++
    lineFails 0x0E c ((List.range 16).map (seqLines p) ++ (List.range c).map (dmaLines p)) (dmaLineWords p c)

/-! DEVICE. -/

/-- The plan declares a read load on a port (12 R238). -/
def readsPort (p : Plan) (q : Nat) : Bool :=
  (p.rings.any fun r => r.2.port = q && decide (0 < r.2.readRate)) || p.dmas.any fun d => decide (0 < d.cxlBytes.getD q 0)

def deviceFails (p : Plan) : List Fail :=
  let d := p.device
  let made := (List.range 16).map (seqLines p) ++ (List.range 32).map (dmaLines p)
  let mark := d.markLine.toList
  let ventA := (d.ventDone.getD 0 none).toList
  let ventB := (d.ventDone.getD 1 none).toList
  need (decide (2 ≤ d.fabricLatencyUs ∧ d.fabricLatencyUs ≤ 10000000)) 0x0F 0 0x00 0 ++
  (eachOf 4 fun q =>
    let n := d.readCredits.getD q 0
    need (decide (n ≤ 1024) && (!readsPort p q || decide (64 ≤ n))) 0x0F 0 (0x10 + 4 * (q / 2)) 0) ++
  (eachOf 16 fun c => need (ringMask p (d.channelStreams.getD c 0)) 0x0F 0 (0x20 + 4 * (c / 2)) 0) ++
  need (linesFree made mark) 0x0F 0 0x04 6 ++
  need (linesFree (mark :: made) ventA && linesFree (ventA :: mark :: made) ventB) 0x0F 0 0x08 6

/-! Routes (11 R224). -/

def padded (n : Nat) : Nat := (n + 7) / 8 * 8

/-- The bins of a view's largest segment (11 R214). -/
def segmentBins (v : ViewE) : Nat := if v.segBins = 0 then v.binCount else min v.segBins v.binCount

/-- The largest record of a type on a view (11 R216, R217). -/
def recordSize (v : ViewE) (type : Nat) : Nat :=
  let n := segmentBins v
  match type with
  | 1 => 56 + (if bit 0 v.formats then padded (6 * n) else 0) + (if bit 1 v.formats then padded (4 * n) else 0) +
      (if bit 2 v.formats then padded (2 * n) else 0)
  | 2 => 72 + 16 * n
  | 3 => 72 + padded (4 * n)
  | _ => 0

/-- The views of which a route takes records. -/
def routeViews (p : Plan) (t : RouteE) : List ViewE :=
  (p.viewsOf.filter fun v =>
    (t.type = 1 || (p.poolOf v.1).present) &&
      (match t.selKind with
       | 0 => true
       | 1 => t.selector = v.1
       | 2 => (viewStream p v.2).val = t.selector
       | _ => false)).map (·.2)

/-- The space of a path at verification; a UDP destination that is not enabled takes any record (11 R224). -/
def spaceOf (s : State) (i : Fin 25) (size : Nat) : Bool :=
  decide (size ≤ pathSpace i s) || (decide (16 ≤ i.val ∧ i.val < 24) && (unit 8 (i.val - 16)).any fun d => !(vget s.records.udp d).enabled)

def routeFails (s : State) (p : Plan) (i : Nat) : List Fail :=
  let t := p.routes.getD i default
  let mask := fabPaths s p t.type t.mask
  let carries := fun size => (List.finRange 25).all fun x => !bit x.val mask || spaceOf s x size
  need (t.relay || !decide (1 ≤ t.type ∧ t.type ≤ 3) || (routeViews p t).all fun v => carries (recordSize v t.type))
    0x10 i 0x04 0 ++
  need (if t.type = 1 then decide (1 ≤ t.every) else t.every = 0) 0x10 i 0x08 0

/-! The epoch schedule (20 R399, R400). -/

/-- Bytes of an entry of a schedule's target memory. -/
def SchedE.width (e : SchedE) : Nat := if e.pairs then 4 else 2
/-- Bytes from one variant to the next. -/
def SchedE.pitch (e : SchedE) : Nat := ceilDiv (e.count * e.width) 64 * 64

/-- The ranges of a target memory that slots or Pool views reference, each with its view. -/
def schedRefs (p : Plan) (pairs : Bool) : List (ViewE × Nat × Nat) :=
  if pairs then
    ((List.range 256).filter fun i => (p.mask i).kind = 1).map fun i =>
      (p.view (i / 4), (p.mask i).table, (p.mask i).binHi + 1 - (p.mask i).binLo)
  else
    ((List.range 64).filter fun i => (p.poolOf i).present).map fun i => (p.view i, (p.poolOf i).threshBase, (p.view i).binCount)

def schedFails (s : State) (p : Plan) (raw i : Nat) : List Fail :=
  let e := p.sched.getD i default
  let room := if e.pairs then 1048576 else 4194304
  let refs := schedRefs p e.pairs
  let inside := fun r : ViewE × Nat × Nat => decide (e.base ≤ r.2.1 ∧ r.2.1 + r.2.2 ≤ e.base + e.count)
  let meets := fun r : ViewE × Nat × Nat => !apart r.2.1 r.2.2 e.base (3 * e.count)
  need (decide (bits 1 0 raw ≤ 1)) 0x11 i 0x00 0 ++
  need (decide (1 ≤ e.cycle)) 0x11 i 0x04 0 ++
  need (decide (e.base + 3 * e.count ≤ room) &&
    ((List.range i).all fun j =>
      let f := p.sched.getD j default
      f.pairs ≠ e.pairs || apart f.base (3 * f.count) e.base (3 * e.count)) &&
    (refs.all fun r => !meets r || (inside r && decide (slotSec s p r.1 ≤ periodSec s)))) 0x11 i 0x08 0 ++
  need (decide (64 * e.sourceRef + (e.cycle - 1) * e.pitch + e.count * e.width ≤ (arraySection p.dir 0x14).2)) 0x11 i 0x10 0

/-! Allocations (12 R246; what exceeds the part is refused, 00 R2). -/

def allocFails (s : State) (p : Plan) (i : Nat) : List Fail :=
  let a := p.allocs.getD i default
  let meets := fun x : AllocE => !apart a.base a.bytes x.base x.bytes
  let held := ((List.finRange 2).filter fun b => (s.bank b).state = .active || (s.bank b).state = .draining).flatMap fun b =>
    (planIn s b).allocs
  need (decide (1 ≤ a.kind ∧ a.kind ≤ 4)) 0x12 i 0x00 0 ++
  need (decide (a.base % 4096 = 0 ∧ planRegion ≤ a.base ∧ a.base + a.bytes ≤ p.nearEnd)) 0x12 i 0x08 0 ++
  need (((p.allocs.take i).all fun x => !meets x) && held.all fun x => x = a || !meets x) 0x12 i 0x08 5

/-! All of it, in the order of R405. -/

/-- The refusals of structure and field limits: tile 0, then section by section. -/
def structureFails (s : State) (b : Fin 2) (p : Plan) : List Fail :=
  let raw := sectionEntries s b p.dir
  missingFails p.dir 0x01 ++ eachOf p.streams.length (streamFails p) ++
  missingFails p.dir 0x02 ++ eachOf p.views.length (viewFails s b p) ++
  eachOf p.terrace.length (zoomFails p) ++
  eachOf p.pool.length (poolFails s p) ++ poolTotals p ++
  eachOf p.masks.length (maskFails p) ++
  eachOf p.regions.length (regionFails p) ++
  eachOf p.geyser.length (fun q => seqFails s p q ++ seqLineFails p q) ++
  eachOf p.caldera.length (planeFails s b p) ++
  eachOf p.basin.length (ringFails s p) ++
  eachOf p.dma.length (fun c => dmaFails s p (bits 12 4 ((raw 0x0E).getD c 0)) c) ++
  missingFails p.dir 0x0F ++ (if (sectionIn p.dir 0x0F).isSome then deviceFails p else []) ++
  eachOf p.routes.length (routeFails s p) ++
  eachOf p.sched.length (fun i => schedFails s p ((raw 0x11).getD i 0) i) ++
  eachOf p.allocs.length (allocFails s p) ++
  missingFails p.dir 0x13

/-- The first check of an image that fails, in the order of R405; the sections are read only where tile 0 is in order. -/
def firstFail (s : State) (b : Fin 2) : Option Fail :=
  let h := parseHeader s b
  let dir := parseDir s b
  match versionFails h dir ++ signatureFails s b h ++ tileZeroFails h dir with
  | f :: _ => some f
  | [] => (structureFails s b (parsePlan s b)).head?

end Sys2Proof.Machine
end

