-- ==== Sys2Proof/Machine/Plan.lean ====
section
/-! DEFINITION. The plan commands: PLAN_LOAD, PLAN_VERIFY, PLAN_COMMIT, PLAN_QUERY (03 R38 to R58; 19 R380 to R382; 20 R397 to
R405). -/

namespace Sys2Proof.Machine

/-- The domain of plans (18 R361). -/
def cd0 : Option (Fin 16) := some 0

/-- The bank holds no image (03 R38); its own copies of the tables keep what was copied last. -/
def Bank.clear (k : Bank) (loading : Bool) : Bank := { k with state := .empty, loading := loading, gen := 0, plan := default }

/-! PLAN_LOAD (20 R404). -/

/-- What BASIN_RECOVER restored for a bank is given up when another image comes into it; a recovery that still runs goes on to
its end (09 R183). -/
def dropRecovery (b : Fin 2) (s : State) : State :=
  if s.basin.recover = some b then
    let s := { s with basin := { s.basin with recover := none } }
    if s.plans.recovering then s
    else (List.finRange 16).foldl (fun s i =>
      s.modBasin i fun x => if x.state = .off then { x with ring := RingRt.reset } else x) s
  else s

/-- The host port whose memory a command names: for a tunnelled one that of the outer command (16 R333, 19 R382). -/
def Source.hostPort : Source → PortId
  | .slot p _ => p
  | .tunnel o _ => o.tunnelIndex

/-- PLAN_LOAD: the checks before the read, and the bank EMPTY while it is read (20 R404 steps 1 and 2). -/
def execPlanLoad (s : State) : Host.Outcome State Fault Refusal :=
  .next <| serve (fixedSpec 0x0201 cd0 [whole 1, whole 8, whole 4])
    (fun c s =>
      let n := c.u 16 4
      if c.u 8 8 % 64 ≠ 0 then (s, refuse .badAlign 8)
      else match unit 2 (c.u 0 1) with
        | none => (s, bad 0)
        | some b =>
          let k := s.bank b
          if k.state = .active ∨ k.state = .pending then (s, refuse .refusedState 0)
          else if k.state = .draining ∨ k.loading = true then (s, refuse .busyRunning 0)
          else if n < 8192 ∨ 2 ^ 28 < n ∨ n % 4096 ≠ 0 then (s, bad 16)
          else ((dropRecovery b s).modBank b fun k => k.clear true, .wait (.planLoad b c.source.hostPort (c.u 8 8) n))) s

/-- The 8-byte report of a failed check (19 R381). -/
def Fail.bytes (f : Fail) : List Byte := toLe 2 f.sect ++ toLe 2 f.entry ++ toLe 2 f.fld ++ toLe 2 f.check

def badImage (f : Fail) : Reply := { status := .badParam, detail := 0xFFFF, payload := f.bytes }

/-- The first header field that step 4 of R404 refuses. -/
def headerBad (s : State) (h : PlanHeader) (bytes : Nat) : Option Nat :=
  if h.tiles < 2 ∨ h.tiles * 4096 ≠ bytes then some 0x008
  else if h.crcTiles ≠ crcTilesFor h.tiles then some 0x00C
  else if h.sections < 1 ∨ 112 < h.sections then some 0x00C
  else if (if s.dev.is128 then 0x2000000000 else 0x1000000000) < h.nearEnd then some 0x020
  else none

def failReply (st : Status) : Reply := { status := st, detail := 0, payload := [] }

/-- A port has received what it reads of a bank (12 R250). -/
def bankRead (port : Nat) (b : Fin 2) (s : State) : State := nearTaken port (bankBase b) 0x10000000 s

/-- An image has been read into a bank: steps 3 to 6 of R404. -/
def checkImage (b : Fin 2) (bytes : Nat) (s : State) : State × Reply :=
  let h := parseHeader s b
  let gone := s.modBank b fun k => k.clear false
  if imageLe s b 0 4 ≠ 0xADE71640 ∨ headerCrcOk s b = false then (gone, failReply .crcFail)
  else match headerBad s h bytes with
    | some f => (gone, badImage { sect := 0, entry := 0xFFFF, fld := f, check := 0 })
    | none =>
      if tileCrcsOk s b = false then (gone, failReply .crcFail)
      else
        (s.modBank b fun k => { k.clear false with state := .loaded, plan := { (default : Plan) with planId := h.planId } },
         { status := .ok, detail := 0, payload := toLe 4 h.planId })

/-- The bytes that a load has read: those of the host, or what has come through the tunnel; none while the tunnel still
carries them. -/
def loadedBytes (s : State) (d : Deferred) (port : PortId) (bytes : Nat) (image : List Byte) : Option (List Byte) :=
  match d.cmd.source with
  | .slot .. => some image
  | .tunnel _ tag =>
    match s.fabric.tunnelData.find? (·.1 = (port.val, tag)) with
    | some e => if bytes ≤ e.2.length then some e.2 else none
    | none => none

/-- The load that is due, with what it waits for. -/
def planWait (s : State) : Option (Deferred × Fin 2 × PortId × Nat) :=
  s.host.deferred.findSome? fun d => match d.wait with
    | .planLoad b p _ n => some (d, b, p, n)
    | _ => none

/-- The load ends: with a failed read, or with the bytes that have come. -/
def endLoad (bs : Option (List Byte)) (s : State) : State :=
  finish (fun w => match w with | .planLoad .. => true | _ => false)
    (fun d s => match d.wait, bs with
      | .planLoad b _ _ n, some bs =>
        let r := checkImage b n (nearPut (bankBase b) (padTo n bs) s)
        (bankRead 6 b r.1, r.2)
      | .planLoad b .., none => (s.modBank b fun k => k.clear false, failReply .timeout)
      | _, _ => (s, failReply .timeout)) s

/-- PLAN_LOAD_DONE (19 R382, 20 R404): the host read ends, with the image or without one. -/
def execPlanLoadDone (image : Option (List Byte)) (s : State) : Host.Outcome State Fault Refusal :=
  .next <|
    if !firmware s then s
    else match planWait s with
      | none => s
      | some (d, _, p, n) =>
        match image with
        | none => endLoad none s
        | some bs =>
          match loadedBytes s d p n bs with
          | some bs => endLoad (some bs) s
          | none => s

/-! PLAN_VERIFY (20 R405). -/

/-- A resource is over its ceiling, or a ring's credits fall short (01 R15, 03 R56, R57). -/
def overCeiling (p : Plan) (r : Resource) : Bool :=
  decide (r.ceiling < r.load) || (decide (0x18 ≤ r.code) && cxlCreditShort p (r.code - 0x18))

/-- A sum that passes differs from the proof by more than 1 unit in 10^6 (03 R58). -/
def proofDiffers (p : Plan) (r : Resource × Nat) : Bool :=
  let proof := (p.proof.getD r.2 (0, 0)).1
  let diff := max r.1.load proof - min r.1.load proof
  !overCeiling p r.1 && decide (r.1.load < diff * 10 ^ 6)

def codeMask (l : List Resource) : Nat := (l.map fun r => 2 ^ r.code).sum

/-- The 288-byte response (19 R381). -/
def verifyBytes (s : State) (p : Plan) (rs : List Resource) : List Byte :=
  toLe 4 (codeMask (rs.filter (overCeiling p))) ++ toLe 4 (codeMask ((rs.zipIdx.filter (proofDiffers p)).map (·.1))) ++
  toLe 4 (laneWorst p).1 ++ toLe 4 s.plans.gen.toNat ++ rs.flatMap fun r => toLe 8 r.load ++ toLe 8 r.ceiling

/-- One variant of a schedule entry is written into one of its copies (20 R399); `near` gives bytes of near memory. -/
def fillCopy (near : Nat → Nat → List Byte) (copy variant : Nat) (k : Bank) (e : SchedE) : Bank :=
  let bs := near (k.fetchBase + 64 * e.sourceRef + variant * e.pitch) (e.count * e.width)
  let at_ := (e.base + copy * e.count) * e.width
  if e.pairs then { k with pairs := memWrite k.pairs at_ bs } else { k with thresholds := memWrite k.thresholds at_ bs }

/-- Width and rate of every sub-link (12 R240). -/
def linksNow (s : State) : List (Nat × Nat) :=
  (List.finRange 4).flatMap fun p => (List.finRange 4).map fun n =>
    let d := downPort s p
    (vget d.subWidth n, vget d.subRate n)

/-- A bank passes: its tables are copied, and copy 0 of each schedule entry is filled (20 R397, R399). -/
def verifiedBank (s : State) (b : Fin 2) (p : Plan) (k : Bank) : Bank :=
  let array := fun (t w : Nat) (m : Memory) => let a := arraySection p.dir t; memWrite m 0 (imageBytes s b a.1 (a.2 * w))
  let k :=
    { k with
      state := .verified, gen := s.plans.gen, plan := p, coeffs := array 0x03 4 k.coeffs, pairs := array 0x09 4 k.pairs
      thresholds := array 0x07 2 k.thresholds, tables := array 0x04 1 k.tables
      fetchBase := bankBase b + (arraySection p.dir 0x14).1, links := linksNow s }
  p.sched.foldl (fillCopy (nearBytes s 6) 0 0) k

/-- A failure leaves the bank LOADED (20 R405). -/
def backToLoaded (k : Bank) : Bank := { k with state := .loaded, gen := 0 }

/-- The verification of a bank: checks, sums, copy. -/
def verifyBank (b : Fin 2) (s : State) : State × Verdict :=
  match firstFail s b with
  | some f => (s.modBank b backToLoaded, .reply (badImage f))
  | none =>
    let p := parsePlan s b
    let rs := planResources s p (imageMap s b p)
    let payload := verifyBytes s p rs
    match rs.find? (overCeiling p) with
    | some r => (s.modBank b backToLoaded, .reply { status := .budgetExceeded, detail := r.code, payload := payload })
    | none => (s.modBank b (verifiedBank s b p), ok payload)

def execPlanVerify (s : State) : Host.Outcome State Fault Refusal :=
  .next <| serve (fixedSpec 0x0202 cd0 [whole 1])
    (fun c s => match unit 2 (c.u 0 1) with
      | none => (s, bad 0)
      | some b =>
        if (s.bank b).state = .loaded ∨ (s.bank b).state = .verified then
          let r := verifyBank b s
          (bankRead 6 b r.1, r.2)
        else (s, refuse .refusedState 0)) s

/-! PLAN_COMMIT (03 R40, R41, R51 to R53). -/

/-- RECORDED and EFFECTIVE_EPOCH. -/
def commitBytes (recorded effective : Nat) : List Byte := timeBytes recorded ++ toLe 4 0 ++ toLe 8 effective

/-- A cancel, judged at its decision. -/
def cancelCommit (b : Fin 2) (recorded : Nat) (s : State) : State × Verdict :=
  match s.plans.flip with
  | some (_, x) =>
    if x ≠ b ∨ s.plans.locked = true then (s, refuse .refusedState 0)
    else
      let s := s.modBank b fun k => if k.gen = s.plans.gen then { k with state := .verified } else backToLoaded k
      ({ s with plans := { s.plans with flip := none } }, ok (commitBytes recorded Config.noEpoch))
  | none => (s, refuse .refusedState 0)

/-- The flip register is written; it locks at once when the window of its boundary has closed by now (03 R41). -/
def writeFlip (b : Fin 2) (k : Nat) (s : State) : State :=
  let s := s.modBank b fun x => { x with state := .pending }
  { s with plans := { s.plans with flip := some (k, b), locked := decide (boundaryTime s k < now s + Config.msUnits) } }

/-- A commit for boundary `k`. -/
def commitBank (b : Fin 2) (k recorded : Nat) (s : State) : State × Verdict :=
  if s.plans.flip.isSome ∨ (s.bank b).state ≠ .verified ∨ (s.plans.recovering = true ∧ s.basin.recover = some b) then
    (s, refuse .refusedState 0)
  else if s.plans.epoch.any fun e => decide (k ≤ e) then (s, bad 8)
  else if boundaryTime s k < recorded + Config.msUnits then
    let e := k + commitPeriod s
    (postEvent 0x8002 0 0 b.val e (timeNs recorded) (writeFlip b e s),
     .reply { status := .planLate, detail := 0, payload := commitBytes recorded e })
  else (writeFlip b k s, ok (commitBytes recorded k))

def execPlanCommit (s : State) : Host.Outcome State Fault Refusal :=
  .next <| serve (fixedSpec 0x0203 cd0 [whole 1, (1, 1), whole 8])
    (fun c s => match unit 2 (c.u 0 1) with
      | none => (s, bad 0)
      | some b => if bit 0 (c.u 1 1) then cancelCommit b c.recorded s else commitBank b (c.u 8 8) c.recorded s) s

/-! PLAN_QUERY (19 R380). -/

def BankState.code : BankState → Nat
  | .empty => 0
  | .loaded => 1
  | .verified => 2
  | .pending => 3
  | .active => 4
  | .draining => 5

/-- The generation that PLAN_QUERY gives for a bank. -/
def Bank.genShown (k : Bank) : Nat := if k.state = .verified ∨ k.state = .pending then k.gen.toNat else 0

/-- The 40 bytes of PLAN_QUERY. -/
def queryBytes (s : State) : List Byte :=
  let a := s.bank 0
  let b := s.bank 1
  toLe 4 (a.state.code + atBit 3 a.loading + b.state.code * 2 ^ 4 + atBit 7 b.loading + atBit 8 s.plans.flip.isSome +
    atBit 9 (s.plans.flip.isSome && s.plans.locked) + atBit 10 s.plans.recovering) ++
  toLe 4 s.plans.gen.toNat ++ toLe 4 a.plan.planId ++ toLe 4 b.plan.planId ++ toLe 8 s.plans.activeSince ++
  toLe 8 ((s.plans.flip.map (·.1)).getD Config.noEpoch) ++ toLe 4 a.genShown ++ toLe 4 b.genShown

def execPlanQuery (s : State) : Host.Outcome State Fault Refusal :=
  .next <| serve { fixedSpec 0x0204 none [] with boot := fun _ => true } (fun _ s => (s, ok (queryBytes s))) s

end Sys2Proof.Machine
end

