-- ==== Sys2Proof/Machine/Epoch.lean ====
section
/-! DEFINITION. The epoch generator: boundary times and indices, time-to-sample fits, flips, and the drain of a retired bank (01
R23, 02 R26, 03 R39 to R50, 20 R399). -/

namespace Sys2Proof.Machine

/-! The time-to-sample fit (03 R46, R47). -/

/-- A free value of 128 bits (log entry 1: DESIGN CHOICE). -/
def freshWide (s : State) : Nat × State :=
  let (a, s) := fresh s
  let (b, s) := fresh s
  (a.toNat + 2 ^ 64 * b.toNat, s)

/-- The distance of a header's compensated stamp from a fit, times the fit's rate: exact, in 2^-16 ns x 2^-32 samples
per second. -/
def fitError (f : Fit) (p : Nat × Nat) : Nat :=
  (((p.2 : Int) * 2 ^ 32 - f.i0) * Config.secUnits - ((p.1 : Int) - f.t0) * f.rate).natAbs

/-- A fit rises and lies within 4 ns of every stamp (03 R47). -/
def fitMeets (f : Fit) (points : List (Nat × Nat)) : Bool :=
  decide (0 < f.rate) && points.all fun p => decide (fitError f p ≤ 4 * Config.nsUnits * f.rate)

/-- The residual of a fit over the last 256 headers in ps, rounded up (log entry 56: DESIGN CHOICE). -/
def residualPs (f : Fit) (points : List (Nat × Nat)) : Nat :=
  ceilDiv (points.foldl (fun m p => max m (fitError f p)) 0 * 1000) (max 1 (Config.nsUnits * f.rate))

/-- A line through the stamps of a slope `dt / dx`, with the range of `t x dx - x x dt` over them. -/
structure FitLine where
  dx : Nat
  dt : Nat
  lo : Int
  hi : Int
  deriving DecidableEq, Repr

/-- The lines whose slopes two of the points give. -/
def fitLines (points : List (Nat × Nat)) : List FitLine :=
  points.flatMap fun p => (points.filter fun q => decide (p.1 < q.1 ∧ p.2 < q.2)).map fun q =>
    let dx : Nat := q.2 - p.2
    let dt : Nat := q.1 - p.1
    let v := fun r : Nat × Nat => (r.1 : Int) * dx - (r.2 : Int) * dt
    { dx := dx, dt := dt, lo := points.foldl (fun m r => min m (v r)) (v p), hi := points.foldl (fun m r => max m (v r)) (v p) }

/-- The line of the smallest spread: among all lines, some slope that two points give has it. -/
def bestLine : List FitLine → Option FitLine
  | [] => none
  | l :: t =>
    match bestLine t with
    | some m => some (if (l.hi - l.lo) * m.dx ≤ (m.hi - m.lo) * l.dx then l else m)
    | none => some l

/-- The fit in the middle of a line's spread, at a reference time. -/
def FitLine.fit (l : FitLine) (t0 : Nat) : Fit :=
  { i0 := (2 * (t0 : Int) * l.dx - (l.lo + l.hi)) * 2 ^ 32 / (2 * l.dt : Nat)
    rate := l.dx * 2 ^ 32 * Config.secUnits / l.dt, t0 := t0 }

/-- The best available fit: the line whose largest distance from a stamp is least, which meets the bound of 4 ns if any
line does (03 R47, log entry 56: DESIGN CHOICE). -/
def bestFit (points : List (Nat × Nat)) : Option Fit :=
  (bestLine (fitLines points)).map fun l => l.fit ((points.headD (0, 0)).1)

/-- The fit that the firmware finds: a line that meets the bound of 4 ns, which one is open (log entry 1: DESIGN CHOICE);
where the drawn line does not meet it, the best available one. -/
def refreshed (free : Fit) (points : List (Nat × Nat)) : Option Fit :=
  if fitMeets free points then some free else bestFit points

/-- FIT_REFRESH (03 R47): a residual above 4 ns shows from the next boundary on. -/
def execFitRefresh (stream : Fin 16) (s : State) : Host.Outcome State Fault Refusal :=
  .next <|
    let b := s.bound stream
    if !firmware s then s
    else
      let (i0, s') := freshWide s
      let (rate, s') := freshWide s'
      let (t0, s') := freshWide s'
      match refreshed { i0 := i0, rate := rate, t0 := t0 } b.points with
      | none => s
      | some f =>
        let degraded := !fitMeets f b.points
        let s := s'.modBound stream fun b => { b with fit := some f, fitBad := degraded }
        if degraded && !b.fitBad then raiseFault 0x0206 1 stream.val (residualPs f b.points) 0 (some stream) s else s

/-- The boundary that comes next. -/
def comingEpoch (s : State) : Nat :=
  match s.plans.epoch with
  | some k => k + 1
  | none => 0

/-- The boundary index that the epoch generator holds for a boundary. -/
def writtenIndex (b : Boundary) (k : Nat) : Option Nat := (b.next.find? fun e => e.1 = k).map (·.2)

/-- The boundary whose index the firmware writes next: the coming one, or, once its index is written, the one after it,
so that every index is known one epoch ahead (03 R46, log entry 56: DESIGN CHOICE). -/
def writeTarget (s : State) (b : Boundary) : Nat :=
  if (writtenIndex b (comingEpoch s)).isSome then comingEpoch s + 1 else comingEpoch s

/-- BOUNDARY_INDEX_WRITE (03 R46): B_k = ceil(i(t_k)). In the TCLK cycle of t_k and later the epoch generator discards it
(01 R23). -/
def execBoundaryIndexWrite (stream : Fin 16) (s : State) : Host.Outcome State Fault Refusal :=
  .next <|
    let b := s.bound stream
    let k := writeTarget s b
    match b.fit with
    | some f =>
      if firmware s && decide (now s < boundaryTime s k) then
        s.modBound stream fun b =>
          { b with next := b.next.filter (fun e => e.1 ≠ k) ++ [(k, fitIndex f (boundaryTime s k))] }
      else s
    | none => s

/-! The boundary. -/

/-- The boundary that station time has reached and that has not been taken (03 R43): while banks are in use none is skipped or
repeated (03 R45). -/
def boundaryDue (s : State) : Option Nat :=
  match epochAt s (now s) with
  | none => none
  | some k =>
    match s.plans.epoch with
    | none => some (if anyBankBusy s then 0 else k)
    | some e => if k = e then none else if anyBankBusy s then (if e < k then some (e + 1) else none) else some k

/-- The placed boundary index of an epoch. -/
def placedAt (b : Boundary) (k : Nat) : Option Nat := (b.hist.find? fun r => r.placed && r.k = k).map (·.start)

/-- Samples of an epoch at a declared rate. -/
def epochSamples (s : State) (declared : Nat) : Nat := ceilDiv (declared * s.params.epochPeriod) (10 ^ 6)

/-- Boundary `k` of a stream is placed, or awaits a header (01 R23). A written value is used; a boundary without one is
placed from the first on after the stream has begun to deliver. -/
def placeBoundary (k : Nat) (s : State) (i : Fin 16) : State :=
  let b := s.bound i
  let b' := { b with next := b.next.filter fun e => decide (k < e.1) }
  let put := fun (x : Nat) (e : Bool) =>
    { b' with hist := { k := k, placed := true, start := x, extrapolated := e, rateMismatch := b.rateBad,
                        fitDegraded := b.fitBad } :: b.hist }
  let declared := ((planNow s).stream i.val).declared
  let begun := (s.stream i).last.isSome || (s.stream i).delivering
  s.modBound i fun _ =>
    match writtenIndex b k, (if 1 ≤ k then placedAt b (k - 1) else none), (if 2 ≤ k then placedAt b (k - 2) else none) with
    | some x, _, _ => put x false
    | none, some x1, some x2 => put (x1 + (x1 - x2)) true
    | none, some x1, none => put (x1 + epochSamples s declared) true
    | none, none, _ =>
      if begun then
        let t := boundaryTime s k + vget s.params.streamOffset i * Config.nsUnits / 1000
        { b' with await := b.await ++ [{ k := k, time := t, rateMismatch := b.rateBad, fitDegraded := b.fitBad }] }
      else b'

/-- The comparison of a stream's measured rate with the declared one (02 R26). -/
def compareRate (s : State) (i : Fin 16) : State :=
  let b := s.bound i
  let e := (planNow s).stream i.val
  match b.fit with
  | none => s
  | some f =>
    if !e.run then s
    else
      let d := e.declared * 2 ^ 32
      let off := decide (200 * d < (max f.rate d - min f.rate d) * 10 ^ 6)
      let s := s.modBound i fun b => { b with rateBad := off }
      if off && !b.rateBad then raiseFault 0x0205 1 i.val (f.rate / 2 ^ 32) e.declared (some i) s else s

/-- A flip of boundary `k` begins at a stream: at its index as that arrives, or now where no index is to come (03 R50 step 5). -/
def flipStream (k : Nat) (old : Option (Fin 2)) (new : Fin 2) (s : State) (i : Fin 16) : State :=
  let was := old.any fun o => ((planIn s o).stream i.val).run
  if !was && !((planIn s new).stream i.val).run then s
  else if (s.stream i).delivering then s.modBound i fun b => { b with flipAt := some (k, new) }
  else flipSource i new ((boundaryIndex s i k).getD (s.stream i).avail) s

/-- The flip register's flip takes place at boundary `k` (03 R41, R50). -/
def takeFlip (k : Nat) (s : State) : State :=
  match s.plans.flip with
  | none => s
  | some (target, new) =>
    if k < target then s
    else
      let old := bankNow s
      let s := { s with plans := { s.plans with
        flips := (k, new) :: s.plans.flips, flipping := some (new, old), flip := none, locked := false } }
      let s := s.modBank new fun b => { b with k0 := k }
      let s := (List.finRange 16).foldl (flipStream k old new) s
      let s := (List.finRange 16).foldl (seqFlip k new) s
      let s := poolFlip k new (maskFlip old s)
      calderaFlip old new (dmaFlip old new s)

/-- Plan fetch of an epoch (20 R399): the next variant of each schedule entry goes into the next copy. -/
def planFetch (k : Nat) (s : State) : State :=
  match bankNow s with
  | none => s
  | some b =>
    let near := nearBytes s 3
    bankRead 3 b <| s.modBank b fun x =>
      let j := k + 1 - x.k0
      x.plan.sched.foldl (fun x e => fillCopy near (j % 3) (j % max e.cycle 1) x e) x

/-- A parameter that waits for an epoch boundary takes effect (19 R386). -/
def boundaryParams (k : Nat) (s : State) : State :=
  match s.params.intervalPending with
  | some (v, e) =>
    if e ≤ k then
      { s with params := { s.params with recordInterval := v, intervalPending := none }
               time := { s.time with lastRecord := boundaryTime s k } }
    else s
  | none => s

/-- What the ended epoch leaves: missed ticks, and the array's figures (10 R192, 05 R87). -/
def endEpoch (s : State) : State :=
  let s := closeTicks s
  let p := s.plains
  { s with plains := { p with lastPeak := p.peakBusy, lastWait := p.maxWait, peakBusy := (busyPipes s).length, maxWait := 0 } }

/-- The epoch index becomes `k`; INVALID_CLOCK goes on while a PLL is unlocked (03 R50 step 3, 21 R419). -/
def enterEpoch (k : Nat) (s : State) : State :=
  let s := { s with plans := { s.plans with epoch := some k } }
  if locked s 0 && locked s 2 && locked s 3 then s else markInvalid s

/-- The epoch-mark pulse, to the plan's line, to the sequencers and to the fabric (03 R50 step 3, 07 R136). -/
def epochMark (k : Nat) (s : State) : State :=
  fabricBoundary k (condEvent 304 (boundaryTime s k) none (pulseOpt (planNow s).device.markLine s))

/-- Boundary `k` (03 R50). -/
def boundary (k : Nat) (s : State) : State :=
  let s := enterEpoch k (endEpoch s)
  let s := (List.finRange 16).foldl (placeBoundary k) s
  let s := takeFlip k s
  let s := if firmware s then (List.finRange 16).foldl compareRate s else s
  let s := epochMark k s
  boundaryParams k (planFetch k (dmaBoundary (startSchedule k s)))

/-- EPOCH_BOUNDARY (03 R43, R50). -/
def execEpochBoundary (s : State) : Host.Outcome State Fault Refusal :=
  .next <|
    match boundaryDue s with
    | some k => if engines s then boundary k s else s
    | none => s

/-- COMMIT_WINDOW_CLOSE (03 R41, R50 step 1; 15 R309): 1 ms before a boundary its flip register locks, and the window of its
phase-step schedule closes. -/
def execCommitWindowClose (s : State) : Host.Outcome State Fault Refusal :=
  .next <|
    let shut := fun k : Nat => decide (boundaryTime s k ≤ now s + Config.msUnits)
    let s := if s.plans.flip.any fun f => shut f.1 then { s with plans := { s.plans with locked := true } } else s
    if s.evt.pending.any fun f => shut f.epoch then { s with evt := { s.evt with closed := true } } else s

/-! After a flip. -/

/-- The flip has reached every source (03 R50). -/
def flipComplete (s : State) : Bool := (List.finRange 16).all fun i => (s.bound i).flipAt.isNone

/-- PLAN_FLIP (03 R50 step 6). -/
def execPlanFlip (s : State) : Host.Outcome State Fault Refusal :=
  .next <|
    match s.plans.flipping with
    | none => s
    | some (new, old) =>
      if !firmware s || !flipComplete s then s
      else
        let s := match old with
          | some o => if o = new then s else s.modBank o fun b => { b with state := .draining }
          | none => s
        let k := (s.bank new).k0
        let s := s.modBank new fun b => { b with state := .active, gen := 0 }
        let s := { s with plans := { s.plans with flipping := none, activeSince := k } }
        postEvent 0x8001 0 0 new.val k ((old.map (·.val)).getD Config.noEpoch) s

/-- Work of a bank at a view: transforms to start, and spectra that a consumer has not taken (03 R39). -/
def viewWork (b : Fin 2) (v : ViewRt) : Bool :=
  v.scans.any (fun c => c.bank = b) || (v.maskQ ++ v.poolQ ++ v.calQ ++ v.recQ).any fun x => x.bank = b

/-- Integration periods of a bank that are not dumped. -/
def poolWork (b : Fin 2) (p : PoolRt) : Bool := p.period.any (fun q => q.bank = b) || p.closed.any fun q => q.1.bank = b

/-- Events of the retired plan's epochs and provisional FIREs still to be decided. -/
def seqWork (b : Fin 2) (r : Seq) : Bool := r.bank = some b || r.prov.any fun p => p.bank = b

/-- Work still uses a bank. -/
def bankWork (s : State) (b : Fin 2) : Bool :=
  s.plains.ready.any (fun x => x.bank = b) || (busyPipes s).any (fun x => x.bank = b) ||
    s.plains.views.any (viewWork b) || s.pool.any (poolWork b) || s.geyser.seqs.any (seqWork b)

/-- BANK_DRAIN_DONE (03 R38, R39). -/
def execBankDrainDone (bank : Fin 2) (s : State) : Host.Outcome State Fault Refusal :=
  .next <|
    if (s.bank bank).state = .draining ∧ firmware s = true ∧ bankWork s bank = false then s.modBank bank backToLoaded else s

end Sys2Proof.Machine
end

