-- ==== Sys2Proof/Machine/Timing.lean ====
section
/-! DEFINITION. Station time: PTP domains, source selection, PPS_IN, steps and slews, the transparent clock, time starts
(14). -/

namespace Sys2Proof.Machine

def cd11 : Option (Fin 16) := some 11

def PortState.code : PortState → Nat
  | .initializing => 1
  | .faulty => 2
  | .disabled => 3
  | .listening => 4
  | .preMaster => 5
  | .master => 6
  | .passive => 7
  | .uncalibrated => 8
  | .slave => 9

/-! Time starts. -/

/-- The next firing time of a time start (14 R290). -/
def TimeStart.next (t : TimeStart) : Nat := t.start + t.fired * t.period

/-- A start of a Vent is on its way: the crossing of the start pulses holds 7, and a further one merges (01 R18). -/
def sendVentStart (v : Fin 2) (k : Fin 3) (s : State) : State :=
  if vget (vget s.vent.units v).starts k < 7 then s.modVent v fun x => { x with starts := vmod x.starts k (· + 1) }
  else { s with down := { s.down with rowMerges := vmod s.down.rowMerges 4 fun x => satAdd x 1 } }

/-- What a firing does (14 R290). -/
def startEffect (t : TimeStart) (s : State) : State :=
  if t.target = 1 then sendVentStart 0 0 s
  else if t.target = 2 then sendVentStart 1 0 s
  else gateFco t.mask.toNat (t.target = 3) s

def modStart (i : Fin 8) (f : TimeStart → TimeStart) (s : State) : State :=
  { s with time := { s.time with starts := vmod s.time.starts i f } }

/-- One firing: a periodic start's next firing is the first period point after `t`; another is spent (14 R288, R290). -/
def fireStart (t : Nat) (i : Fin 8) (s : State) : State :=
  let x := vget s.time.starts i
  let s := modStart i (fun x =>
    if x.period = 0 then { x with armed := false, fired := x.fired + 1 }
    else { x with fired := max (x.fired + 1) ((t - x.start) / x.period + 1) }) s
  startEffect x s

/-- TIME_START_FIRE (14 R290): the first TCLK cycle at or after the firing time. -/
def execTimeStartFire (start : Fin 8) (s : State) : Host.Outcome State Fault Refusal :=
  .next <|
    let x := vget s.time.starts start
    if x.armed && decide (x.next ≤ now s) then
      let s' := modStart start (fun x =>
        if x.period = 0 then { x with armed := false, fired := x.fired + 1 } else { x with fired := x.fired + 1 }) s
      startEffect x s'
    else s

/-- A time kept to measure an interval, after a step of station time by `d`. -/
def shifted (d : Int) (t : Nat) : Nat := ((t : Int) + d).toNat

/-- The end of a wait that was started `n` before, after a step. -/
def Wait.shifted (d : Int) : Wait → Wait
  | .captureRead i id p a j due => .captureRead i id p a j (Machine.shifted d due)
  | .portMode p due => .portMode p (Machine.shifted d due)
  | .tunnel p t g due => .tunnel p t g (Machine.shifted d due)
  | w => w

/-- A step moves no interval that the part is measuring: hold-offs, retries, timeouts and the age of what was last received
go on as long as they were to (log entry 13: DEDUCED). The offsets of the domains and the stamps of exchanges under way follow
station time. -/
def shiftTimers (d : Int) (s : State) : State :=
  let f := shifted d
  let host := { s.host with deferred := s.host.deferred.map fun w => { w with wait := w.wait.shifted d } }
  { s with
    host := host
    ports := s.ports.map fun h => { h with lastV0 := h.lastV0.map f }
    lanes := { s.lanes with streams := s.lanes.streams.map fun t => { t with retryAt := t.retryAt.map f } }
    records := { s.records with
      rings := s.records.rings.map fun r => { r with lastMsg := r.lastMsg.map f }
      udp := s.records.udp.map fun u => { u with placedAt := f u.placedAt } }
    down := { s.down with
      ports := s.down.ports.map fun p =>
        { p with upAt := p.upAt.map f, perstAt := p.perstAt.map f, requests := p.requests.map fun r => { r with issued := f r.issued } } }
    dev := { s.dev with
      expiries := s.dev.expiries.map f
      plls := s.dev.plls.map fun p => if p.locked then p else { p with since := f p.since } }
    time := { s.time with
      lastPps := s.time.lastPps.map f
      lastRecord := f s.time.lastRecord
      domains := s.time.domains.map fun x =>
        { x with
          okSince := f x.okSince, lastSync := f x.lastSync, lastAnnounce := f x.lastAnnounce
          foreign := x.foreign.map fun m => { m with seen := m.seen.map f }
          offset := x.offset + d, t2 := x.t2 + d
          syncWait := x.syncWait.map fun w => { w with rx := w.rx + d }
          delayReq := x.delayReq.map fun q => (q.1, q.2 + d) } } }

/-- A step of station time to `t`: STEP_SEEN, a time-status record, and the starts that a forward step passes fire once
(14 R287, R288). The epoch index follows station time. -/
def stepTime (t : Nat) (s : State) : State :=
  let passed := (List.finRange 8).filter fun i =>
    (vget s.time.starts i).armed && decide ((vget s.time.starts i).next ≤ t)
  let s := shiftTimers ((t : Int) - now s) s
  let s := { s with time := { s.time with raw := t * 2 ^ 24, slew := none, slewing := false, slewFresh := false, valid := true } }
  let s := { s with plans := { s.plans with epoch := epochAt s t } }
  let s := match epochAt s t with
    | some k => startSchedule k s
    | none => s
  timeRecord (passed.foldl (fun s i => fireStart t i s) (raiseTime 5 s))

/-- PPS_OK changes (14 R286, R291). -/
def setPps (b : Bool) (s : State) : State :=
  if s.time.ppsOk = b then s else select (timeRecord { s with time := { s.time with ppsOk := b } })

/-- REVERT_HOLD_EXPIRY (14 R283 step 5). -/
def execRevertHoldExpiry (s : State) : Host.Outcome State Fault Refusal :=
  .next <| if s.time.source = .domainB ∧ (s.domain 0).ok = true then select s else s

/-! PTP. -/

/-- An interval of 2^log seconds. -/
def logInterval (l : Int) : Nat := if 0 ≤ l then Config.secUnits * 2 ^ l.toNat else Config.secUnits / 2 ^ (-l).toNat

/-- A latency of a port in 2^-16 ns. -/
def psUnits (ps : Nat) : Int := ((ps * 65536 + 500) / 1000 : Nat)

/-- The stamp of a message that comes in at the ball of a port at a time, and of one that goes out (14 R277; log entry 67: DEDUCED:
DEDUCED, E_TX_LATENCY is subtracted as E_RX_LATENCY is). -/
def rxStamp (s : State) (port : Fin 2) (t : Nat) : Int := (t : Int) - psUnits (vget s.params.rxLatency port)
def txStamp (s : State) (port : Fin 2) (t : Nat) : Int := (t : Int) - psUnits (vget s.params.txLatency port)

/-- The offset of a domain against station time corrected by the A-B offset (14 R281, R282). -/
def corrected (s : State) (d : Fin 2) : Int :=
  if d = 0 then (s.domain 0).offset else (s.domain 1).offset - s.time.abOffset

/-- Whether a domain's grandmaster may hold it OK: not degraded (14 R281). -/
def goodMaster (s : State) (d : Fin 2) : Bool :=
  (s.domain d).gm.any fun g => decide (g.clockClass ≤ s.params.classMax) && g.timeTraceable

/-- The station time that domain A implies less the one that domain B implies (14 R282). -/
def rawAB (s : State) : Int := (s.domain 1).offset - (s.domain 0).offset

/-- The firmware measures the A-B offset while both domains are in SLAVE state: the filter takes up part of the way to the
difference, by the time since it last did (14 R282). -/
def measureAB (s : State) : State :=
  if firmware s && (s.domain 0).portState = .slave && (s.domain 1).portState = .slave then
    let w := min (Config.filterWeight (linkClock s - s.time.abAt.getD (linkClock s))) (2 ^ 32)
    { s with time := { s.time with
      abAt := some (linkClock s)
      abOffset := s.time.abOffset + (rawAB s - s.time.abOffset) * w / 2 ^ 32 } }
  else { s with time := { s.time with abAt := none } }

/-- The servo of the governing domain: a PI loop whose gains the manual does not give, so the requested frequency is
free; it is held within ±500 ppm (14 R276, R281, log entry 1: DESIGN CHOICE). -/
def servo (d : Fin 2) (s : State) : State :=
  let (v, s) := fresh s
  let f := v.toInt
  if f < -freqLimit ∨ freqLimit < f then
    let lim := if f < 0 then -freqLimit else freqLimit
    setOk d false (raiseTime 6 { s with time := { s.time with freqAdj := lim } })
  else { s with time := { s.time with freqAdj := f } }

/-- Starts slewing out an offset; the residual of a change of source counts as such until it is within LOCK_THRESHOLD
(14 R284). -/
def startSlew (off : Int) (s : State) : State :=
  let r := off * 2 ^ 24
  let far := decide (lockRaw s < r.natAbs)
  { s with time := { s.time with slew := some r, slewing := far, slewFresh := s.time.slewFresh && far } }

/-- A source that governs steps station time to its own: no bank is in use, the offset is above STEP_THRESHOLD (14 R287), and
it is not the residual of a change, which is slewed (14 R284; log entry 67: DEDUCED). -/
def mayStep (off : Int) (s : State) : Bool :=
  !anyBankBusy s && decide (s.params.stepThreshold * Config.nsUnits < off.natAbs) && !s.time.slewFresh

/-- A domain may come to govern: the source order or a force allows it, and its grandmaster may hold it OK (14 R281,
R283). -/
def mayGovern (s : State) (d : Fin 2) : Bool :=
  (decide (s.time.order ≤ 1) || decide (s.time.force = if d = 0 then .domainA else .domainB)) && goodMaster s d

/-- What a completed Sync of a domain does to station time: first acquisition and large offsets step while no bank is in
use; a residual after a change of source, and any offset beyond LOCK_THRESHOLD, slews; the governing domain's servo
sets the frequency (14 R276, R281, R284, R287). -/
def discipline (d : Fin 2) (s : State) : State :=
  let off := corrected s d
  let own := governing s = some d
  if s.time.valid = false ∧ anyBankBusy s = false ∧ mayGovern s d = true then stepTime ((now s : Int) - off).toNat s
  else if !own then s
  else if mayStep off s then stepTime ((now s : Int) - off).toNat s
  else
    let s := if s.time.slewFresh || decide (s.params.lockThreshold * Config.nsUnits < off.natAbs) then startSlew off s
      else s
    servo d s

/-- Judges a domain after a Sync: 16 in a row below LOCK_THRESHOLD make it OK, beyond ten times the threshold it is not
(14 R281). -/
def judge (d : Fin 2) (s : State) : State :=
  let off := (corrected s d).natAbs
  let lim := s.params.lockThreshold * Config.nsUnits
  let s := s.modDomain d fun x => { x with good := if off < lim then x.good + 1 else 0 }
  let x := s.domain d
  if !x.ok then (if 16 ≤ x.good ∧ x.portState = .slave ∧ goodMaster s d = true then setOk d true s else s)
  else if 10 * lim < off ∨ goodMaster s d = false then setOk d false s
  else s

/-- A Sync is complete: t1 with its corrections, t2 (14 R281). A port that was UNCALIBRATED is a SLAVE (14 R279; log entry 67: DEDUCED:
DESIGN CHOICE). -/
def completeSync (d : Fin 2) (t1 t2 : Int) (s : State) : State :=
  let s := s.modDomain d fun x =>
    { x with t1 := some t1, t2 := t2, offset := t2 - t1 - x.meanPathDelay, syncWait := none, portState := .slave }
  judge d (discipline d (measureAB s))

/-- A domain takes event messages as slave: its port is up, and SLAVE or to become it. -/
def slaveUp (s : State) (d : Fin 2) : Bool :=
  engines s && domUp s d && ((s.domain d).portState = .slave || (s.domain d).portState = .uncalibrated)

/-- PTP_SYNC (14 R279, R281): `origin` in 2^-16 ns, `correction` as correctionField counts, `rx` the stamp at the ball.
A two-step Sync waits for its Follow_Up. -/
def execPtpSync (domain : Fin 2) (seq : Nat) (twoStep : Bool) (origin : Nat) (correction : Int) (rx : Nat) (s : State) :
    Host.Outcome State Fault Refusal :=
  .next <|
    if !slaveUp s domain then s
    else
      let t2 := rxStamp s (portOf s domain) rx
      let s := s.modDomain domain fun x => { x with lastSync := now s }
      if twoStep then s.modDomain domain fun x => { x with syncWait := some { seq := seq, rx := t2, corr := correction } }
      else completeSync domain ((origin : Int) + correction) t2 s

/-- FOLLOW_UP (14 R281). -/
def execFollowUp (domain : Fin 2) (seq : Nat) (origin : Nat) (correction : Int) (s : State) :
    Host.Outcome State Fault Refusal :=
  .next <|
    match (s.domain domain).syncWait with
    | none => s
    | some w =>
      if !slaveUp s domain || w.seq ≠ seq then s
      else completeSync domain ((origin : Int) + w.corr + correction) w.rx s

/-- DELAY_RESP (14 R281): the mean path delay of the exchange. -/
def execDelayResp (domain : Fin 2) (seq : Nat) (receive : Nat) (correction : Int) (s : State) :
    Host.Outcome State Fault Refusal :=
  .next <|
    match (s.domain domain).delayReq, (s.domain domain).t1 with
    | some (q, t3), some t1 =>
      if !slaveUp s domain || q ≠ seq then s
      else
        let t4 := (receive : Int) - correction
        s.modDomain domain fun x =>
          { x with meanPathDelay := ((x.t2 - t1) + (t4 - t3)) / 2, delayReq := none }
    | _, _ => s

/-- The clockClass that the device advertises (14 R280). -/
def ownClass (s : State) : Nat :=
  if s.time.source = .pps ∧ s.time.ppsOk = true then 6 else if s.time.holdover then 7 else 248

/-! The default BMCA of IEEE 1588-2019, of a clock with one port (14 R279; log entry 71: PRESUMED). -/

/-- The clockIdentity of a port, an EUI-64 made of its MAC address (14 R279). -/
def clockIdentity (port : Fin 2) : Nat :=
  let mac := Config.ethMac port.val % 2 ^ 48
  mac / 2 ^ 24 * 2 ^ 40 + 0xFFFE * 2 ^ 24 + mac % 2 ^ 24

/-- The port identity of a domain's instance: clockIdentity and port number 1. -/
def portIdentity (s : State) (d : Fin 2) : Nat := clockIdentity (portOf s d) * 2 ^ 16 + 1

/-- The device's own dataset in a domain (14 R279, R280); accuracy and variance as IEEE 1588-2019 has them for unknown. -/
def ownData (s : State) (d : Fin 2) : GmData :=
  { priority1 := (s.domain d).priority1, clockClass := ownClass s, accuracy := 0xFE, variance := 0xFFFF
    priority2 := (s.domain d).priority2, identity := clockIdentity (portOf s d), steps := 0, timeTraceable := false
    ptpTimescale := true, utcOffset := 0, utcValid := false }

/-- The first place in which two lists differ decides. -/
def lexLt : List Nat → List Nat → Bool
  | a :: s, b :: t => a < b || (a = b && lexLt s t)
  | _, _ => false

/-- One dataset with the port that sent it is better than another: of two grandmasters by the fields that the comparison takes in
turn, of two ways to the same one by the steps and the sender. -/
def betterThan (a b : GmData × Nat) : Bool :=
  if a.1.identity = b.1.identity then lexLt [a.1.steps, a.2] [b.1.steps, b.2]
  else
    let key := fun g : GmData => [g.priority1, g.clockClass, g.accuracy, g.variance, g.priority2, g.identity]
    lexLt (key a.1) (key b.1)

/-- A foreign master qualifies: two Announces within four announce intervals, and fewer than 255 steps. -/
def Foreign.qualified (m : Foreign) (at_ interval : Nat) : Bool :=
  decide (m.gm.steps < 255) && m.seen.length = 2 && m.seen.all fun t => decide (at_ ≤ t + 4 * interval)

/-- An Announce is noted with its sender; records too old to qualify again are dropped. -/
def noteForeign (d : Fin 2) (source : Nat) (gm : GmData) (s : State) : State :=
  s.modDomain d fun x =>
    let seen := ((x.foreign.find? (·.source = source)).map (·.seen)).getD []
    let old := x.foreign.filter fun m =>
      m.source ≠ source && m.seen.head?.any fun t => decide (now s ≤ t + 4 * logInterval x.logAnnounce)
    { x with foreign := { source := source, gm := gm, seen := (now s :: seen).take 2 } :: old }

/-- The best of the qualified foreign masters and of the parent. -/
def bestForeign (s : State) (d : Fin 2) : Option Foreign :=
  let x := s.domain d
  let able := x.foreign.filter fun m => x.parent = some m.source || m.qualified (now s) (logInterval x.logAnnounce)
  able.foldl (fun best m =>
    match best with
    | none => some m
    | some b => if betterThan (m.gm, m.source) (b.gm, b.source) then some m else some b) none

/-- A domain follows a master in a port state; a new master is a new exchange, and makes a slave UNCALIBRATED. -/
def follow (d : Fin 2) (m : Foreign) (passive : Bool) (s : State) : State :=
  let x := s.domain d
  let same := x.parent = some m.source
  let keeps := same && (x.portState = .slave || x.portState = .uncalibrated)
  let s := s.modDomain d fun x =>
    if same then { x with gm := some m.gm }
    else
      { x.forget with
        gm := some m.gm, parent := some m.source, foreign := x.foreign, lastAnnounce := now s }
  if passive then enterPortState d .passive s
  else if keeps then (if (s.domain d).ok && !goodMaster s d then markOk d false s else s)
  else enterPortState d .uncalibrated s

/-- The state decision of the default BMCA: an instance that may be master is, where its own dataset is better, or is PASSIVE,
where its clockClass is at most 127; a pre-master waits for no announce interval, so it is MASTER at once. -/
def decideState (d : Fin 2) (s : State) : State :=
  match bestForeign s d with
  | none => s
  | some m =>
    let own := ownData s d
    if (s.domain d).masterCapable && betterThan (own, portIdentity s d) (m.gm, m.source) then
      enterPortState d .master (s.modDomain d fun x => { x with gm := none, parent := none })
    else follow d m ((s.domain d).masterCapable && decide (own.clockClass ≤ 127)) s

/-- ANNOUNCE (14 R279, R281): the sender is noted, and the BMCA decides the port state. -/
def execAnnounce (domain : Fin 2) (m : AnnounceMsg) (s : State) : Host.Outcome State Fault Refusal :=
  .next <|
    let x := s.domain domain
    if !engines s || !domUp s domain || x.portState = .initializing || x.portState = .disabled ||
        m.source / 2 ^ 16 = clockIdentity (portOf s domain) || decide (255 ≤ m.gm.steps) then s
    else evaluate (fun d s =>
      if d ≠ domain then s
      else
        let s := noteForeign d m.source m.gm s
        let s := s.modDomain d fun x =>
          if x.parent = none ∨ x.parent = some m.source then { x with lastAnnounce := now s, lost := false } else x
        decideState d s) s

/-! Messages of the device. -/

/-- A message of a domain's own (14 R279, R280): its transport, its VLAN and its clockIdentity. -/
def ptpOf (s : State) (d : Fin 2) (kind seq time : Nat) (correction : Int) : PtpSent :=
  { kind := kind, domain := (s.domain d).number, transport := (s.domain d).transport, vlan := (s.domain d).vlan
    source := portIdentity s d, seq := seq, time := time, correction := correction, dataset := none, requester := none }

/-- DELAY_REQ (14 R280): a master answers with the receive stamp, the correctionField and the port identity of the request. -/
def execDelayReq (domain : Fin 2) (m : DelayReqMsg) (rx : Nat) (s : State) :
    Host.Outcome State Fault Refusal :=
  .next <|
    let p := portOf s domain
    if engines s && domUp s domain && (s.domain domain).portState = .master then
      emitOut (.ptp p.val { ptpOf s domain 9 m.seq (rxStamp s p rx).toNat m.correction with requester := some m.source }) s
    else s

/-- A port instance sends a message, if its state has it send that one: a master Sync with its transmit stamp, and Announce with its
dataset, a slave Delay_Req, whose transmit stamp is kept (14 R279 to R281). -/
def sendPtp (d : Fin 2) (kind : PtpKind) (s : State) : State :=
  let x := s.domain d
  let p := portOf s d
  let bump := fun s : State => s.modDomain d fun x => { x with txSeq := (x.txSeq + 1) % 65536 }
  match kind with
  | .sync => emitOut (.ptp p.val (ptpOf s d 0 x.txSeq (txStamp s p (now s)).toNat 0)) (bump s)
  | .announce => emitOut (.ptp p.val { ptpOf s d 11 x.txSeq 0 0 with dataset := some (ownData s d) }) (bump s)
  | .delayReq =>
    emitOut (.ptp p.val (ptpOf s d 1 x.txSeq 0 0))
      (bump (s.modDomain d fun y => { y with delayReq := some (x.txSeq, txStamp s p (now s)) }))

/-- The state of a port instance has it send a message (14 R280, R281). -/
def sendsPtp (s : State) (d : Fin 2) (kind : PtpKind) : Bool :=
  engines s && domUp s d && (match kind with
    | .delayReq => (s.domain d).portState = .slave || (s.domain d).portState = .uncalibrated
    | _ => (s.domain d).portState = .master)

/-- PTP_MESSAGE_SEND (14 R280, R281). -/
def execPtpMessageSend (domain : Fin 2) (kind : PtpKind) (s : State) : Host.Outcome State Fault Refusal :=
  .next <| if sendsPtp s domain kind then sendPtp domain kind s else s

/-- No Announce for three announce intervals (14 R281): the domain is lost; an instance that may be master then is, also where it
has heard none (14 R280). -/
def announceGone (d : Fin 2) (s : State) : State :=
  let x := s.domain d
  let waits := x.parent.isSome || (x.masterCapable && x.portState = .listening)
  if domUp s d && waits && decide (x.lastAnnounce + 3 * logInterval x.logAnnounce ≤ now s) then
    let gone := x.parent.isSome
    let s := s.modDomain d fun x =>
      { x with gm := none, parent := none, lost := x.lost || gone, foreign := x.foreign.filter fun m => x.parent ≠ some m.source }
    let s := if gone then raiseTime (if d = 0 then 1 else 2) s else s
    enterPortState d (if x.masterCapable then .master else .listening) s
  else s

/-- ANNOUNCE_TIMEOUT (14 R281); the other domain's, due as well, falls in the same evaluation (14 R283). -/
def execAnnounceTimeout (_ : Fin 2) (s : State) : Host.Outcome State Fault Refusal := .next <| evaluate announceGone s

/-- No Sync for three Sync intervals (14 R281): the domain stops being OK. -/
def syncGone (d : Fin 2) (s : State) : State :=
  let x := s.domain d
  if x.ok && decide (x.lastSync + 3 * logInterval x.logSync ≤ now s) then markOk d false s else s

/-- SYNC_TIMEOUT (14 R281); the other domain's, due as well, falls in the same evaluation (14 R283). -/
def execSyncTimeout (_ : Fin 2) (s : State) : Host.Outcome State Fault Refusal := .next <| evaluate syncGone s

/-- ETH_LINK_CHANGE (14 R278). -/
def execEthLinkChange (port : Fin 2) (up : Bool) (s : State) : Host.Outcome State Fault Refusal :=
  .next <|
    if up && !(engines s && locked s 6) then s
    else ethChange (· = port) up s

/-! The transparent clock. -/

/-- A UDP checksum after the words of a field have changed; none means no checksum. -/
def fixChecksum (c : Nat) (old new : List Byte) : Nat :=
  let x := inetChecksum (toBe 2 (0xFFFF - c % 2 ^ 16) ++ old.map (fun b => 0xFF - b) ++ new)
  if x = 0 then 0xFFFF else x

/-- A message with its residence time added: a Sync or a Delay_Req; over IPv4 its UDP checksum is 0, over IPv6 it follows the
field; another message is unchanged (14 R289). -/
def PtpFrame.aged (m : PtpFrame) (residence : Int) : PtpFrame :=
  if 1 < m.kind then m
  else
    let c := m.correction + residence
    let be := fun x : Int => (toLeInt 8 x).reverse
    { m with
      correction := c
      checksum := if m.transport = 1 then 0 else if m.transport = 2 then fixChecksum m.checksum (be m.correction) (be c)
        else m.checksum }

/-- How long an event message of a domain's own takes on the wire at 25 Gb/s (14 R278): 44 bytes with the headers of its
transport, at least a frame of 64 bytes, preamble and gap. -/
def ownWireTime (x : PtpDomain) : Nat :=
  let tag := if x.vlan = 0 then 0 else 4
  let frame := 44 + 18 + (if x.transport = 1 then 28 else if x.transport = 2 then 48 else 0)
  (max 64 frame + tag + 20) * 8 * Config.nsUnits / 25

/-- TC_FORWARD (14 R289): a message that came in at a port's ball at `rx` leaves on the other port, or is dropped. `way.own` is a Sync or
Delay_Req of the device that is due there in the same ECLK cycle: it is sent first, and the message waits. -/
def execTcForward (port : Fin 2) (m : PtpFrame) (rx : Nat) (way : TcWay) (s : State) :
    Host.Outcome State Fault Refusal :=
  .next <|
    let out : Fin 2 := if port = 0 then 1 else 0
    let first := way.own.filter fun o => o.2 ≠ .announce && portOf s o.1 = out && sendsPtp s o.1 o.2
    let wait := (first.map fun o => ownWireTime (s.domain o.1)).getD 0
    let s := match first with
      | some o => sendPtp o.1 o.2 s
      | none => s
    let residence := txStamp s out (now s + wait) - rxStamp s port rx
    if !engines s || !s.time.tcEnable || !vget s.time.ethUp port then s
    else if !vget s.time.ethUp out || way.full || decide (5 * Config.usUnits < residence) then
      { s with time := { s.time with tcDropped := satAdd s.time.tcDropped 1 } }
    else emitOut (.tcForward out.val (m.aged residence)) s

/-- PTP_MESSAGE_IGNORED (14 R279). -/
def execPtpMessageIgnored (port : Fin 2) (s : State) : Host.Outcome State Fault Refusal :=
  .next <|
    if engines s && vget s.time.ethUp port then
      { s with time := { s.time with ptpIgnored := vmod s.time.ptpIgnored port fun x => satAdd x 1 } }
    else s

/-! PPS_IN. -/

/-- How far an edge lies after the whole second it marks (14 R285), in 2^-16 ns. -/
def ppsError (s : State) : Int :=
  let x := (now s : Int) - s.params.ppsOffset * 65536 / 1000
  (x + (Config.secUnits / 2 : Nat)) % (Config.secUnits : Nat) - (Config.secUnits / 2 : Nat)

/-- The edge follows the last accepted one with none missing between them (14 R286). -/
def ppsFollows (s : State) : Bool := s.time.lastPps.any fun t => decide (now s < t + Config.secUnits * 3 / 2)

/-- Station time with its nanosecond field aligned to the edge, and its seconds unchanged (14 R286). -/
def ppsAligned (s : State) : Nat :=
  now s / Config.secUnits * Config.secUnits + (s.params.ppsOffset * 65536 / 1000 % (Config.secUnits : Nat)).toNat

/-- An accepted edge (14 R286, R287): the step of TIME_SET; the step that aligns the nanoseconds at the acquisition, while no PTP
domain governs (log entry 67: DEDUCED); or a correction of the phase while PPS_IN governs. -/
def ppsAccept (s : State) : State :=
  let err := ppsError s
  let run := if ppsFollows s then min 4 (s.time.ppsRun + 1) else 1
  let s := { s with time := { s.time with lastPps := some (now s), ppsMissing := 0, ppsRun := run } }
  match s.time.setAtPps with
  | some t =>
    let s := { s with time := { s.time with setAtPps := none } }
    if anyBankBusy s then s else stepTime t s
  | none =>
    let acquires := !s.time.ppsOk && decide (4 ≤ s.time.ppsRun)
    let s := if acquires then setPps true s else s
    if acquires && !anyBankBusy s && (governing s).isNone then
      if err = 0 then { s with time := { s.time with valid := true, slewFresh := false } } else stepTime (ppsAligned s) s
    else if s.time.source ≠ .pps then s
    else if mayStep err s then stepTime ((now s : Int) - err).toNat s
    else startSlew err s

/-- PPS_EDGE (14 R286): while PPS_OK, an edge more than 100 us from its second is rejected. -/
def execPpsEdge (s : State) : Host.Outcome State Fault Refusal :=
  .next <|
    if !engines s then s
    else if s.time.ppsOk && decide (100 * Config.usUnits < (ppsError s).natAbs) then
      raiseTime 4 { s with time := { s.time with ppsRejects := satAdd s.time.ppsRejects 1 } }
    else ppsAccept s

/-- PPS_MISSING (14 R286): two consecutive edges are missing. -/
def execPpsMissing (s : State) : Host.Outcome State Fault Refusal :=
  .next <|
    if s.time.ppsOk && s.time.lastPps.any (fun t => decide (t + 2 * Config.secUnits < now s)) then
      setPps false (raiseTime 3 { s with time := { s.time with ppsRun := 0, ppsMissing := 2 } })
    else s

/-- SLEW_END (14 R284, R291): the residual has reached 0. -/
def execSlewEnd (s : State) : Host.Outcome State Fault Refusal :=
  .next <|
    if s.time.slew = some 0 then timeRecord { s with time := { s.time with slew := none, slewing := false, slewFresh := false } }
    else s

/-- TIME_RECORD_INTERVAL (14 R291). -/
def execTimeRecordInterval (s : State) : Host.Outcome State Fault Refusal :=
  .next <|
    let due := s.time.lastRecord + s.params.recordInterval * (Config.secUnits / 10)
    if firmware s && engines s && decide (due ≤ now s) then timeRecord { s with time := { s.time with lastRecord := due } } else s

/-! Commands. -/

/-- The first field of PTP_CONFIG outside its range (14 R279, 19 R376). -/
def ptpBad (c : Cmd) (s : State) : Option Nat :=
  let rng := fun off lo hi => decide (c.int off 1 < lo ∨ hi < c.int off 1)
  let other : Fin 2 := if c.u 0 1 = 0 then 1 else 0
  if 1 < c.u 0 1 then some 0
  else if 239 < c.u 1 1 ∨ (s.domain other).number = c.u 1 1 then some 1
  else if 1 < c.u 2 1 then some 2
  else if 2 < c.u 3 1 then some 3
  else if rng 7 (-7) 1 then some 7
  else if rng 8 (-7) 1 then some 8
  else if rng 9 (-3) 3 then some 9
  else if 4094 < c.u 10 2 then some 10
  else none

/-- PTP_CONFIG (14 R292). -/
def execPtpConfig (s : State) : Host.Outcome State Fault Refusal :=
  .next <| serve (fixedSpec 0xA01 cd11 ([whole 1, whole 1, whole 1, whole 1, (1, 1)] ++ List.replicate 5 (whole 1) ++
      [whole 2])) (fun c s =>
    match ptpBad c s with
    | some o => (s, bad o)
    | none =>
      let d : Fin 2 := if c.u 0 1 = 0 then 0 else 1
      if governing s = some d then (s, refuse .busyRunning 0)
      else
        let s := s.modDomain d fun x =>
          { x with number := c.u 1 1, port := c.u 2 1, transport := c.u 3 1, masterCapable := bit 0 (c.u 4 1)
                   priority1 := c.u 5 1, priority2 := c.u 6 1, logSync := c.int 7 1, logDelayReq := c.int 8 1
                   logAnnounce := c.int 9 1, vlan := c.u 10 2 }
        (evaluate (fun e s => if e = d then restartDomain e s else s) s, ok [])) s

/-- TIME_SOURCE (14 R283, R292). -/
def execTimeSource (s : State) : Host.Outcome State Fault Refusal :=
  .next <| serve (fixedSpec 0xA02 cd11 [whole 1, (1, 1), whole 1, whole 4]) (fun c s =>
    if 3 < c.u 0 1 then (s, bad 0)
    else if 3 < c.u 2 1 then (s, bad 2)
    else if c.u 4 4 < 1 ∨ 3600 < c.u 4 4 then (s, bad 4)
    else
      let f := TimeSource.ofCode (c.u 2 1)
      if f ≠ .none ∧ okOf s f = false then (s, refuse .refusedState 0)
      else
        let s := { s with time := { s.time with
          order := c.u 0 1, revertive := bit 0 (c.u 1 1), force := f, revertHoldS := c.u 4 4 } }
        (select s, ok [])) s

/-- TIME_SET (14 R287, R292). -/
def execTimeSet (s : State) : Host.Outcome State Fault Refusal :=
  .next <| serve (fixedSpec 0xA03 cd11 [(1, 1), whole 12]) (fun c s =>
    if anyBankBusy s then (s, refuse .refusedState 0)
    else if c.badTime 4 then (s, bad 4)
    else if bit 0 (c.u 0 1) then
      if s.time.ppsOk then ({ s with time := { s.time with setAtPps := some (c.time 4) } }, ok (timeBytes (c.time 4)))
      else (s, refuse .notReady 0)
    else (stepTime (c.time 4) s, ok (timeBytes (c.time 4)))) s

/-- The first field of TIME_START outside R290. -/
def startBad (c : Cmd) : Option Nat :=
  if 7 < c.u 0 1 then some 0
  else if c.u 2 1 < 1 ∨ 4 < c.u 2 1 then some 2
  else if 3 ≤ c.u 2 1 ∧ c.u 3 1 = 0 then some 3
  else if 10000000 < c.u 4 4 then some 4
  else if c.badTime 8 ∨ c.time 8 < c.recorded + 10 * Config.usUnits then some 8
  else none

/-- TIME_START (14 R290, R292); a firing of the cycle in which CANCEL acts still occurs. -/
def execTimeStart (s : State) : Host.Outcome State Fault Refusal :=
  .next <| serve (fixedSpec 0xA04 cd11 [whole 1, (1, 1), whole 1, whole 1, whole 4, whole 12]) (fun c s =>
    match startBad c, unit 8 (c.u 0 1) with
    | some o, _ => (s, bad o)
    | none, none => (s, bad 0)
    | none, some i =>
      if bit 0 (c.u 1 1) then
        let x := vget s.time.starts i
        let s := if x.armed && decide (x.next ≤ now s) then fireStart (now s) i s else s
        (modStart i (fun x => { x with armed := false }) s, ok [])
      else if (vget s.time.starts i).armed then (s, refuse .busyRunning 0)
      else
        let t : TimeStart :=
          { armed := true, start := c.time 8, period := c.u 4 4 * Config.usUnits, target := c.u 2 1
            mask := BitVec.ofNat 8 (c.u 3 1), fired := 0 }
        (modStart i (fun _ => t) s, ok [])) s

/-- TC_CONFIG (14 R292). -/
def execTcConfig (s : State) : Host.Outcome State Fault Refusal :=
  .next <| serve (fixedSpec 0xA05 cd11 [(1, 1)]) (fun c s =>
    ({ s with time := { s.time with tcEnable := bit 0 (c.u 0 1) } }, ok [])) s

/-- FREQ_ADJ in units of 10^-12 (14 R293). -/
def freqPpt (s : State) : Int := freqInForce s * 10 ^ 12 / incNominal

/-- The 72 bytes of TIME_STATUS (14 R293). -/
def timeStatus (s : State) : List Byte :=
  let gm := (governing s).bind fun d => (s.domain d).gm
  word (s.time.source.code + atBit 2 s.time.valid + atBit 3 (s.domain 0).ok + atBit 4 (s.domain 1).ok +
      atBit 5 s.time.ppsOk + atBit 6 s.time.slewing + atBit 7 s.time.holdover + (s.domain 0).portState.code * 2 ^ 8 +
      (s.domain 1).portState.code * 2 ^ 12 + atBit 16 s.time.tcEnable + atBit 17 (gm.all (·.ptpTimescale)) +
      atBit 18 (gm.any (·.utcValid))) ++
    word s.time.flags.now.toNat ++ toLeInt 4 (freqPpt s) ++ toLe 2 ((gm.map (·.utcOffset)).getD 0) ++
    toLe 2 s.time.tcDropped.toNat ++ word s.time.switches.toNat ++ word s.time.ppsRejects.toNat ++
    toLe 8 (s.time.flags.occWord 0 7) ++ timeBody s

/-- TIME_STATUS (14 R293). -/
def execTimeStatus (s : State) : Host.Outcome State Fault Refusal :=
  .next <| serve (singleSpec 0xA06 11) (fun c s =>
    if bit 0 (c.u 0 1) = false ∧ c.u 4 4 ≠ 0 then (s, bad 4)
    else
      let rsp := timeStatus s
      if bit 0 (c.u 0 1) then
        ({ s with time := { s.time with
          flags := s.time.flags.statusClear (c.u 4 4), tcDropped := 0, switches := 0, ppsRejects := 0 } }, ok rsp)
      else (s, ok rsp)) s

end Sys2Proof.Machine
end

