-- ==== Sys2Proof/Machine/Housekeeping.lean ====
section
/-! DEFINITION. The housekeeping converters: starts, conversions, urgent requests, over-range, thermal check (17, 21
R423). -/

namespace Sys2Proof.Machine

def ventOf (s : State) (v : Fin 2) : Vent := vget s.vent.units v

/-- The entry in progress of a running sequence. -/
def runEntry (x : Vent) : Option HkEntry := x.run.bind fun r => r.entries[r.entry]?

/-- Vent A is in a JOINT entry that no urgent request holds up (17 R343, R345). -/
def inJoint (s : State) : Bool :=
  (ventOf s 0).urgent.isNone && (ventOf s 1).urgent.isNone && (runEntry (ventOf s 0)).any (·.joint)

/-- The input of a converter's next conversion, if it has one to make. -/
def nextInput (s : State) (v : Fin 2) : Option Nat :=
  let x := ventOf s v
  match x.urgent with
  | some (e, _) => some e.input
  | none =>
    if v = 1 ∧ inJoint s = true then some s.vent.plausInput
    else (runEntry x).map fun e => if e.joint then s.vent.plausInput else e.input

/-- The converter waits 192 HCLK: its next conversion is of another input than one that was over-range (17 R346). -/
def mustWait (s : State) (v : Fin 2) : Bool :=
  match (ventOf s v).ovrInput, nextInput s v with
  | some i, some j => i ≠ j
  | _, _ => false

def HkSum.zero : HkSum := { done := 0, sum := 0, ovr := false, recovering := false }

/-- A sequence is to begin. -/
def HkRun.begin (t : Nat) (l : List HkEntry) : HkRun :=
  { entries := l, entry := 0, sumA := HkSum.zero, sumB := HkSum.zero, outs := [], start := t, begun := false }

/-- The first conversion of a sequence begins sampling, and with it the sequence starts, unless an urgent request, a recovery or a
JOINT entry holds the converter (17 R342, R343, R345, R346). -/
def beginSampling (v : Fin 2) (s : State) : State :=
  let held := (ventOf s v).urgent.isSome || mustWait s v || (v = 1 && inJoint s)
  let t := now s
  s.modVent v fun x =>
    { x with run := x.run.map fun r => if !r.begun && !held then { r with start := t, begun := true } else r }

/-- A start reaches a converter: it begins the sequence, is latched, or is lost (17 R342). -/
def acceptStart (v : Fin 2) (s : State) : State :=
  let t := now s
  beginSampling v <| s.modVent v fun x =>
    if !x.enabled then x
    else if x.run.isNone then { x with run := some (HkRun.begin t x.entries) }
    else if !x.latched then { x with latched := true }
    else { x with trigLost := satAdd x.trigLost 1, flags := x.flags.raise 2 }

/-- VENT_START (17 R342). -/
def execVentStart (vent : Fin 2) (source : VentSource) (s : State) : Host.Outcome State Fault Refusal :=
  .next <|
    let k : Fin 3 := match source with | .timeStart => 0 | .line => 1 | .command => 2
    if !engines s || vget (ventOf s vent).starts k = 0 then s
    else acceptStart vent (s.modVent vent fun x => { x with starts := vmod x.starts k (· - 1) })

/-- A conversion's code and whether it was over-range, from the input in units of one code (17 R339, R346). -/
def convert (x : Int) : Nat × Bool := if x < 0 then (0, true) else if 16383 < x then (16383, true) else (x.toNat, false)

/-- VALUE of a sum (17 R340). -/
def hkValue (shift sum : Nat) : Nat := if shift = 0 then sum else (sum + 2 ^ (shift - 1)) / 2 ^ shift

/-- One conversion on a converter: its code enters the sum; over-range and RECOVERING are noted (17 R340, R346). -/
def convertOn (v : Fin 2) (input : Nat) (code : Int) (u : HkSum) (s : State) : HkSum × State :=
  let (val, o) := convert code
  let rec_ := decide (0 < (ventOf s v).marks)
  let s := s.modVent v fun x =>
    { x with marks := x.marks - 1, ovrInput := if o then some input else x.ovrInput
             flags := if o then x.flags.raise 0 else x.flags }
  ({ done := u.done + 1, sum := u.sum + val, ovr := u.ovr || o, recovering := u.recovering || rec_ }, s)

/-- The housekeeping record of a completed sequence (17 R347, 11 R222). -/
def hkRecord (s : State) (r : HkRun) : Record :=
  let ent := fun o : HkOut =>
    toLe 8 (o.value + o.input * 2 ^ 24 + atBit 29 o.ventB + atBit 30 o.ovr + atBit 31 o.recovering + atBit 32 o.plaus)
  mkRecord s 8 0 none none (epochNum (epochAt s r.start)) r.start (fwMark s)
    (toLe 8 r.outs.length ++ (r.outs.map ent).flatten)

/-- The sequence ends: its record is built, the completion line pulses, and a latched start begins the next (17 R342,
R347). -/
def endSequence (v : Fin 2) (r : HkRun) (s : State) : State :=
  let s := pulseOpt ((planNow s).device.ventDone.getD v.val none) (emit (hkRecord s r) s)
  let t := now s
  beginSampling v <| s.modVent v fun x =>
    { x with sequences := x.sequences + 1, latched := false
             run := if x.latched then some (HkRun.begin t x.entries) else none }

/-- After an entry: the next one, or the end of the sequence. -/
def nextEntry (v : Fin 2) (r : HkRun) (s : State) : State :=
  let r := { r with entry := r.entry + 1, sumA := HkSum.zero, sumB := HkSum.zero }
  if r.entries.length ≤ r.entry then endSequence v r s
  else s.modVent v fun x => { x with run := some r }

/-- A conversion of an ordinary entry. -/
def stepEntry (v : Fin 2) (r : HkRun) (e : HkEntry) (code : Int) (s : State) : State :=
  let (u, s) := convertOn v e.input code r.sumA s
  if u.done < 2 ^ e.avg then s.modVent v fun x => { x with run := some { r with sumA := u } }
  else
    let o : HkOut := { input := e.input, ventB := v = 1, ovr := u.ovr, recovering := u.recovering, plaus := false
                       value := hkValue e.shift u.sum }
    nextEntry v { r with outs := r.outs ++ [o] } s

/-- A paired conversion of a JOINT entry (17 R343). -/
def stepJoint (r : HkRun) (e : HkEntry) (code codeB : Int) (s : State) : State :=
  let p := s.vent.plausInput
  let (a, s) := convertOn 0 p code r.sumA s
  let (b, s) := convertOn 1 p codeB r.sumB s
  if a.done < 2 ^ e.avg then s.modVent 0 fun x => { x with run := some { r with sumA := a, sumB := b } }
  else
    let va := hkValue e.shift a.sum
    let vb := hkValue e.shift b.sum
    let fail := decide (s.vent.plausTol < ((va : Int) - vb).natAbs)
    let out := fun (isB : Bool) (u : HkSum) (val : Nat) =>
      ({ input := p, ventB := isB, ovr := u.ovr, recovering := u.recovering, plaus := fail, value := val } : HkOut)
    let s := if fail then
        raiseFault 0x0701 2 p va vb none (s.modVent 0 fun x => { x with flags := x.flags.raise 1 })
      else s
    beginSampling 1 (nextEntry 0 { r with outs := r.outs ++ [out false a va, out true b vb] } s)

/-- OVR_RECOVERY_END (17 R346): the two conversions after the wait carry RECOVERING; a sequence that waited to make its
first conversion starts now (R342). -/
def execOvrRecoveryEnd (vent : Fin 2) (s : State) : Host.Outcome State Fault Refusal :=
  .next <|
    if !engines s || !mustWait s vent then s
    else beginSampling vent (s.modVent vent fun x => { x with ovrInput := none, marks := 2 })

/-- An urgent request aborts the conversion in progress of the running sequence, and a pair on both (17 R345). -/
def abortConversion (v : Fin 2) (s : State) : State :=
  let count := fun (k : Fin 2) (s : State) => s.modVent k fun x => { x with aborts := satAdd x.aborts 1 }
  if inJoint s then (if mustWait s 0 || mustWait s 1 then s else count 1 (count 0 s))
  else if (ventOf s v).urgent.isNone && (ventOf s v).run.isSome && !mustWait s v then count v s
  else s

/-! The thermal check. -/

/-- A sensor's temperature in 1/256 deg C from its code and its trim (17 R338). -/
def sensorTemp (code : Nat) (trim : Int) : Int := (code * 75 / 8 : Nat) - 57600 + trim

/-- The highest of the sensors, the lowest number first. -/
def hottest (l : List (Nat × Int)) : Nat × Int :=
  l.foldl (fun b x => if b.2 < x.2 then x else b) (l.headD (0, 0))

/-- A threshold judged: reported once per crossing, re-armed 5 deg C inside (21 R423). -/
def judgeThermal (i : Fin 3) (above inside : Bool) (code sev sensor temp : Nat) (s : State) : State :=
  let was := vget s.dev.crossed i
  let mark := fun b (s : State) => { s with dev := { s.dev with crossed := vset s.dev.crossed i b } }
  if above && !was then raiseFault code sev sensor temp 0 none (mark true s)
  else if inside then mark false s else s

/-- The conversions of a thermal check, one of each sensor: they wait out an over-range of another input, and count among the two
that follow it (17 R344, R346). -/
def thermalConversion (sensors : Vector Int 4) (s : State) (i : Fin 4) : State :=
  let o := (convert (vget sensors i)).2
  s.modVent 0 fun x =>
    { x with flags := if o then x.flags.raise 0 else x.flags, ovrInput := if o then some i.val else none
             marks := if x.ovrInput.any (· ≠ i.val) then 1 else x.marks - 1 }

/-- A thermal check runs: its readings go to the firmware, which judges the highest after trims (17 R344, 21 R423). -/
def thermalCheck (sensors : Vector Int 4) (s : State) : State :=
  let s := beginSampling 0 ((List.finRange 4).foldl (thermalConversion sensors) s)
  let temps := (List.finRange 4).map fun i =>
    (i.val, sensorTemp (convert (vget sensors i)).1 (vget s.dev.fuses.sensorTrims i))
  let (k, t) := hottest temps
  let raw := (t % 2 ^ 64).toNat
  let hot := if 130 * 256 ≤ t then s.dev.hotChecks + 1 else 0
  let s := { s with dev := { s.dev with
    tempMax := BitVec.ofInt 16 t
    sensors := Vector.ofFn fun i : Fin 4 => BitVec.ofInt 16 (temps.getD i.val (0, 0)).2
    hotChecks := hot } }
  let s := judgeThermal 0 (t < -55 * 256) (-50 * 256 ≤ t) 0x010F 1 k raw s
  let s := judgeThermal 1 (115 * 256 ≤ t) (t ≤ 110 * 256) 0x010B 1 k raw s
  let s := judgeThermal 2 (125 * 256 < t) (t ≤ 120 * 256) 0x010C 2 k raw s
  if hot = 3 then raiseFault 0x010D 3 k raw 0 none s else s

/-- THERMAL_CHECK (17 R344, 21 R423): `sensors` are the inputs of HK0 to HK3 in units of one code. A host urgent read that came first
runs to its end before. -/
def execThermalCheck (sensors : Vector Int 4) (s : State) : Host.Outcome State Fault Refusal :=
  .next <|
    if !engines s || !firmware s then s
    else if (ventOf s 0).urgent.isSome then { s with vent := { s.vent with thermal := some sensors } }
    else thermalCheck sensors (abortConversion 0 s)

/-! Conversions. -/

/-- The urgent request that waited behind another one runs (17 R344). -/
def nextUrgent (v : Fin 2) (s : State) : State :=
  match s.vent.thermal with
  | some t => if v = 0 then thermalCheck t { s with vent := { s.vent with thermal := none } } else beginSampling v s
  | none => beginSampling v s

/-- A conversion of a host urgent read; the last one returns HK_READ (17 R344, R348). -/
def stepUrgent (v : Fin 2) (e : HkEntry) (u : HkSum) (code : Int) (s : State) : State :=
  let (u, s) := convertOn v e.input code u s
  if u.done < 2 ^ e.avg then s.modVent v fun x => { x with urgent := some (e, u) }
  else
    nextUrgent v <| finish (fun w => match w with | .hkRead k .. => k = v | _ => false)
      (fun _ s => (s, { status := .ok, detail := 0
                        payload := word (hkValue e.shift u.sum) ++ word (atBit 0 u.ovr + atBit 1 u.recovering) }))
      (s.modVent v fun x => { x with urgent := none })


/-- VENT_CONVERSION (17 R339 to R347): `code` is the converter's input in units of one code, `codeB` that of Vent B in a
paired conversion. A converter makes no conversion while it must wait, and Vent B none of its own in a JOINT entry. -/
def execVentConversion (vent : Fin 2) (code codeB : Int) (s : State) : Host.Outcome State Fault Refusal :=
  .next <|
    let x := ventOf s vent
    if !engines s || mustWait s vent then s
    else match x.urgent with
      | some (e, u) => stepUrgent vent e u code s
      | none =>
        match x.run, runEntry x with
        | some r, some e =>
          if vent = 0 ∧ e.joint = true then (if !inJoint s || mustWait s 1 then s else stepJoint r e code codeB s)
          else if vent = 1 ∧ inJoint s = true then s
          else stepEntry vent r e code s
        | _, _ => s

/-! Commands. -/

def cd14 : Option (Fin 16) := some 14

/-- The entries of HK_CONFIG. -/
def hkEntries (c : Cmd) : List HkEntry :=
  (List.range (c.u 2 1)).map fun i =>
    { input := c.u (8 + 4 * i) 1, joint := bit 0 (c.u (9 + 4 * i) 1), avg := c.u (10 + 4 * i) 1
      shift := c.u (11 + 4 * i) 1 }

/-- The offset in an entry of its first field outside R341. -/
def entryBad (ventB : Bool) (e : HkEntry) : Option Nat :=
  if !e.joint ∧ 23 < e.input then some 0
  else if e.joint && ventB then some 1
  else if 8 < e.avg then some 2
  else if 8 < e.shift then some 3
  else none

/-- Record entries of a sequence (17 R341). -/
def recordEntries (l : List HkEntry) : Nat := (l.map fun e => if e.joint then 2 else 1).sum

/-- The first field of HK_CONFIG outside its range. -/
def hkBad (c : Cmd) : Option Nat :=
  let es := hkEntries c
  if 1 < c.u 0 1 then some 0
  else if 1 < c.u 1 1 then some 1
  else if es.length < 1 ∨ 24 < recordEntries es then some 2
  else if 23 < c.u 3 1 then some 3
  else (List.range es.length).findSome? fun i =>
    (entryBad (c.u 0 1 = 1) (es.getD i default)).map fun o => 8 + 4 * i + o

/-- The request of HK_CONFIG: its head, then 4 bytes an entry (17 R348). -/
def hkSpec : CmdSpec :=
  { code := 0xD01, domain := fun _ => some 14
    fields := fun c => [whole 1, whole 1, whole 1, whole 1, whole 2, (2, 0)] ++
      (List.replicate (c.u 2 1) [whole 1, (1, 1), whole 1, whole 1]).flatten
    length := fun c => 8 + 4 * c.u 2 1, boot := fun _ => false }

/-- HK_CONFIG (17 R341, R348): a disabled sequence completes, and its latched start is discarded (R347). -/
def execHkConfig (s : State) : Host.Outcome State Fault Refusal :=
  .next <| serve hkSpec (fun c s =>
    match hkBad c with
    | some o => (s, bad o)
    | none =>
      let v : Fin 2 := if c.u 0 1 = 0 then 0 else 1
      let x := ventOf s v
      let plausNew := s.vent.plausInput ≠ c.u 3 1 || s.vent.plausTol ≠ c.u 4 2
      if (x.enabled && x.entries ≠ hkEntries c) || ((ventOf s 0).enabled && plausNew) then
        (s, refuse .busyRunning 0)
      else
        let on := c.u 1 1 = 1
        let s := { s with vent := { s.vent with plausInput := c.u 3 1, plausTol := c.u 4 2 } }
        (s.modVent v fun x =>
          { x with entries := hkEntries c, enabled := on, latched := x.latched && on }, ok [])) s

/-- HK_START (17 R348): the start is on its way to the converter. -/
def execHkStart (s : State) : Host.Outcome State Fault Refusal :=
  .next <| serve (fixedSpec 0xD02 cd14 [whole 1]) (fun c s =>
    match unit 2 (c.u 0 1) with
    | none => (s, bad 0)
    | some v =>
      if (ventOf s v).enabled then (sendVentStart v 2 s, ok []) else (s, refuse .refusedState 0)) s

/-- HK_READ (17 R344, R345, R348): returned when the entry completes. -/
def execHkRead (s : State) : Host.Outcome State Fault Refusal :=
  .next <| serve (fixedSpec 0xD03 none (List.replicate 4 (whole 1))) (fun c s =>
    match unit 2 (c.u 0 1) with
    | none => (s, bad 0)
    | some v =>
      let e : HkEntry := { input := c.u 1 1, joint := false, avg := c.u 2 1, shift := c.u 3 1 }
      if 23 < e.input then (s, bad 1)
      else if 8 < e.avg then (s, bad 2)
      else if 8 < e.shift then (s, bad 3)
      else if (ventOf s v).urgent.isSome then (s, refuse .busyRunning 0)
      else
        ((abortConversion v s).modVent v fun x => { x with urgent := some (e, HkSum.zero) },
          .wait (.hkRead v e.input e.avg e.shift))) s

/-- The entry of HK_STATUS for a converter (17 R349). -/
def hkEntryBytes (s : State) (n : Nat) : List Byte :=
  match unit 2 n with
  | none => []
  | some v =>
    let x := ventOf s v
    let st := if x.urgent.isSome then 3 else if x.run.isSome then 2 else if x.enabled then 1 else 0
    word (st + atBit 2 x.latched + ((x.run.map (·.entry)).getD 0) * 8 + atBit 8 (mustWait s v)) ++
      word x.flags.now.toNat ++ toLe 8 x.sequences.toNat ++ word x.trigLost.toNat ++ word x.aborts.toNat ++
      word (x.flags.occWord 0 3) ++ word 0

/-- HK_STATUS (17 R349). -/
def execHkStatus (s : State) : Host.Outcome State Fault Refusal :=
  .next <| serve (statusSpec 0xD04 14) (statusBody 2 32 (fun _ => []) hkEntryBytes (fun n m s =>
    match unit 2 n with
    | none => s
    | some v => s.modVent v fun x => { x with flags := x.flags.statusClear m, trigLost := 0, aborts := 0 })) s

end Sys2Proof.Machine
end

