-- ==== Sys2Proof/Machine/Params.lean ====
section
/-! DEFINITION. The parameters (19 R384 to R388): their attributes, PARAM_GET and PARAM_SET; the diagnostic counters (19 R383). -/

namespace Sys2Proof.Machine

/-! Attributes (19 R385, R386, R388). -/

/-- The effect points (19 R386). -/
inductive Effect where
  | immediate | epoch | frame | stopped
  deriving DecidableEq, Repr

def Effect.code : Effect → Nat
  | .immediate => 0
  | .epoch => 1
  | .frame => 2
  | .stopped => 3

/-- A parameter's attributes: type code, effect point, domain, range and reset value. A TIME is its 96-bit field. -/
structure ParamInfo where
  type   : Nat
  effect : Effect
  domain : Fin 16
  min    : Int
  max    : Int
  reset  : Int
  deriving DecidableEq, Repr

/-- The greatest station time in whole microseconds, as a 96-bit field. -/
def maxTime : Nat := (2 ^ 48 - 1) * 2 ^ 48 + 999999000 * 65536

/-- The assigned parameters (19 R388). -/
def paramInfo (id : Nat) : Option ParamInfo :=
  if 0x0100 ≤ id ∧ id < 0x0110 then some ⟨4, .stopped, 1, 0, 10000000, 0⟩
  else match id with
    | 0x0280 => some ⟨4, .immediate, 4, 10, 10000, 100⟩
    | 0x0281 => some ⟨1, .immediate, 4, 0, 1, 0⟩
    | 0x0500 => some ⟨8, .frame, 7, 0, 3, 0⟩
    | 0x0501 => some ⟨8, .frame, 7, 0, 3, 0⟩
    | 0x0700 => some ⟨4, .stopped, 11, 100, 10000000, 1000⟩
    | 0x0701 => some ⟨9, .stopped, 11, 0, maxTime, 0⟩
    | 0x0702 => some ⟨3, .epoch, 11, 1, 600, 10⟩
    | 0x0780 => some ⟨3, .immediate, 11, 10, 1000, 100⟩
    | 0x0781 => some ⟨4, .immediate, 11, 10, 100000, 100⟩
    | 0x0782 => some ⟨2, .immediate, 11, 6, 255, 7⟩
    | 0x0783 => some ⟨4, .immediate, 11, 1000, 1000000000, 1000⟩
    | 0x0784 => some ⟨7, .immediate, 11, -1000000000, 1000000000, 0⟩
    | 0x0785 => some ⟨3, .immediate, 11, 0, 65535, 0⟩
    | 0x0786 => some ⟨3, .immediate, 11, 0, 65535, 0⟩
    | 0x0787 => some ⟨3, .immediate, 11, 0, 65535, 0⟩
    | 0x0788 => some ⟨3, .immediate, 11, 0, 65535, 0⟩
    | 0x0789 => some ⟨1, .immediate, 11, 0, 1, 0⟩
    | 0x078A => some ⟨1, .immediate, 11, 0, 1, 0⟩
    | 0x0880 => some ⟨4, .immediate, 13, 10, 100000, 10000⟩
    | _ => none

/-- The signed types (19 R385). -/
def ParamInfo.signed (p : ParamInfo) : Bool := p.type = 6 || p.type = 7

/-- A 12-byte value field as a number. -/
def ParamInfo.value (p : ParamInfo) (raw : Nat) : Int := if p.signed then signedOf 96 raw else raw

/-- A value lies within the range; a TIME is a station time in whole microseconds (19 R388). -/
def ParamInfo.accepts (p : ParamInfo) (v : Int) : Bool :=
  decide (p.min ≤ v ∧ v ≤ p.max) &&
    (p.type ≠ 9 || decide (v.toNat % 2 ^ 48 < Config.secUnits ∧ v.toNat % 2 ^ 48 % (1000 * 65536) = 0))

/-- The value in force. -/
def paramValue (s : State) (id : Nat) : Int :=
  let p := s.params
  match unit 16 (id - 0x0100) with
  | some i => if 0x0100 ≤ id then (vget p.streamOffset i : Nat) else 0
  | none =>
    match id with
    | 0x0280 => p.syncDelay
    | 0x0281 => if p.syncForward then 1 else 0
    | 0x0500 => (vget p.testPattern 0 : Nat)
    | 0x0501 => (vget p.testPattern 1 : Nat)
    | 0x0700 => p.epochPeriod
    | 0x0701 => time96 (origin s)
    | 0x0702 => p.recordInterval
    | 0x0780 => p.servoBw
    | 0x0781 => p.lockThreshold
    | 0x0782 => p.classMax
    | 0x0783 => p.stepThreshold
    | 0x0784 => p.ppsOffset
    | 0x0785 => (vget p.rxLatency 0 : Nat)
    | 0x0786 => (vget p.rxLatency 1 : Nat)
    | 0x0787 => (vget p.txLatency 0 : Nat)
    | 0x0788 => (vget p.txLatency 1 : Nat)
    | 0x0789 => if vget p.rsFec 0 then 1 else 0
    | 0x078A => if vget p.rsFec 1 then 1 else 0
    | 0x0880 => p.tunnelTimeout
    | _ => 0

/-- An EPOCH or FRAME change awaits (19 R387). -/
def paramPending (s : State) (id : Nat) : Bool :=
  match id with
  | 0x0500 => (vget s.params.patternPending 0).isSome
  | 0x0501 => (vget s.params.patternPending 1).isSome
  | 0x0702 => s.params.intervalPending.isSome
  | _ => false

/-- The owning unit of a STOPPED parameter runs (19 R388). -/
def unitRuns (s : State) (id : Nat) : Bool :=
  if 0x0100 ≤ id ∧ id < 0x0110 then
    (List.finRange 2).any fun b =>
      ((s.bank b).state = .active || (s.bank b).state = .pending || (s.bank b).state = .draining) &&
        ((planIn s b).stream (id - 0x0100)).run
  else if id = 0x0700 ∨ id = 0x0701 then anyBankBusy s
  else false

/-! Taking effect (19 R386). -/

def modParams (f : Params → Params) (s : State) : State := { s with params := f s.params }

/-- The first boundary whose commit window is still open (19 R386). -/
def openBoundary (s : State) : Nat :=
  if now s + Config.msUnits ≤ origin s then 0 else ceilDiv (now s + Config.msUnits - origin s) (max (period s) 1)

/-- RS-FEC of a port: a change retrains its link, and its domains restart in LISTENING (14 R278). -/
def setFec (port : Fin 2) (on : Bool) (s : State) : State :=
  if vget s.params.rsFec port = on then s
  else
    let s := modParams (fun p => { p with rsFec := vset p.rsFec port on }) s
    let s := { s with time := { s.time with ethUp := vset s.time.ethUp port false } }
    evaluate (fun d s => if portOf s d = port then restartDomain d s else s) s

/-- A test pattern waits for its frame start (19 R386). -/
def setPattern (o : Fin 2) (v : Nat) (s : State) : State :=
  let shut := (outRt s (lead s o)).closed
  modParams (fun p => { p with patternPending := vset p.patternPending o (some (v, shut)) }) s

/-- The epoch grid has changed: the current index follows from it, and no boundary of the old grid is kept. -/
def newGrid (s : State) : State :=
  let s := { s with plans := { s.plans with epoch := epochAt s (now s) }
                    plains := { s.plains with views := s.plains.views.map fun v => { v with mResume := none } }
                    lanes := { s.lanes with streams := s.lanes.streams.map fun t => { t with resumeAt := none } } }
  let s := match epochAt s (now s) with
    | some k => startSchedule k s
    | none => s
  (List.finRange 16).foldl (fun s i => s.modBound i fun b => { b with hist := [], next := [], await := [] }) s

/-- A parameter takes a value, or will at its effect point. -/
def applyParam (id : Nat) (v : Int) (s : State) : State :=
  let n := v.toNat
  let on := decide (v = 1)
  match unit 16 (id - 0x0100) with
  | some i => if 0x0100 ≤ id then modParams (fun p => { p with streamOffset := vset p.streamOffset i n }) s else s
  | none =>
    match id with
    | 0x0280 => modParams (fun p => { p with syncDelay := n }) s
    | 0x0281 => modParams (fun p => { p with syncForward := on }) s
    | 0x0500 => setPattern 0 n s
    | 0x0501 => setPattern 1 n s
    | 0x0700 => modParams (fun p => { p with epochPeriod := n }) s
    | 0x0701 => modParams (fun p => { p with epochOrigin := ofTime96 n / Config.usUnits }) s
    | 0x0702 => modParams (fun p => { p with intervalPending := some (n, openBoundary s) }) s
    | 0x0780 => modParams (fun p => { p with servoBw := n }) s
    | 0x0781 => modParams (fun p => { p with lockThreshold := n }) s
    | 0x0782 =>
      evaluate (fun d s => if (s.domain d).ok && !goodMaster s d then markOk d false s else s) (modParams (fun p => { p with classMax := n }) s)
    | 0x0783 => modParams (fun p => { p with stepThreshold := n }) s
    | 0x0784 => modParams (fun p => { p with ppsOffset := v }) s
    | 0x0785 => modParams (fun p => { p with rxLatency := vset p.rxLatency 0 n }) s
    | 0x0786 => modParams (fun p => { p with rxLatency := vset p.rxLatency 1 n }) s
    | 0x0787 => modParams (fun p => { p with txLatency := vset p.txLatency 0 n }) s
    | 0x0788 => modParams (fun p => { p with txLatency := vset p.txLatency 1 n }) s
    | 0x0789 => setFec 0 on s
    | 0x078A => setFec 1 on s
    | 0x0880 => modParams (fun p => { p with tunnelTimeout := n }) s
    | _ => s

/-- A TIME_RECORD_INTERVAL that awaits its boundary awaits the first one of the new grid whose window is open (19 R386). -/
def retarget (s : State) : State :=
  modParams (fun p => { p with intervalPending := p.intervalPending.map fun e => (e.1, openBoundary s) }) s

/-- The parameters that a command has set have changed the epoch grid: the generation counts it (03 R44). -/
def regrade (before : State) (s : State) : State :=
  if s.params.epochPeriod = before.params.epochPeriod ∧ s.params.epochOrigin = before.params.epochOrigin then s
  else retarget (newGrid (bumpGen true s))

/-! PARAM_GET (19 R387). -/

def paramIdOf (c : Cmd) (i : Nat) : Nat := c.u (2 + 2 * i) 2

def paramEntry (s : State) (id : Nat) : List Byte :=
  match paramInfo id with
  | some p => toLe 2 id ++ toLe 1 p.type ++ toLe 1 (atBit 0 (paramPending s id)) ++ toLeInt 12 (paramValue s id)
  | none => []

def describeEntry (id : Nat) : List Byte :=
  match paramInfo id with
  | some p =>
    toLe 2 id ++ toLe 1 p.type ++ toLe 1 p.effect.code ++ toLe 4 p.domain.val ++ toLeInt 12 p.min ++ toLeInt 12 p.max ++
    toLeInt 12 p.reset ++ toLe 4 0
  | none => []

def paramGetSpec : CmdSpec :=
  { code := 0x0103, domain := fun _ => none
    fields := fun c => [whole 1, (1, 1)] ++ List.replicate (c.u 0 1) (whole 2)
    length := fun c => 2 + 2 * c.u 0 1, boot := fun _ => true }

def execParamGet (s : State) : Host.Outcome State Fault Refusal :=
  .next <| serve paramGetSpec
    (fun c s =>
      let n := c.u 0 1
      let describe := bit 0 (c.u 1 1)
      if n = 0 ∨ (if describe then 10 else 30) < n then (s, bad 0)
      else match (List.range n).find? fun i => (paramInfo (paramIdOf c i)).isNone with
        | some i => (s, bad (2 + 2 * i))
        | none =>
          (s, ok ((List.range n).flatMap fun i =>
            if describe then describeEntry (paramIdOf c i) else paramEntry s (paramIdOf c i)))) s

/-! PARAM_SET (19 R387). -/

def setId (c : Cmd) (i : Nat) : Nat := c.u (8 + 16 * i) 2
def setRaw (c : Cmd) (i : Nat) : Nat := c.u (12 + 16 * i) 12

/-- Why an entry of a PARAM_SET is refused (19 R387 check 4). -/
def paramEntryBad (s : State) (c : Cmd) (i : Nat) : Option Status :=
  match paramInfo (setId c i) with
  | none => some .badParam
  | some p =>
    if !p.accepts (p.value (setRaw c i)) then some .badParam
    else if (List.range i).any fun j => setId c j = setId c i then some .badParam
    else if p.effect = .stopped && unitRuns s (setId c i) then some .busyRunning
    else none

/-- The first entry that is refused. -/
def firstBad (s : State) (c : Cmd) (n : Nat) : Option (Nat × Status) :=
  (List.range n).findSome? fun i => (paramEntryBad s c i).map fun st => (i, st)

/-- APPLY_EPOCH: where the command sets a parameter of effect point EPOCH. -/
def applyEpoch (s : State) (c : Cmd) (n : Nat) : Nat :=
  if (List.range n).any fun i => (paramInfo (setId c i)).any fun p => p.effect = .epoch then openBoundary s else Config.noEpoch

/-- Every entry takes effect. -/
def setAll (s : State) (c : Cmd) (n : Nat) : State :=
  let t := (List.range n).foldl (fun t i =>
    match paramInfo (setId c i) with
    | some p => applyParam (setId c i) (p.value (setRaw c i)) t
    | none => t) s
  regrade s t

def paramSetSpec : CmdSpec :=
  { code := 0x0104, domain := fun _ => none
    fields := fun c => whole 1 :: List.replicate 7 (1, 0) ++ (List.replicate (c.u 0 1) [whole 2, whole 12]).flatten
    length := fun c => 8 + 16 * c.u 0 1, boot := fun _ => false }

/-- The checks of R387 from the first on, and the setting of all entries or none. -/
def setParams (c : Cmd) (s : State) : State × Verdict :=
  let n := c.u 0 1
  if n = 0 then (s, bad 0)
  else match (List.range n).find? fun i => (paramInfo (setId c i)).isNone with
    | some i => (s, bad i)
    | none =>
      let domainOf := fun i => (paramInfo (setId c i)).map (·.domain)
      match domainOf 0 with
      | none => (s, bad 0)
      | some d =>
        if (List.range n).any fun i => domainOf i ≠ some d then (s, bad 0)
        else if semOwner s (domainSem d) ≠ some c.source.owner then
          (s, .replyIn d { status := .notOwner, detail := ownerCode (semOwner s (domainSem d)), payload := [] })
        else match firstBad s c n with
          | some (i, st) => (s, .replyIn d { status := st, detail := i, payload := [] })
          | none =>
            let t := setAll s c n
            (t, .replyIn d { status := .ok, detail := 0, payload := toLe 8 (applyEpoch t c n) })

def execParamSet (s : State) : Host.Outcome State Fault Refusal := .next <| serve paramSetSpec setParams s

/-! DIAG_COUNTERS (19 R383). -/

/-- The counter of a class at an index; none beyond the class. -/
def diagValue (s : State) (cls i : Nat) : Option Nat :=
  match cls with
  | 1 =>
    match unit 6 i, unit 128 (i - 256) with
    | some r, _ => some (vget s.down.rowMerges r).toNat
    | none, some l => if 256 ≤ i then some (vget s.down.lineMerges l).toNat else none
    | none, none => none
  | 2 => (unit 25 i).map fun p => (vget s.records.paths p).drops.toNat
  | 3 => (unit 25 i).map fun p => (vget s.records.paths p).oversize.toNat
  | 4 => (unit 2 i).map fun p => (vget s.time.ptpIgnored p).toNat
  | 5 => (unit 12 i).map fun f => (vget (s.fabLane f).flags.occ 4).toNat
  | 6 => if i = 0 then some s.plains.lastPeak else if i = 1 then some s.plains.lastWait else none
  | 7 => (unit 256 i).map fun n => (vget s.geyser.excluded n).toNat
  | 8 => (unit 16 i).map fun q => (vget s.geyser.stats q).armNotManager.toNat
  | _ => none

def clearMerges (i : Nat) (d : Downstream) : Downstream :=
  match unit 6 i, unit 128 (i - 256) with
  | some r, _ => { d with rowMerges := vset d.rowMerges r 0 }
  | none, some l => if 256 ≤ i then { d with lineMerges := vset d.lineMerges l 0 } else d
  | none, none => d

/-- The counter of a class at an index is cleared. -/
def diagClear (cls i : Nat) (s : State) : State :=
  match cls with
  | 1 => { s with down := clearMerges i s.down }
  | 2 => match unit 25 i with
    | some p => s.modPath p fun q => { q with drops := 0 }
    | none => s
  | 3 => match unit 25 i with
    | some p => s.modPath p fun q => { q with oversize := 0 }
    | none => s
  | 4 => match unit 2 i with
    | some p => { s with time := { s.time with ptpIgnored := vset s.time.ptpIgnored p 0 } }
    | none => s
  | 5 => match unit 12 i with
    | some f => s.modFabLane f fun l => { l with flags := { l.flags with occ := vset l.flags.occ 4 0 } }
    | none => s
  | 7 => match unit 256 i with
    | some n => { s with geyser := { s.geyser with excluded := vset s.geyser.excluded n 0 } }
    | none => s
  | 8 => match unit 16 i with
    | some q => s.modStat q fun x => { x with armNotManager := 0 }
    | none => s
  | _ => s

def diagSpec : CmdSpec :=
  let fields := [whole 1, (1, 1), whole 2, whole 2]
  { code := 0x1001, domain := fun c => if bit 0 (c.u 1 1) then some 15 else none, fields := fun _ => fields
    length := fun _ => requestEnd 0 fields, boot := fun c => !bit 0 (c.u 1 1) }

def execDiagCounters (s : State) : Host.Outcome State Fault Refusal :=
  .next <| serve diagSpec
    (fun c s =>
      let cls := c.u 0 1
      let clear := bit 0 (c.u 1 1)
      let is := (List.range (c.u 4 2)).map (c.u 2 2 + ·)
      if cls < 1 ∨ 8 < cls then (s, bad 0)
      else if clear = true ∧ cls = 6 then (s, bad 1)
      else if (diagValue s cls (c.u 2 2)).isNone then (s, bad 2)
      else if c.u 4 2 < 1 ∨ 120 < c.u 4 2 ∨ (is.any fun i => (diagValue s cls i).isNone) = true then (s, bad 4)
      else
        let rsp := is.flatMap fun i => toLe 4 ((diagValue s cls i).getD 0)
        (if clear then is.foldl (fun s i => diagClear cls i s) s else s, ok rsp)) s

end Sys2Proof.Machine
end

