-- ==== Sys2Proof/Machine/Reset.lean ====
section
/-! DEFINITION. DEV_RESET: the reset of one configuration domain (21 R410). -/

namespace Sys2Proof.Machine

/-- All flags. -/
def allFlags : Nat := 2 ^ 32 - 1

/-- Units `0` to `n - 1` of a status command are cleared. -/
def clearUnits (n : Nat) (clear : Nat → Nat → State → State) (s : State) : State :=
  (List.range n).foldl (fun s i => clear i allFlags s) s

/-- Counters `0` to `n - 1` of a diagnostics class are cleared. -/
def clearClass (cls n : Nat) (s : State) : State := (List.range n).foldl (fun s i => diagClear cls i s) s

/-- Flags and counters of the event inputs and frame-clock outputs. -/
def clearEvents (s : State) : State :=
  { s with evt := { s.evt with
    inputs := s.evt.inputs.map fun x => { x with flags := x.flags.statusClear allFlags, suppressed := 0, lost := 0, peak := 0 }
    outputs := s.evt.outputs.map fun f => { f with flags := f.flags.statusClear allFlags } } }

/-- Flags and counters of station time. -/
def clearTime (s : State) : State :=
  { s with time := { s.time with flags := s.time.flags.statusClear allFlags, tcDropped := 0, switches := 0, ppsRejects := 0 } }

/-- Flags and counters of near memory. -/
def clearNear (s : State) : State := s.modNear fun n => { n with flags := n.flags.statusClear allFlags, retries := 0, fails := 0 }

/-- Flags and counters of the converters. -/
def clearVents (s : State) : State :=
  { s with vent := { s.vent with
    units := s.vent.units.map fun x => { x with flags := x.flags.statusClear allFlags, trigLost := 0, aborts := 0 } } }

/-- The flags and counters of a domain's status commands (21 R410). -/
def clearDomain (d : Fin 16) (s : State) : State :=
  match d with
  | 2 => clearUnits 32 laneClear s
  | 3 => clearUnits 64 viewClear s
  | 4 => clearUnits 32 zoomClear s
  | 5 => clearUnits 16 seqClear s
  | 6 => clearUnits 16 basinClear s
  | 7 => clearUnits 2 displayClear (clearUnits 2 calderaClearStatus s)
  | 9 => clearNear (clearUnits 4 portClear s)
  | 10 => clearUnits 32 dmaClear s
  | 11 => clearTime s
  | 12 => clearEvents s
  | 13 => clearUnits 12 fabricClear s
  | 14 => clearVents s
  | 15 => clearClass 8 16 (clearClass 7 256 (clearClass 5 12 (clearClass 4 2 (clearClass 3 25 (clearClass 2 25 (clearClass 1 384 s))))))
  | _ => s

/-- The parameters of a domain, by ID. -/
def domainParams (d : Fin 16) : List Nat :=
  let ids := (List.range 16).map (0x0100 + ·) ++ [0x0280, 0x0281, 0x0500, 0x0501, 0x0700, 0x0701, 0x0702] ++
    (List.range 11).map (0x0780 + ·) ++ [0x0880]
  ids.filter fun id => (paramInfo id).any fun p => p.domain = d

/-- The parameters of CD7 and the pending values of a domain, which DEV_RESET discards (21 R410). -/
def dropPending (d : Fin 16) (s : State) : State :=
  match d with
  | 7 => modParams (fun p => { p with testPattern := Params.reset.testPattern, patternPending := Params.reset.patternPending }) s
  | 11 => modParams (fun p => { p with recordInterval := Params.reset.recordInterval, intervalPending := none }) s
  | _ => s

/-- The parameters of a domain take their reset values. -/
def resetParams (d : Fin 16) (s : State) : State :=
  let t := (domainParams d).foldl (fun t id =>
    match paramInfo id with
    | some p => applyParam id p.reset t
    | none => t) s
  regrade s (dropPending d t)

/-- A host-programmed channel stops as under DMA_STOP (13 R273). -/
def stopHost (s : State) (c : Fin 32) : State :=
  let e := dmaEntry s c
  if !(e.present && e.host) || (s.dma c).state = .errorAlign then s
  else if outstanding s c then s.modDma c fun d => { d with stopping := true }
  else stopChannel c s

/-- A record ring is torn down (11 R228). -/
def tearDown (s : State) (r : Fin 16) : State :=
  if !(vget s.records.rings r).isUp then s
  else
    let s := s.modPath ⟨r.val, by omega⟩ fun p => { p with queue := [], drops := satAdd p.drops p.queue.length }
    s.modRecRing r fun g => { g with isUp := false, waiting := false }

/-- The further action for a domain (21 R410). -/
def domainAction (d : Fin 16) (s : State) : State :=
  match d with
  | 0 => (List.finRange 2).foldl (fun s b =>
      if (s.bank b).state = .loaded ∨ (s.bank b).state = .verified then (dropRecovery b s).modBank b fun k => k.clear false
      else s) s
  | 2 => relinkAll s
  | 7 => (List.finRange 2).foldl (fun s o =>
      if rasterRuns s o then modMembers o (fun x => { x with stopAtEnd := true, resume := false }) s else s) s
  | 8 =>
    let s := (List.finRange 16).foldl tearDown s
    (List.finRange 8).foldl (fun s i => (flushUdp i s).modUdp i fun u => { u with enabled := false }) s
  | 10 => (List.finRange 32).foldl stopHost s
  | 12 =>
    let s := { s with evt := { s.evt with inputs := s.evt.inputs.map fun x => { x with enabled := false } } }
    gateFco 0xFF false s
  | 13 => { s with fabric := { s.fabric with lanes := s.fabric.lanes.map FabLane.relink } }
  | 14 => { s with vent := { s.vent with units := s.vent.units.map fun x => { x with enabled := false, latched := false } } }
  | _ => s

/-- Why a reset of a domain is refused (21 R410). -/
def resetRefused (s : State) (d : Fin 16) : Option Status :=
  if (domainParams d).any (unitRuns s) then some .busyRunning
  else if d = 0 ∧ s.plans.flip.isSome = true then some .refusedState
  else none

/-- DEV_RESET (21 R410). -/
def execDevReset (s : State) : Host.Outcome State Fault Refusal :=
  .next <| serve (fixedSpec 0x0102 (some 15) [whole 1])
    (fun c s => match unit 16 (c.u 0 1) with
      | none => (s, bad 0)
      | some d =>
        match resetRefused s d with
        | some st => (s, refuse st 0)
        | none => (domainAction d (clearDomain d (resetParams d s)), ok [])) s

end Sys2Proof.Machine
end

