-- ==== Sys2Proof/Machine/Dispatch.lean ====
section
/-! DEFINITION. One arm per command: the meaning that the table row has. -/

namespace Sys2Proof.Machine

def exec (i : Instr) (s : State) : Host.Outcome State Fault Refusal :=
  match i with
  | .devInfo => Sys2Proof.Machine.execDevInfo s
  | .devReset => Sys2Proof.Machine.execDevReset s
  | .paramGet => Sys2Proof.Machine.execParamGet s
  | .paramSet => Sys2Proof.Machine.execParamSet s
  | .semAcquire => Sys2Proof.Machine.execSemAcquire s
  | .semRelease => Sys2Proof.Machine.execSemRelease s
  | .planLoad => Sys2Proof.Machine.execPlanLoad s
  | .planLoadDone image => Sys2Proof.Machine.execPlanLoadDone image s
  | .planVerify => Sys2Proof.Machine.execPlanVerify s
  | .planCommit => Sys2Proof.Machine.execPlanCommit s
  | .planQuery => Sys2Proof.Machine.execPlanQuery s
  | .streamStart => Sys2Proof.Machine.execStreamStart s
  | .streamStartDelivery stream => Sys2Proof.Machine.execStreamStartDelivery stream s
  | .streamResync => Sys2Proof.Machine.execStreamResync s
  | .laneStatus => Sys2Proof.Machine.execLaneStatus s
  | .viewStatus => Sys2Proof.Machine.execViewStatus s
  | .zoomStop => Sys2Proof.Machine.execZoomStop s
  | .zoomLoad => Sys2Proof.Machine.execZoomLoad s
  | .zoomStart => Sys2Proof.Machine.execZoomStart s
  | .zoomSync => Sys2Proof.Machine.execZoomSync s
  | .zoomStatus => Sys2Proof.Machine.execZoomStatus s
  | .geyserStop => Sys2Proof.Machine.execGeyserStop s
  | .geyserStart => Sys2Proof.Machine.execGeyserStart s
  | .geyserTrigger => Sys2Proof.Machine.execGeyserTrigger s
  | .geyserStatus => Sys2Proof.Machine.execGeyserStatus s
  | .captureRead => Sys2Proof.Machine.execCaptureRead s
  | .captureReadDone stream => Sys2Proof.Machine.execCaptureReadDone stream s
  | .captureRelease => Sys2Proof.Machine.execCaptureRelease s
  | .basinRecover => Sys2Proof.Machine.execBasinRecover s
  | .recoverDone => Sys2Proof.Machine.execRecoverDone s
  | .basinStatus => Sys2Proof.Machine.execBasinStatus s
  | .archiveFormat => Sys2Proof.Machine.execArchiveFormat s
  | .archiveAttach => Sys2Proof.Machine.execArchiveAttach s
  | .archiveDetach => Sys2Proof.Machine.execArchiveDetach s
  | .displayMode => Sys2Proof.Machine.execDisplayMode s
  | .displayStart => Sys2Proof.Machine.execDisplayStart s
  | .displayStop => Sys2Proof.Machine.execDisplayStop s
  | .displayEdid edid => Sys2Proof.Machine.execDisplayEdid edid s
  | .calderaClear => Sys2Proof.Machine.execCalderaClear s
  | .calderaStatus => Sys2Proof.Machine.execCalderaStatus s
  | .displayStatus => Sys2Proof.Machine.execDisplayStatus s
  | .ringSetup => Sys2Proof.Machine.execRingSetup s
  | .ringTeardown => Sys2Proof.Machine.execRingTeardown s
  | .udpDestSet => Sys2Proof.Machine.execUdpDestSet s
  | .ptpConfig => Sys2Proof.Machine.execPtpConfig s
  | .timeSource => Sys2Proof.Machine.execTimeSource s
  | .timeSet => Sys2Proof.Machine.execTimeSet s
  | .timeStart => Sys2Proof.Machine.execTimeStart s
  | .tcConfig => Sys2Proof.Machine.execTcConfig s
  | .timeStatus => Sys2Proof.Machine.execTimeStatus s
  | .evtConfig => Sys2Proof.Machine.execEvtConfig s
  | .evtStatus => Sys2Proof.Machine.execEvtStatus s
  | .fcoConfig => Sys2Proof.Machine.execFcoConfig s
  | .fcoGate => Sys2Proof.Machine.execFcoGate s
  | .fcoStep => Sys2Proof.Machine.execFcoStep s
  | .fcoStatus => Sys2Proof.Machine.execFcoStatus s
  | .fabricConfig => Sys2Proof.Machine.execFabricConfig s
  | .fabricStatus => Sys2Proof.Machine.execFabricStatus s
  | .fabricNodes => Sys2Proof.Machine.execFabricNodes s
  | .fabricTunnel => Sys2Proof.Machine.execFabricTunnel s
  | .tunnelTimeout tag => Sys2Proof.Machine.execTunnelTimeout tag s
  | .hkConfig => Sys2Proof.Machine.execHkConfig s
  | .hkStart => Sys2Proof.Machine.execHkStart s
  | .hkRead => Sys2Proof.Machine.execHkRead s
  | .hkStatus => Sys2Proof.Machine.execHkStatus s
  | .portMode => Sys2Proof.Machine.execPortMode s
  | .portModeDone port => Sys2Proof.Machine.execPortModeDone port s
  | .portStatus => Sys2Proof.Machine.execPortStatus s
  | .nearmemPasr => Sys2Proof.Machine.execNearmemPasr s
  | .nearmemStatus => Sys2Proof.Machine.execNearmemStatus s
  | .dmaLoad => Sys2Proof.Machine.execDmaLoad s
  | .dmaStart => Sys2Proof.Machine.execDmaStart s
  | .dmaPause => Sys2Proof.Machine.execDmaPause s
  | .dmaPaused channel => Sys2Proof.Machine.execDmaPaused channel s
  | .dmaResume => Sys2Proof.Machine.execDmaResume s
  | .dmaStop => Sys2Proof.Machine.execDmaStop s
  | .dmaStopped channel => Sys2Proof.Machine.execDmaStopped channel s
  | .dmaStatus => Sys2Proof.Machine.execDmaStatus s
  | .diagCounters => Sys2Proof.Machine.execDiagCounters s
  | .doorbell port value other again => Sys2Proof.Machine.execDoorbell port value other again s
  | .slotWrite port offset wide value => Sys2Proof.Machine.execSlotWrite port offset wide value s
  | .semRead port sem wide other again => Sys2Proof.Machine.execSemRead port sem wide other again s
  | .semWrite port sem wide => Sys2Proof.Machine.execSemWrite port sem wide s
  | .consumedWrite port ring value => Sys2Proof.Machine.execConsumedWrite port ring value s
  | .evTailWrite port value => Sys2Proof.Machine.execEvTailWrite port value s
  | .hostOccRead port second => Sys2Proof.Machine.execHostOccRead port second s
  | .evLostRead port => Sys2Proof.Machine.execEvLostRead port s
  | .msixTableWrite port offset wide value => Sys2Proof.Machine.execMsixTableWrite port offset wide value s
  | .unmappedAccess port offset width write => Sys2Proof.Machine.execUnmappedAccess port offset width write s
  | .registerWrite port offset wide value => Sys2Proof.Machine.execRegisterWrite port offset wide value s
  | .i2cTransaction address offset write count => Sys2Proof.Machine.execI2cTransaction address offset write count s
  | .evIrqHoldoffExpiry port => Sys2Proof.Machine.execEvIrqHoldoffExpiry port s
  | .laneBlock lane header payload => Sys2Proof.Machine.execLaneBlock lane header payload s
  | .superblockHeader stream => Sys2Proof.Machine.execSuperblockHeader stream s
  | .deskewMarker lane => Sys2Proof.Machine.execDeskewMarker lane s
  | .linkManagement lane => Sys2Proof.Machine.execLinkManagement lane s
  | .statusBlockSend lane => Sys2Proof.Machine.execStatusBlockSend lane s
  | .linkUpStart stream => Sys2Proof.Machine.execLinkUpStart stream s
  | .linkUpStepFail stream lane cause => Sys2Proof.Machine.execLinkUpStepFail stream lane cause s
  | .eyeSweepDone lane eyes => Sys2Proof.Machine.execEyeSweepDone lane eyes s
  | .bundleSuperblockDeliver stream => Sys2Proof.Machine.execBundleSuperblockDeliver stream s
  | .transformDispatch pipe => Sys2Proof.Machine.execTransformDispatch pipe s
  | .spectrumComplete pipe => Sys2Proof.Machine.execSpectrumComplete pipe s
  | .fourStepPassDone pipe => Sys2Proof.Machine.execFourStepPassDone pipe s
  | .zoomOutput channel => Sys2Proof.Machine.execZoomOutput channel s
  | .zoomSyncRestart => Sys2Proof.Machine.execZoomSyncRestart s
  | .terraceSyncEdge => Sys2Proof.Machine.execTerraceSyncEdge s
  | .maskEvaluate view => Sys2Proof.Machine.execMaskEvaluate view s
  | .poolAccumulate view => Sys2Proof.Machine.execPoolAccumulate view s
  | .poolSweep view => Sys2Proof.Machine.execPoolSweep view s
  | .poolRecords view => Sys2Proof.Machine.execPoolRecords view s
  | .calderaReduce view => Sys2Proof.Machine.execCalderaReduce view s
  | .calderaIncrement plane => Sys2Proof.Machine.execCalderaIncrement plane s
  | .renderTick plane => Sys2Proof.Machine.execRenderTick plane s
  | .ticksMissed plane => Sys2Proof.Machine.execTicksMissed plane s
  | .frameBaseWrite output => Sys2Proof.Machine.execFrameBaseWrite output s
  | .frameWindowClose output => Sys2Proof.Machine.execFrameWindowClose output s
  | .frameStart output => Sys2Proof.Machine.execFrameStart output s
  | .scanoutUnderrun output pixel => Sys2Proof.Machine.execScanoutUnderrun output pixel s
  | .hpdChange output event => Sys2Proof.Machine.execHpdChange output event s
  | .modeChangeDone output rate lanes => Sys2Proof.Machine.execModeChangeDone output rate lanes s
  | .eventRelease seqr => Sys2Proof.Machine.execEventRelease seqr s
  | .wait seqr => Sys2Proof.Machine.execWait seqr s
  | .count seqr => Sys2Proof.Machine.execCount seqr s
  | .timer seqr => Sys2Proof.Machine.execTimer seqr s
  | .goto seqr => Sys2Proof.Machine.execGoto seqr s
  | .arm seqr => Sys2Proof.Machine.execArm seqr s
  | .fire seqr => Sys2Proof.Machine.execFire seqr s
  | .holdoff seqr => Sys2Proof.Machine.execHoldoff seqr s
  | .mark seqr => Sys2Proof.Machine.execMark seqr s
  | .stop seqr => Sys2Proof.Machine.execStop seqr s
  | .timerExpiry seqr timer => Sys2Proof.Machine.execTimerExpiry seqr timer s
  | .verifyConfirm seqr => Sys2Proof.Machine.execVerifyConfirm seqr s
  | .verifyRetract seqr => Sys2Proof.Machine.execVerifyRetract seqr s
  | .verifyTimeout seqr => Sys2Proof.Machine.execVerifyTimeout seqr s
  | .tileComplete stream => Sys2Proof.Machine.execTileComplete stream s
  | .tileWrite stream => Sys2Proof.Machine.execTileWrite stream s
  | .basinWriterResume stream => Sys2Proof.Machine.execBasinWriterResume stream s
  | .headerRewrite stream seq => Sys2Proof.Machine.execHeaderRewrite stream seq s
  | .captureClose stream slot => Sys2Proof.Machine.execCaptureClose stream slot s
  | .releaseHePulse stream => Sys2Proof.Machine.execReleaseHePulse stream s
  | .envelopeRecord stream => Sys2Proof.Machine.execEnvelopeRecord stream s
  | .cxlResponse port poison error => Sys2Proof.Machine.execCxlResponse port poison error s
  | .cxlTimeout port => Sys2Proof.Machine.execCxlTimeout port s
  | .cxlLinkDown port sub => Sys2Proof.Machine.execCxlLinkDown port sub s
  | .cxlLinkUp port sub width rate capacity device => Sys2Proof.Machine.execCxlLinkUp port sub width rate capacity device s
  | .cxlNotActive port sub => Sys2Proof.Machine.execCxlNotActive port sub s
  | .pcieDsLinkDown port sub => Sys2Proof.Machine.execPcieDsLinkDown port sub s
  | .dsPrsntChange port level => Sys2Proof.Machine.execDsPrsntChange port level s
  | .archiveAppend archive => Sys2Proof.Machine.execArchiveAppend archive s
  | .nvmeCompletion archive ok => Sys2Proof.Machine.execNvmeCompletion archive ok s
  | .nvmeDoorbell archive => Sys2Proof.Machine.execNvmeDoorbell archive s
  | .move channel => Sys2Proof.Machine.execMove channel s
  | .moveVerify channel => Sys2Proof.Machine.execMoveVerify channel s
  | .waitEvent channel => Sys2Proof.Machine.execWaitEvent channel s
  | .signal channel => Sys2Proof.Machine.execSignal channel s
  | .loop channel => Sys2Proof.Machine.execLoop channel s
  | .dmaDescStop channel => Sys2Proof.Machine.execDmaDescStop channel s
  | .dmaBurst channel => Sys2Proof.Machine.execDmaBurst channel s
  | .dmaMoveComplete channel => Sys2Proof.Machine.execDmaMoveComplete channel s
  | .withdrawn channel => Sys2Proof.Machine.execWithdrawn channel s
  | .dmaBeatError channel destination beat => Sys2Proof.Machine.execDmaBeatError channel destination beat s
  | .eventLinePulse line consumer => Sys2Proof.Machine.execEventLinePulse line consumer s
  | .spectrumRecord view => Sys2Proof.Machine.execSpectrumRecord view s
  | .ringEntryWrite ring => Sys2Proof.Machine.execRingEntryWrite ring s
  | .ringIrqHoldoffExpiry ring => Sys2Proof.Machine.execRingIrqHoldoffExpiry ring s
  | .udpFlushExpiry dest => Sys2Proof.Machine.execUdpFlushExpiry dest s
  | .heartbeatSend => Sys2Proof.Machine.execHeartbeatSend s
  | .heartbeat lane msg => Sys2Proof.Machine.execHeartbeat lane msg s
  | .epochMark lane msg => Sys2Proof.Machine.execEpochMark lane msg s
  | .fabricArm lane msg => Sys2Proof.Machine.execFabricArm lane msg s
  | .fabricFire lane msg => Sys2Proof.Machine.execFabricFire lane msg s
  | .fireProvisional lane msg => Sys2Proof.Machine.execFireProvisional lane msg s
  | .confirm lane msg => Sys2Proof.Machine.execConfirm lane msg s
  | .retract lane msg => Sys2Proof.Machine.execRetract lane msg s
  | .fabricProvisionalTimeout => Sys2Proof.Machine.execFabricProvisionalTimeout s
  | .fabricSync lane msg => Sys2Proof.Machine.execFabricSync lane msg s
  | .probe lane msg => Sys2Proof.Machine.execProbe lane msg s
  | .echo lane msg roundTrip => Sys2Proof.Machine.execEcho lane msg roundTrip s
  | .fabricLinkUp lane part => Sys2Proof.Machine.execFabricLinkUp lane part s
  | .join lane msg => Sys2Proof.Machine.execJoin lane msg s
  | .joinSend => Sys2Proof.Machine.execJoinSend s
  | .joinAck lane msg => Sys2Proof.Machine.execJoinAck lane msg s
  | .tunnelCmd lane msg => Sys2Proof.Machine.execTunnelCmd lane msg s
  | .tunnelRsp lane msg => Sys2Proof.Machine.execTunnelRsp lane msg s
  | .tunnelData lane msg => Sys2Proof.Machine.execTunnelData lane msg s
  | .recordFrag lane msg => Sys2Proof.Machine.execRecordFrag lane msg s
  | .uplinkInactive => Sys2Proof.Machine.execUplinkInactive s
  | .fabricLinkDown lane => Sys2Proof.Machine.execFabricLinkDown lane s
  | .nodeLost node => Sys2Proof.Machine.execNodeLost node s
  | .managerLost => Sys2Proof.Machine.execManagerLost s
  | .epochBoundary => Sys2Proof.Machine.execEpochBoundary s
  | .commitWindowClose => Sys2Proof.Machine.execCommitWindowClose s
  | .boundaryIndexWrite stream => Sys2Proof.Machine.execBoundaryIndexWrite stream s
  | .fitRefresh stream => Sys2Proof.Machine.execFitRefresh stream s
  | .planFlip => Sys2Proof.Machine.execPlanFlip s
  | .bankDrainDone bank => Sys2Proof.Machine.execBankDrainDone bank s
  | .ptpSync domain seq twoStep origin correction rx => Sys2Proof.Machine.execPtpSync domain seq twoStep origin correction rx s
  | .followUp domain seq origin correction => Sys2Proof.Machine.execFollowUp domain seq origin correction s
  | .delayResp domain seq receive correction => Sys2Proof.Machine.execDelayResp domain seq receive correction s
  | .delayReq domain msg rx => Sys2Proof.Machine.execDelayReq domain msg rx s
  | .announce domain msg => Sys2Proof.Machine.execAnnounce domain msg s
  | .ptpMessageSend domain kind => Sys2Proof.Machine.execPtpMessageSend domain kind s
  | .announceTimeout domain => Sys2Proof.Machine.execAnnounceTimeout domain s
  | .syncTimeout domain => Sys2Proof.Machine.execSyncTimeout domain s
  | .revertHoldExpiry => Sys2Proof.Machine.execRevertHoldExpiry s
  | .slewEnd => Sys2Proof.Machine.execSlewEnd s
  | .ppsEdge => Sys2Proof.Machine.execPpsEdge s
  | .ppsMissing => Sys2Proof.Machine.execPpsMissing s
  | .tcForward port msg rx way => Sys2Proof.Machine.execTcForward port msg rx way s
  | .timeStartFire start => Sys2Proof.Machine.execTimeStartFire start s
  | .timeRecordInterval => Sys2Proof.Machine.execTimeRecordInterval s
  | .ethLinkChange port up => Sys2Proof.Machine.execEthLinkChange port up s
  | .evtEdge input falling taps => Sys2Proof.Machine.execEvtEdge input falling taps s
  | .stampTaken input => Sys2Proof.Machine.execStampTaken input s
  | .pairDecide input => Sys2Proof.Machine.execPairDecide input s
  | .tdcTableRebuild => Sys2Proof.Machine.execTdcTableRebuild s
  | .dllUnlock frame => Sys2Proof.Machine.execDllUnlock frame s
  | .dllRelock frame => Sys2Proof.Machine.execDllRelock frame s
  | .fcoPhaseStep output => Sys2Proof.Machine.execFcoPhaseStep output s
  | .ventStart vent source => Sys2Proof.Machine.execVentStart vent source s
  | .ventConversion vent code codeB => Sys2Proof.Machine.execVentConversion vent code codeB s
  | .thermalCheck sensors => Sys2Proof.Machine.execThermalCheck sensors s
  | .ovrRecoveryEnd vent => Sys2Proof.Machine.execOvrRecoveryEnd vent s
  | .nearmemMaintenance codes => Sys2Proof.Machine.execNearmemMaintenance codes s
  | .nearmemReadFail port address again => Sys2Proof.Machine.execNearmemReadFail port address again s
  | .porstNAssert => Sys2Proof.Machine.execPorstNAssert s
  | .porstNRelease provEn testMode i2c => Sys2Proof.Machine.execPorstNRelease provEn testMode i2c s
  | .wrstNAssert => Sys2Proof.Machine.execWrstNAssert s
  | .wrstNRelease => Sys2Proof.Machine.execWrstNRelease s
  | .bootStepDone step result => Sys2Proof.Machine.execBootStepDone step result s
  | .fuseProgram field => Sys2Proof.Machine.execFuseProgram field s
  | .pllUnlock pll trefAbsent => Sys2Proof.Machine.execPllUnlock pll trefAbsent s
  | .pllRelock pll => Sys2Proof.Machine.execPllRelock pll s
  | .nearmemLost => Sys2Proof.Machine.execNearmemLost s
  | .watchdog core pc => Sys2Proof.Machine.execWatchdog core pc s
  | .watchdogRestartDone digestOk => Sys2Proof.Machine.execWatchdogRestartDone digestOk s
  | .aliveToggle => Sys2Proof.Machine.execAliveToggle s
  | .hwThermalTrip => Sys2Proof.Machine.execHwThermalTrip s
  | .hostPortReset port kind => Sys2Proof.Machine.execHostPortReset port kind s
  | .hostLinkUp port => Sys2Proof.Machine.execHostLinkUp port s
  | .addressResolution dest mac => Sys2Proof.Machine.execAddressResolution dest mac s
  | .pcieLinkReturn port sub width rate lbaSize tiles volatileCache supported => Sys2Proof.Machine.execPcieLinkReturn port sub width rate lbaSize tiles volatileCache supported s
  | .powerUp => Sys2Proof.Machine.execPowerUp s
  | .powerDown => Sys2Proof.Machine.execPowerDown s
  | .dsPerstRelease port => Sys2Proof.Machine.execDsPerstRelease port s
  | .pcieConfigWrite port write => Sys2Proof.Machine.execPcieConfigWrite port write s
  | .ptpMessageIgnored port => Sys2Proof.Machine.execPtpMessageIgnored port s

end Sys2Proof.Machine
end

