-- ==== Sys2Proof/Safety.lean ====
section
/-! DEFINITION. What counts as a safe state, and the words that statements use: every byte memory in its canonical form,
a command that has its turn at core 0, and the state after its response. -/

namespace Sys2Proof.Machine

/-- Every byte memory of the state, and the cells of each density plane, are in canonical form (log entry 2: DESIGN CHOICE). -/
abbrev State.memoriesWf (s : State) : Prop :=
  (∀ p, (vget s.hostMem p).wf) ∧ (∀ p, (vget s.down.cxl p).wf) ∧ (∀ d, (vget s.down.drives d).data.wf) ∧
    s.down.near.data.wf ∧ (∀ p i, (vget (vget s.ports p).slots i).bytes.wf) ∧
    (∀ b, (s.bank b).coeffs.wf ∧ (s.bank b).pairs.wf ∧ (s.bank b).thresholds.wf ∧ (s.bank b).tables.wf) ∧
    ∀ p, (vget s.caldera.planes p).cells.Pairwise (fun a b => a.1 < b.1)

/-- A mailbox slot of a host port (18 R355). -/
def slotOf (p : PortId) (i : Fin 16) (s : State) : Slot := vget (s.port p).slots i

/-- The command that a doorbell posts from a slot: the slot's header and payload as they stand, recorded now, with the next
ORDER (18 R355, R356). -/
def slotCommand (p : PortId) (i : Fin 16) (s : State) : Cmd :=
  let bytes := (slotOf p i s).bytes
  { source := .slot p i, order := s.host.order, recorded := now s, seq := BitVec.ofNat 32 (memLe bytes 0 4)
    code := BitVec.ofNat 16 (memLe bytes 4 2), flags := BitVec.ofNat 16 (memLe bytes 6 2)
    length := BitVec.ofNat 16 (memLe bytes 8 2), payload := memRead bytes 0x20 (min (memLe bytes 8 2) 480) }

/-- The mailbox commands, each with the CODE, domain and request layout of the command table (19 R371, R374, R375);
`edid` stands for what the sink of DISPLAY_EDID supplies. -/
def mailboxRows (edid : List Byte) : List (Instr × CmdSpec) :=
  [(.devInfo, { fixedSpec 0x101 none [] with boot := fun _ => true }),
   (.devReset, fixedSpec 0x0102 (some 15) [whole 1]), (.paramGet, paramGetSpec), (.paramSet, paramSetSpec),
   (.semAcquire, { fixedSpec 0x105 none [whole 1] with boot := fun _ => true }),
   (.semRelease, { fixedSpec 0x106 none [whole 1] with boot := fun _ => true }),
   (.planLoad, fixedSpec 0x0201 (some 0) [whole 1, whole 8, whole 4]),
   (.planVerify, fixedSpec 0x0202 (some 0) [whole 1]),
   (.planCommit, fixedSpec 0x0203 (some 0) [whole 1, (1, 1), whole 8]),
   (.planQuery, { fixedSpec 0x0204 none [] with boot := fun _ => true }),
   (.streamStart, fixedSpec 0x0301 (some 1) [whole 1, whole 2]),
   (.streamResync, fixedSpec 0x0302 (some 1) [whole 1]), (.laneStatus, statusSpec 0x0303 2),
   (.viewStatus, statusSpec 0x0401 3), (.zoomStop, fixedSpec 0x0501 (some 4) [whole 1]),
   (.zoomLoad, fixedSpec 0x0502 (some 4) ([whole 1, whole 1, whole 1] ++ List.replicate 9 (whole 4))),
   (.zoomStart, fixedSpec 0x0503 (some 4) [whole 1]), (.zoomSync, fixedSpec 0x0504 (some 4) [whole 12]),
   (.zoomStatus, statusSpec 0x0505 4), (.geyserStop, fixedSpec 0x0601 (some 5) [whole 1]),
   (.geyserStart, fixedSpec 0x0602 (some 5) [whole 1]), (.geyserTrigger, fixedSpec 0x0603 (some 5) [whole 1]),
   (.geyserStatus, statusSpec 0x0604 5),
   (.captureRead, fixedSpec 0x0701 none [whole 1, whole 1, whole 4, whole 4, whole 4, whole 8]),
   (.captureRelease, fixedSpec 0x0702 (some 6) [whole 1, whole 4]),
   (.basinRecover, fixedSpec 0x0703 (some 6) [whole 1]), (.basinStatus, statusSpec 0x0704 6),
   (.archiveFormat, fixedSpec 0x0705 (some 6) [whole 1, whole 1, whole 1, whole 1, whole 4]),
   (.archiveAttach, fixedSpec 0x0706 (some 6) [whole 1, whole 1, whole 1]),
   (.archiveDetach, fixedSpec 0x0707 (some 6) [whole 1]),
   (.displayMode, fixedSpec 0x0801 (some 7) ([whole 1, whole 1, (1, 15), whole 4] ++ List.replicate 8 (whole 2))),
   (.displayStart, fixedSpec 0x0802 (some 7) [whole 1]), (.displayStop, fixedSpec 0x0803 (some 7) [whole 1]),
   (.displayEdid edid, fixedSpec 0x0804 none [whole 1]), (.calderaClear, fixedSpec 0x0805 (some 7) [whole 1]),
   (.calderaStatus, statusSpec 0x0806 7), (.displayStatus, statusSpec 0x0807 7),
   (.ringSetup, fixedSpec 0x0901 (some 8) [whole 1, whole 1, whole 1, whole 1, whole 4, whole 8]),
   (.ringTeardown, fixedSpec 0x0902 (some 8) [whole 1]),
   (.udpDestSet, fixedSpec 0x0903 (some 8) [whole 1, (1, 3), whole 1, whole 1, whole 2, whole 2, whole 2, whole 2, whole 16]),
   (.ptpConfig, fixedSpec 0xA01 (some 11) ([whole 1, whole 1, whole 1, whole 1, (1, 1)] ++ List.replicate 5 (whole 1) ++ [whole 2])),
   (.timeSource, fixedSpec 0xA02 (some 11) [whole 1, (1, 1), whole 1, whole 4]),
   (.timeSet, fixedSpec 0xA03 (some 11) [(1, 1), whole 12]),
   (.timeStart, fixedSpec 0xA04 (some 11) [whole 1, (1, 1), whole 1, whole 1, whole 4, whole 12]),
   (.tcConfig, fixedSpec 0xA05 (some 11) [(1, 1)]), (.timeStatus, singleSpec 0xA06 11),
   (.evtConfig, fixedSpec 0xB01 (some 12) (List.replicate 6 (whole 1) ++ List.replicate 3 (whole 2))),
   (.evtStatus, statusSpec 0xB02 12), (.fcoConfig, fixedSpec 0xB03 (some 12) [whole 1, whole 2]),
   (.fcoGate, fixedSpec 0xB04 (some 12) [whole 1, (1, 1)]), (.fcoStep, fixedSpec 0xB05 (some 12) fcoStepFields),
   (.fcoStatus, statusSpec 0xB06 12),
   (.fabricConfig, fixedSpec 0x0C01 (some 13) ([whole 1, whole 1] ++ List.replicate 12 (1, 0x7F) ++ [whole 4])),
   (.fabricStatus, statusSpec 0x0C02 13), (.fabricNodes, fixedSpec 0x0C03 none [whole 1, whole 1]),
   (.fabricTunnel, tunnelSpec), (.hkConfig, hkSpec), (.hkStart, fixedSpec 0xD02 (some 14) [whole 1]),
   (.hkRead, fixedSpec 0xD03 none (List.replicate 4 (whole 1))), (.hkStatus, statusSpec 0xD04 14),
   (.portMode, fixedSpec 0xE01 (some 9) [whole 1, whole 1, whole 1]), (.portStatus, statusSpec 0xE02 9),
   (.nearmemPasr, fixedSpec 0xE03 (some 9) [whole 1]), (.nearmemStatus, singleSpec 0xE04 9),
   (.dmaLoad, dmaLoadSpec), (.dmaStart, channelSpec 0xF02), (.dmaPause, channelSpec 0xF03),
   (.dmaResume, channelSpec 0xF04), (.dmaStop, channelSpec 0xF05), (.dmaStatus, statusSpec 0xF06 10),
   (.diagCounters, diagSpec)]

/-- The state in which core 0 has taken command `c` from the head of the serial order (18 R356, R359). -/
def taken (c : Cmd) (rest : List Cmd) (s : State) : State :=
  markExecuting c { s with host := { s.host with serial := rest } }

/-- Command `c` of this specification has its turn: it heads the serial order, the firmware runs, and its CODE is the
specification's (18 R359). -/
structure Turn (spec : CmdSpec) (c : Cmd) (rest : List Cmd) (s : State) : Prop where
  head : s.host.serial = c :: rest
  runs : firmware s = true
  code : c.code.toNat = spec.code

/-- A row's command `c` has its turn and passes the checks before its outcome table (18 R357, 19 R374). -/
def Ready (i : Instr) (c : Cmd) (rest : List Cmd) (s : State) : Prop :=
  ∃ edid spec, (i, spec) ∈ mailboxRows edid ∧ Turn spec c rest s ∧ precheck spec c (taken c rest s) = none

/-- The state in which `c` has its response and core 0 has gone on (18 R356, R357). -/
def answer (c : Cmd) (domain : Option (Fin 16)) (st : Status) (detail : Nat) (payload : List Byte) (s : State) : State :=
  drain (respond c domain { status := st, detail := detail, payload := payload } s)

/-- The state in which `c` awaits a later event with its domain's semaphore pinned (18 R359, R364). -/
def await (c : Cmd) (domain : Option (Fin 16)) (w : Wait) (s : State) : State := drain (conclude c domain (.wait w) s)

/-- The state in which a command that has waited has its response: none where a reset of its port discarded it; its pin has
ended, and a release held meanwhile has taken effect (18 R356, R364, R365). -/
def finished (d : Deferred) (r : Reply) (s : State) : State :=
  let s := if d.discard then s else respond d.cmd d.domain r s
  match d.pin with
  | some i => settle i s
  | none => s

/-- A fabric message that its link takes and that the node has not taken before (16 R317 to R321). -/
structure NewMessage (f : Fin 12) (m : FabricMsg) (s : State) : Prop where
  takes  : linkTakes s f m = true
  crc    : m.crcOk = true
  unseen : (m.src, seenClass s f m, m.mseq) ∉ s.fabric.seen

/-- The state in which the link has counted the message, if it waited for too long at its sender (16 R318). -/
def countedLate (f : Fin 12) (m : FabricMsg) (s : State) : State :=
  if forwardedLate (s.fabLane f) m then
    s.modFabLane f fun l => { l with fwdLate := satAdd l.fwdLate 1, flags := l.flags.raise 2 }
  else s

/-- The state in which the message is remembered besides (16 R321). -/
def noted (f : Fin 12) (m : FabricMsg) (s : State) : State := (takeOnce f m (countedLate f m s)).1

/-- The rows by which a fabric message comes in, each with what it takes (16 R320). -/
def receptionRows (f : Fin 12) (m : FabricMsg) (roundTrip : Nat) : List (Instr × Bool) :=
  let fire := fun k => match m.body with | .fire x => decide (x.kind = k) | _ => false
  [(.probe f m, match m.body with | .probe _ => true | _ => false),
   (.echo f m roundTrip, match m.body with | .echo _ => true | _ => false),
   (.heartbeat f m, match m.body with | .heartbeat .. => true | _ => false),
   (.epochMark f m, match m.body with | .epochMark _ => true | _ => false),
   (.join f m, match m.body with | .join .. => true | _ => false),
   (.joinAck f m, match m.body with | .joinAck .. => true | _ => false),
   (.fabricArm f m, match m.body with | .arm .. => true | _ => false),
   (.fabricSync f m, match m.body with | .sync _ => true | _ => false),
   (.fabricFire f m, fire .fire), (.fireProvisional f m, fire .provisional), (.confirm f m, fire .confirm),
   (.retract f m, fire .retract), (.recordFrag f m, match m.body with | .recordFrag .. => true | _ => false),
   (.tunnelCmd f m, match m.body with | .tunnelCmd .. => true | _ => false),
   (.tunnelRsp f m, match m.body with | .tunnelRsp .. => true | _ => false),
   (.tunnelData f m, match m.body with | .tunnelData .. => true | _ => false)]

/-- A status command: its domain, number of units and entry size, what it does before it answers, and its head, entries and
clear (19 R375, R377). -/
structure StatusRow where
  cmd    : Instr
  domain : Fin 16
  units  : Nat
  size   : Nat
  before : State → State
  head   : State → List Byte
  entry  : State → Nat → List Byte
  clear  : Nat → Nat → State → State

/-- The status commands of more than one unit (19 R377). -/
def statusRows : List StatusRow :=
  [{ cmd := .laneStatus, domain := 2, units := 46, size := 32, before := id, head := fun _ => [], entry := laneEntry, clear := laneClear },
   { cmd := .viewStatus, domain := 3, units := 64, size := 32, before := id, head := fun _ => [], entry := viewEntry, clear := viewClear },
   { cmd := .zoomStatus, domain := 4, units := 32, size := 32, before := id, head := fun _ => [], entry := zoomEntry, clear := zoomClear },
   { cmd := .geyserStatus, domain := 5, units := 16, size := 32, before := id, head := fun _ => [], entry := seqEntry, clear := seqClear },
   { cmd := .basinStatus, domain := 6, units := 16, size := 32, before := id, head := fun _ => [], entry := basinEntry, clear := basinClear },
   { cmd := .calderaStatus, domain := 7, units := 2, size := 32, before := id, head := fun _ => [], entry := calderaEntry, clear := calderaClearStatus },
   { cmd := .displayStatus, domain := 7, units := 2, size := 32, before := id, head := fun _ => [], entry := displayEntry, clear := displayClear },
   { cmd := .portStatus, domain := 9, units := 4, size := 32, before := id, head := fun _ => [], entry := portEntry, clear := portClear },
   { cmd := .dmaStatus, domain := 10, units := 32, size := 64, before := id, head := fun _ => [], entry := dmaStatusEntry, clear := dmaClear },
   { cmd := .evtStatus, domain := 12, units := 16, size := 32, before := id, head := fun _ => [], entry := evtEntry
     clear := fun n m s => match unit 16 n with
       | none => s
       | some i => s.modIn i fun x =>
         { x with flags := x.flags.statusClear m, suppressed := 0, lost := 0, peak := 0 } },
   { cmd := .fcoStatus, domain := 12, units := 8, size := 32, before := settleFcos, head := fun _ => [], entry := fcoEntry
     clear := fun n m s => match unit 8 n with
       | none => s
       | some i => s.modFco i fun f => { f with flags := f.flags.statusClear m } },
   { cmd := .fabricStatus, domain := 13, units := 12, size := 32, before := id, head := fabricHead, entry := fabricEntry, clear := fabricClear },
   { cmd := .hkStatus, domain := 14, units := 2, size := 32, before := id, head := fun _ => [], entry := hkEntryBytes
     clear := fun n m s => match unit 2 n with
       | none => s
       | some v => s.modVent v fun x => { x with flags := x.flags.statusClear m, trigLost := 0, aborts := 0 } }]

end Sys2Proof.Machine
end

