-- ==== Sys2Proof/Certificates/Slice0/Obligations.lean ====
section
/-! DEFINITION. The statements for the provers: what the block's step does, what each command leaves, and what no command
changes. Each docstring names the rules; a clause that rests on a choice of the model names its log entry. -/

open Sys2Proof Sys2Proof.Machine


/-- A step takes the command at the front of the queue and runs it with the queue's rest. -/
def Obligations.StepTakesFront : Prop :=
  ∀ (c : Instr) (rest : List Instr) (s : State), s.pending = c :: rest →
    step s = exec c { s with pending := rest }

/-- Every command of the table has an effect in every state: none stops the block. -/
def Obligations.EveryCommandCompletes : Prop := ∀ (c : Instr) (s : State), ∃ t, exec c s = .next t

/-- DOORBELL by one port (18 R356 to R358): a value that names a FREE or DONE slot posts it: the slot is POSTED, every
other slot of both ports stays, the command joins the end of the serial order with the next ORDER and with the fields the
slot holds; core 0 then goes on. A value of 16 or more, and a slot that is POSTED or EXECUTING, change nothing but
DOORBELL_REJECT. At a port whose link is down nothing happens. -/
def Claim.DoorbellPostsASlot : Prop :=
  ∀ (p : PortId) (v : U32) (other : Option U32) (again : Bool) (s : State),
    (reachable p s = false → exec (.doorbell p v other again) s = .next s) ∧
    (reachable p s = true → (other = none ∨ reachable (peer p) s = false) →
      (∀ i : Fin 16, v.toNat = i.val → ((slotOf p i s).state = .free ∨ (slotOf p i s).state = .done) →
        ∃ t, exec (.doorbell p v other again) s = .next (drain t) ∧
          slotOf p i t = { slotOf p i s with state := .posted } ∧
          (∀ j, j ≠ i → slotOf p j t = slotOf p j s) ∧ (∀ j, slotOf (peer p) j t = slotOf (peer p) j s) ∧
          t.host.order = s.host.order + 1 ∧ t.host.serial = s.host.serial ++ [slotCommand p i s]) ∧
      (16 ≤ v.toNat → exec (.doorbell p v other again) s = .next (drain (raiseHost p .doorbellReject s))) ∧
      (∀ i : Fin 16, v.toNat = i.val → ((slotOf p i s).state = .posted ∨ (slotOf p i s).state = .executing) →
        exec (.doorbell p v other again) s = .next (drain (raiseHost p .doorbellReject s))))

/-- The tie token (18 R358): of two doorbells in one cycle the token's port, as the token stood when the cycle began,
posts first, 0 standing for Port A; each is posted or refused as on its own; the token inverts once per cycle. -/
def Claim.DoorbellTies : Prop :=
  ∀ (p : PortId) (v w : U32) (again : Bool) (s : State), reachable p s = true → reachable (peer p) s = true →
    let first : PortId := if tieNow again s then 1 else 0
    ∃ t, exec (.doorbell p v (some w) again) s = .next (drain t) ∧
      exec (.doorbell (peer p) w (some v) again) s = .next (drain t) ∧
      t.host.tieToken = (if again then s.host.tieToken else !s.host.tieToken) ∧
      (∀ i j : Fin 16, v.toNat = i.val → w.toNat = j.val →
        ((slotOf p i s).state = .free ∨ (slotOf p i s).state = .done) →
        ((slotOf (peer p) j s).state = .free ∨ (slotOf (peer p) j s).state = .done) →
        (slotOf p i t).state = .posted ∧ (slotOf (peer p) j t).state = .posted ∧
        t.host.serial = s.host.serial ++
          (if first = p then [slotCommand p i s, { slotCommand (peer p) j s with order := s.host.order + 1 }]
           else [slotCommand (peer p) j s, { slotCommand p i s with order := s.host.order + 1 }])) ∧
      (∀ i : Fin 16, v.toNat = i.val → ((slotOf p i s).state = .free ∨ (slotOf p i s).state = .done) →
        (16 ≤ w.toNat ∨ ∃ j : Fin 16, w.toNat = j.val ∧
          ((slotOf (peer p) j s).state = .posted ∨ (slotOf (peer p) j s).state = .executing)) →
        (slotOf p i t).state = .posted ∧ t.host.serial = s.host.serial ++ [slotCommand p i s] ∧
        (t.port (peer p)).flags = (s.port (peer p)).flags.raise HostFlag.doorbellReject.bitOf)

/-- Doorbells post slots, and ties are broken by the token: the claims above, together. -/
def Obligations.Doorbells : Prop :=
  Claim.DoorbellPostsASlot ∧ Claim.DoorbellTies

/-- SLOT_WRITE (18 R352, R355, R357): a write of 4 or 8 bytes to a FREE or DONE slot leaves in the slot's bytes it covers,
where host software writes them (offsets 0x00 to 0x09 and from 0x20 on), the bytes of the value, and every other byte of
the slot, its state and every other slot as before; while the slot is POSTED or EXECUTING it changes nothing but
SLOT_BUSY_WRITE, once for each word. -/
def Claim.SlotWriteStores : Prop :=
  ∀ (p : PortId) (i : Fin 16) (k : Nat) (wide : Bool) (v : U64) (s : State), reachable p s = true → k < 512 →
    k % (if wide then 8 else 4) = 0 →
    let off := 0x4000 + 512 * i.val + k
    (((slotOf p i s).state = .free ∨ (slotOf p i s).state = .done) → (slotOf p i s).bytes.wf →
      ∃ t, exec (.slotWrite p off wide v) s = .next t ∧
        (∀ x, x < 512 → memLe (slotOf p i t).bytes x 1 =
          if k ≤ x ∧ x < k + (if wide then 8 else 4) ∧ (x < 10 ∨ 32 ≤ x) then v.toNat / 256 ^ (x - k) % 256
          else memLe (slotOf p i s).bytes x 1) ∧
        (slotOf p i t).state = (slotOf p i s).state ∧ ∀ j, j ≠ i → slotOf p j t = slotOf p j s) ∧
    (((slotOf p i s).state = .posted ∨ (slotOf p i s).state = .executing) →
      exec (.slotWrite p off wide v) s =
        .next (if wide then raiseHost p .slotBusyWrite (raiseHost p .slotBusyWrite s) else raiseHost p .slotBusyWrite s))

/-- UNMAPPED_ACCESS (18 R352): an access of a width other than 4 or 8 bytes, or not aligned to its width, raises UNMAPPED,
writes nothing and reads 0. A legal write raises UNMAPPED once for each unassigned word; a legal read of unassigned words
returns 0 and raises nothing. -/
def Claim.UnmappedAccesses : Prop :=
  ∀ (p : PortId) (off w : Nat) (s : State), reachable p s = true →
    let zero := s.modPort p fun h => { h with lastRead := 0 }
    (legalAccess off w = false → exec (.unmappedAccess p off w true) s = .next (raiseHost p .unmapped s) ∧
      exec (.unmappedAccess p off w false) s = .next (raiseHost p .unmapped zero)) ∧
    (off % 4 = 0 → assigned off = false → exec (.unmappedAccess p off 4 true) s = .next (raiseHost p .unmapped s) ∧
      exec (.unmappedAccess p off 4 false) s = .next zero) ∧
    (off % 8 = 0 → assigned off = false → assigned (off + 4) = false →
      exec (.unmappedAccess p off 8 true) s = .next (raiseHost p .unmapped (raiseHost p .unmapped s)) ∧
      exec (.unmappedAccess p off 8 false) s = .next zero)

/-- Flags of a host port (00 R9, R10; 18 R354): a write to HOST_FLAGS clears the flags whose bits are ones and leaves the
counters; reading HOST_OCC returns and clears the counters of flags 0 to 3, HOST_OCC2 those of flags 4 to 7. -/
def Claim.HostFlagsClear : Prop :=
  ∀ (p : PortId) (v : U64) (s : State), reachable p s = true →
    exec (.registerWrite p 0x10 false v) s = .next (s.modPort p fun h =>
      { h with flags := { h.flags with now := h.flags.now &&& ~~~ v.truncate 8 } }) ∧
    ∀ second : Bool, ∃ t, exec (.hostOccRead p second) s = .next t ∧
      (t.port p).flags.now = (s.port p).flags.now ∧
      (t.port p).lastRead = BitVec.ofNat 64 (ofLe (((s.port p).flags.occ.toList.drop (if second then 4 else 0)).take 4)) ∧
      ∀ i : Fin 8, vget (t.port p).flags.occ i =
        if (4 ≤ i.val) = (second = true) then 0 else vget (s.port p).flags.occ i

/-- REGISTER_WRITE (18 R351, R352, 00 R9): a legal write of 4 bytes to an assigned word acts as the row of the register
that stands there (the doorbell, EV_TAIL, a semaphore, CONSUMED, a slot, the MSI-X table), or it clears HOST_FLAGS or
sets EV_IRQ_HOLDOFF, or, where the register only reads, it changes nothing; one of 8 bytes to two assigned words is the
write of its low word and then that of its high word. -/
def Claim.RegisterWrites : Prop :=
  ∀ (p : PortId) (v : U64) (s : State), reachable p s = true →
    (exec (.registerWrite p 0x18 false v) s = exec (.doorbell p (v.truncate 32) none false) s) ∧
    (exec (.registerWrite p 0x24 false v) s = exec (.evTailWrite p (v.truncate 32)) s) ∧
    (exec (.registerWrite p 0x2C false v) s = .next (s.modPort p fun h => { h with irqHoldoff := v.truncate 32 })) ∧
    (∀ i : Fin 64, exec (.registerWrite p (0x100 + 4 * i.val) false v) s = exec (.semWrite p i false) s) ∧
    (∀ r : Fin 16, exec (.registerWrite p (0x300 + 4 * r.val) false v) s = exec (.consumedWrite p r (v.truncate 32)) s) ∧
    (∀ off, 0x4000 ≤ off → off < 0x6000 → off % 4 = 0 →
      exec (.registerWrite p off false v) s = exec (.slotWrite p off false v) s) ∧
    (∀ off, 0x6000 ≤ off → off < 0x6200 → off % 4 = 0 →
      exec (.registerWrite p off false v) s = exec (.msixTableWrite p off false v) s) ∧
    (∀ off, off ∈ [0x00, 0x04, 0x08, 0x0C, 0x14, 0x1C, 0x20, 0x28, 0x30, 0x7000, 0x7004] ∨ (0x200 ≤ off ∧ off < 0x220 ∧ off % 4 = 0) ∨
        (0x1000 ≤ off ∧ off < 0x3000 ∧ off % 4 = 0) → exec (.registerWrite p off false v) s = .next s) ∧
    (∀ off, off % 8 = 0 → assigned off = true → assigned (off + 4) = true →
      ∃ t, exec (.registerWrite p off false v) s = .next t ∧
        exec (.registerWrite p off true v) s = exec (.registerWrite p (off + 4) false (v >>> 32)) t)

/-- The management target (22 R431): a read at its address returns the bytes of its registers from the offset on, in order:
IDENT at 0x00, DEV_STATE at 0x04 (its bits 5 and 7 left open: log entry 1: DESIGN CHOICE), TEMP_MAX at 0x08, the core setpoint
at 0x0C and the fault count at 0x10; a write, an access at another address, and one without power, in reset or during a
thermal hold have no effect. -/
def Claim.ManagementTarget : Prop :=
  ∀ (addr off count : Nat) (s : State),
    (s.dev.powered = true → s.dev.porstN = true → s.dev.tripHold = false → addr = 0x60 + s.dev.i2cAddr.toNat →
      ∃ t bs, exec (.i2cTransaction addr off false count) s = .next t ∧ t.out = .i2cRead bs :: s.out ∧ bs.length = count ∧
        t.dev = s.dev ∧ t.ports = s.ports ∧ t.host = s.host ∧
        ∀ k, k < count →
          (off + k < 4 → bs.getD k 0 = (toLe 4 0x1E7B1640).getD (off + k) 0) ∧
          (off + k = 4 → (bs.getD k 0).toNat % 32 = devStateBase s % 32 ∧ bit 6 (bs.getD k 0).toNat = s.host.tieToken) ∧
          (5 ≤ off + k → off + k < 8 → bs.getD k 0 = 0) ∧
          (8 ≤ off + k → off + k < 12 → bs.getD k 0 = (word s.dev.tempMax.toNat).getD (off + k - 8) 0) ∧
          (12 ≤ off + k → off + k < 16 → bs.getD k 0 = (word s.dev.coreSetpoint).getD (off + k - 12) 0) ∧
          (16 ≤ off + k → off + k < 20 → bs.getD k 0 = (word s.dev.faultCount.toNat).getD (off + k - 16) 0)) ∧
    ((s.dev.powered = false ∨ s.dev.porstN = false ∨ s.dev.tripHold = true ∨ addr ≠ 0x60 + s.dev.i2cAddr.toNat) →
      exec (.i2cTransaction addr off false count) s = .next s) ∧
    exec (.i2cTransaction addr off true count) s = .next s

/-- Slot writes, unassigned offsets, register writes, host flags and the management target: the claims above, together. -/
def Obligations.HostRegisters : Prop :=
  Claim.SlotWriteStores ∧ Claim.UnmappedAccesses ∧ Claim.HostFlagsClear ∧ Claim.RegisterWrites ∧ Claim.ManagementTarget

/-- Semaphores by register (18 R362): a read acquires a free semaphore for the port and returns its owner code; a read of
a held one returns the holder's; the owner's write releases it, at once where no command pins it and otherwise held; any
other write changes nothing but SEM_FOREIGN_WRITE. -/
def Claim.SemaphoreRegisters : Prop :=
  ∀ (p : PortId) (i : Fin 64) (s : State), reachable p s = true →
    (semOwner s i = none → ∃ t, exec (.semRead p i false 0 false) s = .next t ∧ semOwner t i = some (portOwner p) ∧
      (t.port p).lastRead = BitVec.ofNat 64 (portOwner p).code ∧ ∀ j, j ≠ i → semOwner t j = semOwner s j) ∧
    (∀ o, semOwner s i = some o → ∃ t, exec (.semRead p i false 0 false) s = .next t ∧
      (t.port p).lastRead = BitVec.ofNat 64 o.code ∧ ∀ j, semOwner t j = semOwner s j) ∧
    (semOwner s i = some (portOwner p) → pinned s i = false →
      ∃ t, exec (.semWrite p i false) s = .next t ∧ semOwner t i = none ∧ ∀ j, j ≠ i → semOwner t j = semOwner s j) ∧
    (semOwner s i = some (portOwner p) → pinned s i = true →
      ∃ t, exec (.semWrite p i false) s = .next t ∧ (∀ j, semOwner t j = semOwner s j) ∧ vget t.host.held i = true) ∧
    (semOwner s i ≠ some (portOwner p) → exec (.semWrite p i false) s = .next (raiseHost p .semForeignWrite s))

/-- SEM_ACQUIRE and SEM_RELEASE (18 R366): they act as a read and a release by the command's sender. -/
def Claim.SemaphoreCommands : Prop :=
  ∀ (c : Cmd) (rest : List Cmd) (i : Fin 64) (s : State), c.u 0 1 = i.val →
    let t := taken c rest s
    (Ready .semAcquire c rest s → semOwner t i = none →
      exec .semAcquire s = .next (answer c none .ok 0 [BitVec.ofNat 8 c.source.owner.code] (setSem i (some c.source.owner) t))) ∧
    (∀ o, Ready .semAcquire c rest s → semOwner t i = some o →
      exec .semAcquire s = .next (answer c none .ok 0 [BitVec.ofNat 8 o.code] t)) ∧
    (Ready .semRelease c rest s → semOwner t i = some c.source.owner → pinned t i = false →
      exec .semRelease s = .next (answer c none .ok 0 [] (setSem i none t))) ∧
    (Ready .semRelease c rest s → semOwner t i ≠ some c.source.owner →
      exec .semRelease s = .next (answer c none .notOwner (ownerCode (semOwner t i)) [] t))

/-- Semaphores by register and by command: the claims above, together. -/
def Obligations.Semaphores : Prop :=
  Claim.SemaphoreRegisters ∧ Claim.SemaphoreCommands

/-- CONSUMED (18 R353): the port that RING_SETUP named writes it; the other port's write changes nothing but
CONSUMED_FOREIGN; both ports read the value last written; a ring that is not set up reads 0 and ignores writes. -/
def Obligations.ConsumedRegister : Prop :=
  ∀ (p : PortId) (r : Fin 16) (v : U32) (s : State), reachable p s = true →
    ((vget s.records.rings r).isUp = true → (vget s.records.rings r).port = p →
      ∃ t, exec (.consumedWrite p r v) s = .next t ∧ (∀ q, barWord q (0x300 + 4 * r.val) t = v.toNat) ∧
        vget t.records.rings r = { vget s.records.rings r with consumed := v } ∧
        ∀ j, j ≠ r → vget t.records.rings j = vget s.records.rings j) ∧
    ((vget s.records.rings r).isUp = true → (vget s.records.rings r).port ≠ p →
      exec (.consumedWrite p r v) s = .next (raiseHost p .consumedForeign s)) ∧
    ((vget s.records.rings r).isUp = true → ∀ q, barWord q (0x300 + 4 * r.val) s = (vget s.records.rings r).consumed.toNat) ∧
    ((vget s.records.rings r).isUp = false →
      exec (.consumedWrite p r v) s = .next s ∧ ∀ q, barWord q (0x300 + 4 * r.val) s = 0)

/-- The event ring's registers (18 R368): EV_TAIL takes a value from its present one up to EV_HEAD and ignores any other,
raising TAIL_INVALID; reading EV_LOST returns and clears it. -/
def Claim.EventRingRegisters : Prop :=
  ∀ (p : PortId) (v : U32) (s : State), reachable p s = true →
    ((v - (s.port p).evTail).toNat ≤ ((s.port p).evHead - (s.port p).evTail).toNat →
      exec (.evTailWrite p v) s = .next (s.modPort p fun h => { h with evTail := v })) ∧
    (((s.port p).evHead - (s.port p).evTail).toNat < (v - (s.port p).evTail).toNat →
      exec (.evTailWrite p v) s = .next (raiseHost p .tailInvalid s)) ∧
    exec (.evLostRead p) s =
      .next (s.modPort p fun h => { h with evLost := 0, lastRead := BitVec.ofNat 64 h.evLost.toNat })

/-- EV_IRQ_HOLDOFF_EXPIRY (18 R370): once the holdoff has passed since the last vector-0 message, one message announces the
entries written meanwhile: it goes out, or it is held pending while vector 0 or the function is masked; with no entry
waiting, or before that time, nothing happens. -/
def Claim.EventHoldoff : Prop :=
  ∀ (p : PortId) (s : State),
    let h := s.port p
    (h.v0Waiting = true → (∀ t0, h.lastV0 = some t0 → t0 + h.irqHoldoff.toNat * Config.usUnits ≤ now s) →
      h.linkUp = true → h.msixEnable = true →
      ∃ t, exec (.evIrqHoldoffExpiry p) s = .next t ∧ (t.port p).v0Waiting = false ∧ (t.port p).lastV0 = some (now s) ∧
        (h.funcMask = false ∧ (vget h.msix 0).ctrl = 0 → t.out = .msix p 0 :: s.out ∧ (t.port p).pba = h.pba) ∧
        (h.funcMask = true ∨ (vget h.msix 0).ctrl = 1 → t.out = s.out ∧ (t.port p).pba = h.pba ||| 1)) ∧
    (h.v0Waiting = false → exec (.evIrqHoldoffExpiry p) s = .next s) ∧
    (∀ t0, h.lastV0 = some t0 → now s < t0 + h.irqHoldoff.toNat * Config.usUnits →
      exec (.evIrqHoldoffExpiry p) s = .next s)

/-- MSI-X and Max_Payload_Size (18 R350, R370): a 4-byte write to the table sets the word of the vector it names (of the
control word the mask bit alone), and an 8-byte write two; every message then held pending whose vector and function are
unmasked goes out once, lowest vector first, and its pending bit clears; the same follows a write of the function's enable
and mask. A Max_Payload_Size of 128, 256 or 512 is taken, any other is not. -/
def Claim.MsixUnmaskSends : Prop :=
  ∀ (p : PortId) (v : Fin 32) (s : State), reachable p s = true →
    (∀ x : U64, ∃ t u w, exec (.msixTableWrite p (0x6000 + 16 * v.val) true x) s = .next t ∧ vget (t.port p).msix v =
        { vget (s.port p).msix v with addr := x } ∧
      exec (.msixTableWrite p (0x6000 + 16 * v.val + 8) false x) s = .next u ∧ vget (u.port p).msix v =
        { vget (s.port p).msix v with data := x.truncate 32 } ∧
      exec (.msixTableWrite p (0x6000 + 16 * v.val + 12) false x) s = .next w ∧ vget (w.port p).msix v =
        { vget (s.port p).msix v with ctrl := x.truncate 32 &&& 1 } ∧
      ∀ j, j ≠ v → vget (t.port p).msix j = vget (s.port p).msix j ∧ vget (u.port p).msix j = vget (s.port p).msix j ∧
        vget (w.port p).msix j = vget (s.port p).msix j) ∧
    (∃ t, exec (.msixTableWrite p (0x6000 + 16 * v.val + 12) false 0) s = .next t ∧
      ((s.port p).msixEnable = true → (s.port p).funcMask = false →
        (∀ j, j ≠ v → (vget (s.port p).msix j).ctrl = 1 ∨ bit j.val (s.port p).pba.toNat = false) →
        (bit v.val (s.port p).pba.toNat = true → t.out = .msix p v :: s.out) ∧
        (bit v.val (s.port p).pba.toNat = false → t.out = s.out) ∧ bit v.val (t.port p).pba.toNat = false)) ∧
    (∀ enable mask, ∃ t, exec (.pcieConfigWrite p (.msixControl enable mask)) s = .next t ∧
      (t.port p).msixEnable = enable ∧ (t.port p).funcMask = mask ∧
      ((enable = false ∨ mask = true) → t.out = s.out ∧ (t.port p).pba = (s.port p).pba) ∧
      (enable = true → mask = false →
        t.out = (((List.finRange 32).filter fun j : Fin 32 => bit j.val (s.port p).pba.toNat && !bit 0 (vget (s.port p).msix j).ctrl.toNat).map
          fun j : Fin 32 => Out.msix p j).reverse ++ s.out ∧
        ∀ j : Fin 32, bit j.val (t.port p).pba.toNat =
          (bit j.val (s.port p).pba.toNat && bit 0 (vget (s.port p).msix j).ctrl.toNat))) ∧
    (∀ b, exec (.pcieConfigWrite p (.maxPayload b)) s =
      .next (if b = 128 ∨ b = 256 ∨ b = 512 then s.modPort p fun h => { h with maxPayload := b } else s))

/-- The event ring, its holdoff and MSI-X: the claims above, together. -/
def Obligations.EventRing : Prop :=
  Claim.EventRingRegisters ∧ Claim.EventHoldoff ∧ Claim.MsixUnmaskSends

/-- A port's link (18 R350, R365): training brings it up, and the writes that wait for it go out (13 R258; log entry 35: DEDUCED:
DEDUCED); the loss of the port frees its slots, masks its vectors, releases every semaphore of the port and discards its
waiting commands; a Function Level Reset does the same and leaves the link up. -/
def Obligations.HostPortLinkAndReset : Prop :=
  ∀ (p : PortId) (s : State),
    (portsAllowed s = true → ∃ t, exec (.hostLinkUp p) s = .next t ∧ (t.port p).linkUp = true ∧
      (∀ q, q ≠ p → t.port q = s.port q) ∧ ((∀ c, (s.dma c).unsent = []) → t = s.modPort p fun h => { h with linkUp := true })) ∧
    (portsAllowed s = false → exec (.hostLinkUp p) s = .next s) ∧
    (∀ kind, reachable p s = true → ∃ t, exec (.hostPortReset p kind) s = .next (drain t) ∧
      (t.port p).linkUp = decide (kind = .functionLevelReset) ∧ (∀ i, slotOf p i t = Slot.reset) ∧
      (∀ v, (vget (t.port p).msix v).ctrl = 1) ∧ (∀ i, semOwner t i ≠ some (portOwner p)) ∧
      (∀ i o, o ≠ portOwner p → semOwner s i = some o → semOwner t i = some o) ∧
      (∀ c ∈ t.host.serial, ∀ n, c.source ≠ .slot p n) ∧
      ∀ c ∈ s.host.serial, (∀ n, c.source ≠ .slot p n) → c ∈ t.host.serial)

/-- The mailbox rows' turn (18 R357, R359; 19 R374): a row does nothing while the serial order is empty, its head has
another CODE, or the firmware does not run; a command that its checks refuse is answered with what they name and changes
nothing else. -/
def Claim.MailboxChecksFirst : Prop :=
  ∀ (edid : List Byte) (e : Instr × CmdSpec), e ∈ mailboxRows edid → ∀ (s : State),
    (s.host.serial = [] → exec e.1 s = .next s) ∧
    (∀ c rest, s.host.serial = c :: rest → (c.code.toNat ≠ e.2.code ∨ firmware s = false) → exec e.1 s = .next s) ∧
    (∀ c rest d st x, Turn e.2 c rest s → precheck e.2 c (taken c rest s) = some (d, st, x) →
      exec e.1 s = .next (answer c d st x [] (taken c rest s)))

/-- The order of those checks (18 R357, 19 R374): REQ_LENGTH, FLAGS and a tunnelled host address; BOOT, FAULT and a full boot
after a bad firmware copy (21 R414 to R416; log entry 69: DEDUCED); the request's length; its reserved bits; the domain's
semaphore, of which the response names the domain and the owner. -/
def Claim.CheckOrder : Prop :=
  ∀ (spec : CmdSpec) (c : Cmd) (s : State),
    let boots := s.dev.state = .boot ∨ s.dev.state = .fault ∨ s.dev.bootStep ≠ 0
    ((480 < c.length.toNat ∨ 1 < c.flags.toNat ∨ foreignHost c = true) →
      precheck spec c s = some (none, .badParam, 0)) ∧
    (c.length.toNat ≤ 480 → c.flags.toNat ≤ 1 → foreignHost c = false →
      (boots → spec.boot c = false → precheck spec c s = some (none, .notReady, 0)) ∧
      ((spec.boot c = true ∨ ¬boots) →
        (c.length.toNat ≠ spec.length c → precheck spec c s = some (none, .badParam, spec.length c)) ∧
        (c.length.toNat = spec.length c →
          (∀ o, reservedBad c 0 (spec.fields c) = some o → precheck spec c s = some (none, .badParam, o)) ∧
          (reservedBad c 0 (spec.fields c) = none →
            (∀ d, spec.domain c = some d → semOwner s (domainSem d) ≠ some c.source.owner →
              precheck spec c s = some (some d, .notOwner, ownerCode (semOwner s (domainSem d)))) ∧
            (∀ d, spec.domain c = some d → semOwner s (domainSem d) = some c.source.owner → precheck spec c s = none) ∧
            (spec.domain c = none → precheck spec c s = none)))))

/-- A CODE outside the command table (18 R357): core 0 completes the command with BAD_PARAM and goes on to the next. -/
def Claim.UnknownCodesComplete : Prop :=
  ∀ (c : Cmd) (rest : List Cmd) (s : State), s.host.serial = c :: rest → firmware s = true →
    commandCodes.contains c.code.toNat = false →
    drain s = drain (respond c none { status := .badParam, detail := 0, payload := [] }
      { s with host := { s.host with serial := rest } })

/-- The mailbox rows take their turn after the checks in their order: the claims above, together. -/
def Obligations.MailboxChecks : Prop :=
  Claim.MailboxChecksFirst ∧ Claim.CheckOrder ∧ Claim.UnknownCodesComplete

/-- The commands of BOOT (21 R414): DEV_INFO, PARAM_GET, SEM_ACQUIRE, SEM_RELEASE, PLAN_QUERY, TIME_STATUS, NEARMEM_STATUS and
DIAG_COUNTERS, the last three without a clear, pass the check of the state; every other command completes with NOT_READY;
a doorbell rung before the firmware runs leaves its slot POSTED. -/
def Obligations.BootCommands : Prop :=
  (∀ (edid : List Byte) (e : Instr × CmdSpec), e ∈ mailboxRows edid → ∀ (c : Cmd) (rest : List Cmd) (s : State),
    Turn e.2 c rest s → s.dev.state = .boot → c.length.toNat ≤ 480 → c.flags.toNat ≤ 1 → foreignHost c = false →
    let decided := e.1 = .devInfo ∨ e.1 = .paramGet ∨ e.1 = .semAcquire ∨ e.1 = .semRelease ∨ e.1 = .planQuery ∨
      ((e.1 = .timeStatus ∨ e.1 = .nearmemStatus) ∧ bit 0 (c.u 0 1) = false) ∨ (e.1 = .diagCounters ∧ bit 0 (c.u 1 1) = false)
    (decided → ∀ d x, precheck e.2 c (taken c rest s) ≠ some (d, .notReady, x)) ∧
    (¬decided → exec e.1 s = .next (answer c none .notReady 0 [] (taken c rest s)))) ∧
  (∀ (p : PortId) (i : Fin 16) (v : U32) (again : Bool) (s : State), reachable p s = true → firmware s = false → v.toNat = i.val →
    (slotOf p i s).state = .free → ∃ t, exec (.doorbell p v none again) s = .next t ∧ (slotOf p i t).state = .posted)

/-- A response (18 R355, R356): the slot is DONE and holds the payload, RSP_LENGTH, the domain or 31, STATUS, DETAIL, SEQ and
ORDER of its command; its payload bytes beyond the response and its request header stay; no other slot changes. -/
def Claim.ResponseFillsTheSlot : Prop :=
  ∀ (c : Cmd) (domain : Option (Fin 16)) (r : Reply) (p : PortId) (i : Fin 16) (s : State),
    c.source = .slot p i → (slotOf p i s).bytes.wf → r.payload.length ≤ 480 → r.detail < 65536 →
    let sl := slotOf p i (respond c domain r s)
    sl.state = .done ∧ memRead sl.bytes 0x20 r.payload.length = r.payload ∧ memLe sl.bytes 0x0A 2 = r.payload.length ∧
    memLe sl.bytes 0x0C 4 = (domain.map (·.val)).getD 31 ∧ memLe sl.bytes 0x10 2 = r.status.code ∧
    memLe sl.bytes 0x12 2 = r.detail ∧ memLe sl.bytes 0x14 4 = c.seq.toNat ∧ memLe sl.bytes 0x18 8 = c.order.toNat ∧
    memRead sl.bytes 0 0x0A = memRead (slotOf p i s).bytes 0 0x0A ∧
    (∀ x, 0x20 + r.payload.length ≤ x → memGet sl.bytes x = memGet (slotOf p i s).bytes x) ∧
    ∀ j, j ≠ i → slotOf p j (respond c domain r s) = slotOf p j s

/-- A response with FLAGS bit 0 of the command sends vector 1 of the port (18 R356, R370). -/
def Claim.ResponseInterrupt : Prop :=
  ∀ (c : Cmd) (domain : Option (Fin 16)) (r : Reply) (p : PortId) (i : Fin 16) (s : State), c.source = .slot p i →
    (s.port p).linkUp = true → (s.port p).msixEnable = true → (s.port p).funcMask = false →
    (vget (s.port p).msix 1).ctrl = 0 →
    (c.flags.toNat = 1 → (respond c domain r s).out = .msix p 1 :: s.out) ∧
    (c.flags.toNat = 0 → (respond c domain r s).out = s.out)

/-- A response fills its slot and sends its interrupt: the claims above, together. -/
def Obligations.Responses : Prop :=
  Claim.ResponseFillsTheSlot ∧ Claim.ResponseInterrupt

/-- DEV_INFO and PLAN_QUERY (19 R375, R380): each changes nothing but the mailbox. DEV_INFO answers IDENT, VERSION, the
firmware build, the rollback count and the PLAN_ID of the ACTIVE bank, 0 without one. PLAN_QUERY answers 40 bytes: the states
of both banks with their loading, COMMIT_PENDING, WINDOW_CLOSED and RECOVERING bits, the generation, both PLAN_IDs,
ACTIVE_SINCE, PENDING_TARGET, and the generation of each bank that is VERIFIED or PENDING. -/
def Claim.InformationCommands : Prop :=
  ∀ (c : Cmd) (rest : List Cmd) (s : State),
    let t := taken c rest s
    (Ready .devInfo c rest s → exec .devInfo s = .next (answer c none .ok 0
      (word 0x1E7B1640 ++ word (versionWord t) ++ word Config.fwBuild.toNat ++ word t.dev.fuses.rollback ++
        word (((activeBank t).map fun b => (t.bank b).plan.planId).getD 0)) t)) ∧
    (Ready .planQuery c rest s → ∃ bs, exec .planQuery s = .next (answer c none .ok 0 bs t) ∧ bs.length = 40 ∧
      let at_ := fun o n => ofLe ((bs.drop o).take n)
      let gen := fun b => if (t.bank b).state = .verified ∨ (t.bank b).state = .pending then (t.bank b).gen.toNat else 0
      (∀ b : Fin 2, bits (4 * b.val + 2) (4 * b.val) (at_ 0 4) = (t.bank b).state.code ∧
        bit (4 * b.val + 3) (at_ 0 4) = (t.bank b).loading ∧ at_ (8 + 4 * b.val) 4 = (t.bank b).plan.planId % 2 ^ 32 ∧
        at_ (32 + 4 * b.val) 4 = gen b) ∧
      bit 8 (at_ 0 4) = t.plans.flip.isSome ∧ bit 9 (at_ 0 4) = (t.plans.flip.isSome && t.plans.locked) ∧
      bit 10 (at_ 0 4) = t.plans.recovering ∧ at_ 0 4 < 2 ^ 11 ∧ at_ 4 4 = t.plans.gen.toNat ∧
      at_ 16 8 = t.plans.activeSince % 2 ^ 64 ∧
      at_ 24 8 = ((t.plans.flip.map (·.1)).getD (2 ^ 64 - 1)) % 2 ^ 64)

/-- DIAG_COUNTERS (19 R383): COUNT values of a class from index FIRST on, as they were, and with CLEAR (not on class 6) each of them is 0
afterwards and no other diagnostic counter moves; without CLEAR nothing changes. A class other than 1 to 8, CLEAR on class 6, a first index beyond the class, and a COUNT that is not 1 to 120
or runs beyond it are BAD_PARAM with the field's offset. -/
def Claim.DiagnosticCounters : Prop :=
  ∀ (c : Cmd) (rest : List Cmd) (s : State), Ready .diagCounters c rest s →
    let t := taken c rest s
    let cls := c.u 0 1
    let first := c.u 2 2
    let n := c.u 4 2
    let dom : Option (Fin 16) := if c.u 1 1 = 1 then some 15 else none
    let refused := fun o => exec .diagCounters s = .next (answer c dom .badParam o [] t)
    ((cls < 1 ∨ 8 < cls) → refused 0) ∧
    (1 ≤ cls → cls ≤ 8 →
      (cls = 6 → c.u 1 1 = 1 → refused 1) ∧
      ((cls ≠ 6 ∨ c.u 1 1 = 0) →
        (diagValue t cls first = none → refused 2) ∧
        ((diagValue t cls first).isSome = true →
          ((n < 1 ∨ 120 < n ∨ ∃ i, i < n ∧ diagValue t cls (first + i) = none) → refused 4) ∧
          (1 ≤ n → n ≤ 120 → (∀ i, i < n → (diagValue t cls (first + i)).isSome = true) →
            ∃ u bs, exec .diagCounters s = .next (answer c dom .ok 0 bs u) ∧ bs.length = 4 * n ∧
              (∀ i x, i < n → diagValue t cls (first + i) = some x → (bs.drop (4 * i)).take 4 = toLe 4 x) ∧
              (c.u 1 1 = 0 → u = t) ∧
              (c.u 1 1 = 1 → (∀ i, i < n → diagValue u cls (first + i) = some 0) ∧
                ∀ k i, (k ≠ cls ∨ i < first ∨ first + n ≤ i) → diagValue u k i = diagValue t k i)))))

/-- The diagnostic counters by class and index (19 R383). -/
def Claim.DiagnosticClasses : Prop :=
  ∀ s : State,
    (∀ i : Fin 6, diagValue s 1 i.val = some (vget s.down.rowMerges i).toNat) ∧
    (∀ l : Fin 128, diagValue s 1 (256 + l.val) = some (vget s.down.lineMerges l).toNat) ∧
    (∀ i : Fin 25, diagValue s 2 i.val = some (vget s.records.paths i).drops.toNat ∧
      diagValue s 3 i.val = some (vget s.records.paths i).oversize.toNat) ∧
    (∀ e : Fin 2, diagValue s 4 e.val = some (vget s.time.ptpIgnored e).toNat) ∧
    (∀ l : Fin 12, diagValue s 5 l.val = some (vget (s.fabLane l).flags.occ 4).toNat) ∧
    diagValue s 6 0 = some s.plains.lastPeak ∧ diagValue s 6 1 = some s.plains.lastWait ∧
    (∀ i : Fin 256, diagValue s 7 i.val = some (vget s.geyser.excluded i).toNat) ∧
    ∀ i : Fin 16, diagValue s 8 i.val = some (vget s.geyser.stats i).armNotManager.toNat

/-- DEV_INFO, PLAN_QUERY and DIAG_COUNTERS: the claims above, together. -/
def Obligations.InformationCommands : Prop :=
  Claim.InformationCommands ∧ Claim.DiagnosticCounters ∧ Claim.DiagnosticClasses

/-- DEV_RESET (21 R410): a domain of 16 or more is BAD_PARAM; it is refused with BUSY_RUNNING while the unit of a STOPPED
parameter of the domain runs, and on CD0 with REFUSED_STATE while a commit is pending, and then changes nothing. Otherwise
the domain's parameters return to their reset values with nothing pending and no other domain's parameter moves, and the
further action happens: CD0 empties a LOADED or VERIFIED bank; CD2 (the next claim) relinks every running bundle; CD7 ends a running raster at its frame end; CD8 tears every ring down
and disables every UDP destination; CD10 stops each HOST-mode channel, or marks it as stopping while transfers are
outstanding; CD12 disables the event inputs and gates the outputs off; CD13 takes each fabric link into link-up with its
role kept; CD14 disables both converters. The ACTIVE bank keeps its plan. -/
def Claim.DeviceReset : Prop :=
  ∀ (c : Cmd) (rest : List Cmd) (s : State), Ready .devReset c rest s →
    let t := taken c rest s
    (16 ≤ c.u 0 1 → exec .devReset s = .next (answer c (some 15) .badParam 0 [] t)) ∧
    ∀ d : Fin 16, c.u 0 1 = d.val →
      ((∃ id p, paramInfo id = some p ∧ p.domain = d ∧ unitRuns t id = true) →
        exec .devReset s = .next (answer c (some 15) .busyRunning 0 [] t)) ∧
      (d = 0 → t.plans.flip.isSome = true → exec .devReset s = .next (answer c (some 15) .refusedState 0 [] t)) ∧
      ((∀ id p, paramInfo id = some p → p.domain = d → unitRuns t id = false) → (d = 0 → t.plans.flip = none) →
        ∃ u, exec .devReset s = .next (answer c (some 15) .ok 0 [] u) ∧
          (∀ id p, paramInfo id = some p → (p.domain = d → paramValue u id = p.reset ∧ paramPending u id = false) ∧
            (p.domain ≠ d → paramValue u id = paramValue t id)) ∧
          (∀ b, ((t.bank b).state = .active ∨ (t.bank b).state = .draining) → u.bank b = t.bank b) ∧
          (d = 0 → ∀ b, ((t.bank b).state = .loaded ∨ (t.bank b).state = .verified) → (u.bank b).state = .empty) ∧
          (d = 7 → ∀ o, rasterRuns t o = true → (outRt u o).stopAtEnd = true) ∧
          (d = 8 → (∀ r, (vget u.records.rings r).isUp = false) ∧ ∀ i, (vget u.records.udp i).enabled = false) ∧
          (d = 10 → ∀ ch, (dmaEntry t ch).present = true → (dmaEntry t ch).host = true → (t.dma ch).state ≠ .errorAlign →
            (outstanding t ch = true → (u.dma ch).stopping = true) ∧
            (outstanding t ch = false → (u.dma ch).state = .stopped)) ∧
          (d = 12 → (∀ i, (vget u.evt.inputs i).enabled = false) ∧ ∀ o, (vget u.evt.outputs o).on = false) ∧
          (d = 13 → u.fabric.role = t.fabric.role ∧ u.fabric.node = t.fabric.node ∧
            ∀ l, (u.fabLane l).state = if (t.fabLane l).use = 0 then .off else .linking) ∧
          (d = 14 → ∀ v, (vget u.vent.units v).enabled = false))

/-- DEV_RESET clears the flags with their occurrence counters, and the counters, of the domain's status commands (21 R410):
lanes (CD2), views (CD3), zoom channels (CD4), sequencers (CD5), streams of the Basin (CD6), planes and outputs (CD7), ports and near
memory (CD9), DMA channels (CD10), station time (CD11), event inputs and outputs (CD12), fabric lanes (CD13), converters
(CD14) and the diagnostic counters (CD15). -/
def Claim.DeviceResetClears : Prop :=
  ∀ (c : Cmd) (rest : List Cmd) (d : Fin 16) (s : State), Ready .devReset c rest s → c.u 0 1 = d.val →
    resetRefused (taken c rest s) d = none →
    ∃ u, exec .devReset s = .next (answer c (some 15) .ok 0 [] u) ∧
      (d = 2 → (∀ l, (u.lane l).flags = Flags.reset _ ∧ (u.lane l).syncErr = 0 ∧ (u.lane l).rmDeleted = 0 ∧
          (u.lane l).misplaced = 0 ∧ (u.lane l).unknown = 0) ∧
        ∀ i, ((taken c rest s).stream i).map.run = true → (u.stream i).ready = false) ∧
      (d = 3 → ∀ v, (u.view v).flags = Flags.reset _ ∧ (u.view v).skipped = 0) ∧
      (d = 4 → ∀ z, (u.zoom z).flags = Flags.reset _) ∧
      (d = 5 → ∀ q, (vget u.geyser.stats q).flags = Flags.reset _) ∧
      (d = 6 → ∀ i, (u.basinOf i).flags = Flags.reset _) ∧
      (d = 7 → (∀ p, (vget u.caldera.planes p).flags = Flags.reset _) ∧ ∀ o, (outRt u o).flags = Flags.reset _) ∧
      (d = 9 → u.down.near.flags = Flags.reset _ ∧ u.down.near.retries = 0 ∧ u.down.near.fails = 0 ∧
        ∀ p, (downPort u p).flags = Flags.reset _) ∧
      (d = 10 → ∀ ch, outstanding (taken c rest s) ch = false → (u.dma ch).flags = Flags.reset _) ∧
      (d = 12 → (∀ i, (vget u.evt.inputs i).flags = Flags.reset _) ∧ ∀ o, (vget u.evt.outputs o).flags = Flags.reset _) ∧
      (d = 13 → ∀ l, (u.fabLane l).flags = Flags.reset _) ∧
      (d = 14 → ∀ v, (vget u.vent.units v).flags = Flags.reset _ ∧ (vget u.vent.units v).trigLost = 0 ∧
        (vget u.vent.units v).aborts = 0) ∧
      (d = 15 → ∀ cls i, cls ≠ 6 → ∀ x, diagValue u cls i = some x → x = 0)

/-- PARAM_GET (19 R384, R385, R387): COUNT IDs, 1 to 30, or 1 to 10 with DESCRIBE, every one assigned, are answered with an entry each in
the order of the request and change nothing: ID, TYPE, PENDING and the value in force in 12 bytes, sign-extended where the
type is signed, or with DESCRIBE the type, effect point, domain, range and reset value; another COUNT is BAD_PARAM, and so is
an unassigned ID, with its payload offset. -/
def Claim.ParameterReads : Prop :=
  ∀ (c : Cmd) (rest : List Cmd) (s : State), Ready .paramGet c rest s →
    let t := taken c rest s
    let n := c.u 0 1
    let id := fun i => c.u (2 + 2 * i) 2
    let most := if c.u 1 1 = 1 then 10 else 30
    ((n = 0 ∨ most < n) → exec .paramGet s = .next (answer c none .badParam 0 [] t)) ∧
    (∀ i, n ≤ most → i < n → paramInfo (id i) = none → (∀ j, j < i → (paramInfo (id j)).isSome = true) →
      exec .paramGet s = .next (answer c none .badParam (2 + 2 * i) [] t)) ∧
    (1 ≤ n → n ≤ most → (∀ i, i < n → (paramInfo (id i)).isSome = true) →
      ∃ es : List (List Byte), exec .paramGet s = .next (answer c none .ok 0 es.flatten t) ∧ es.length = n ∧
        ∀ i p, i < n → paramInfo (id i) = some p →
          (c.u 1 1 = 0 → es.getD i [] = toLe 2 (id i) ++ toLe 1 p.type ++ toLe 1 (if paramPending t (id i) then 1 else 0) ++
            toLeInt 12 (paramValue t (id i))) ∧
          (c.u 1 1 = 1 → es.getD i [] = toLe 2 (id i) ++ toLe 1 p.type ++ toLe 1 p.effect.code ++ toLe 4 p.domain.val ++
            toLeInt 12 p.min ++ toLeInt 12 p.max ++ toLeInt 12 p.reset ++ toLe 4 0))

/-- PARAM_SET (19 R386 to R388): entries of one domain whose semaphore the sender owns, each assigned, in range, named once and
not STOPPED on a running unit, all take effect: an IMMEDIATE or STOPPED parameter has its value at once, an EPOCH or FRAME one
keeps its value and is pending, and no other parameter moves; APPLY_EPOCH is all ones without an EPOCH parameter, and the
first boundary whose window is open with one. The first check that fails refuses the whole command and changes nothing: an
empty command, an unassigned ID (with its index), two domains, the semaphore, then the entries in order. -/
def Claim.ParameterCommands : Prop :=
  ∀ (c : Cmd) (rest : List Cmd) (s : State), Ready .paramSet c rest s →
    let t := taken c rest s
    let n := c.u 0 1
    let id := fun i => c.u (8 + 16 * i) 2
    let raw := fun i => c.u (12 + 16 * i) 12
    let fits := fun i => ∃ p, paramInfo (id i) = some p ∧ p.accepts (p.value (raw i)) = true ∧ (∀ j, j < i → id j ≠ id i) ∧
      (p.effect = .stopped → unitRuns t (id i) = false)
    (n = 0 → exec .paramSet s = .next (answer c none .badParam 0 [] t)) ∧
    (∀ i, i < n → paramInfo (id i) = none → (∀ j, j < i → (paramInfo (id j)).isSome = true) →
      exec .paramSet s = .next (answer c none .badParam i [] t)) ∧
    (1 ≤ n → (∀ i, i < n → (paramInfo (id i)).isSome = true) → ∀ d, (paramInfo (id 0)).map (·.domain) = some d →
      ((∃ i, i < n ∧ (paramInfo (id i)).map (·.domain) ≠ some d) → exec .paramSet s = .next (answer c none .badParam 0 [] t)) ∧
      ((∀ i, i < n → (paramInfo (id i)).map (·.domain) = some d) →
        (semOwner t (domainSem d) ≠ some c.source.owner →
          exec .paramSet s = .next (answer c (some d) .notOwner (ownerCode (semOwner t (domainSem d))) [] t)) ∧
        (semOwner t (domainSem d) = some c.source.owner →
          (∀ i p, i < n → (∀ j, j < i → fits j) → paramInfo (id i) = some p →
            ((p.accepts (p.value (raw i)) = false ∨ ∃ j, j < i ∧ id j = id i) →
              exec .paramSet s = .next (answer c (some d) .badParam i [] t)) ∧
            (p.accepts (p.value (raw i)) = true → (∀ j, j < i → id j ≠ id i) → p.effect = .stopped → unitRuns t (id i) = true →
              exec .paramSet s = .next (answer c (some d) .busyRunning i [] t))) ∧
          ((∀ i, i < n → fits i) →
            ∃ u e, exec .paramSet s = .next (answer c (some d) .ok 0 (toLe 8 e) u) ∧
              (∀ i p, i < n → paramInfo (id i) = some p →
                ((p.effect = .immediate ∨ p.effect = .stopped) → paramValue u (id i) = p.value (raw i)) ∧
                ((p.effect = .epoch ∨ p.effect = .frame) →
                  paramValue u (id i) = paramValue t (id i) ∧ paramPending u (id i) = true)) ∧
              (∀ x p, paramInfo x = some p → (∀ i, i < n → id i ≠ x) →
                paramValue u x = paramValue t x ∧ paramPending u x = paramPending t x) ∧
              ((∀ i, i < n → (paramInfo (id i)).map (·.effect) ≠ some .epoch) → e = 2 ^ 64 - 1) ∧
              ((∃ i, i < n ∧ (paramInfo (id i)).map (·.effect) = some .epoch) → e = openBoundary u)))))

/-- DEV_RESET and the parameters: the claims above, together. -/
def Obligations.DeviceResetAndParameters : Prop :=
  Claim.DeviceReset ∧ Claim.DeviceResetClears ∧ Claim.ParameterReads ∧ Claim.ParameterCommands

/-- PLAN_LOAD (20 R404, 03 R38, R39), its first two steps in their order: an address that is not a multiple of 64 is BAD_ALIGN; a
bank other than 0 and 1 BAD_PARAM; an ACTIVE or PENDING bank REFUSED_STATE; a DRAINING one, or one being loaded, BUSY_RUNNING;
a length that is not 8 KiB to 256 MiB in whole tiles BAD_PARAM; each changes nothing. Otherwise the bank is EMPTY and loading, what a recovery
restored for it is given up (09 R183), the other bank stays, and the command awaits the image with CD0's semaphore pinned. -/
def Claim.PlanLoadStarts : Prop :=
  ∀ (c : Cmd) (rest : List Cmd) (s : State), Ready .planLoad c rest s →
    let t := taken c rest s
    (c.u 8 8 % 64 ≠ 0 → exec .planLoad s = .next (answer c (some 0) .badAlign 8 [] t)) ∧
    (c.u 8 8 % 64 = 0 → 2 ≤ c.u 0 1 → exec .planLoad s = .next (answer c (some 0) .badParam 0 [] t)) ∧
    (∀ b : Fin 2, c.u 8 8 % 64 = 0 → c.u 0 1 = b.val →
      (((t.bank b).state = .active ∨ (t.bank b).state = .pending) →
        exec .planLoad s = .next (answer c (some 0) .refusedState 0 [] t)) ∧
      ((t.bank b).state = .draining ∨ ((t.bank b).state ≠ .active ∧ (t.bank b).state ≠ .pending ∧ (t.bank b).loading = true) →
        exec .planLoad s = .next (answer c (some 0) .busyRunning 0 [] t)) ∧
      (((t.bank b).state = .empty ∨ (t.bank b).state = .loaded ∨ (t.bank b).state = .verified) → (t.bank b).loading = false →
        ((c.u 16 4 < 8192 ∨ 2 ^ 28 < c.u 16 4 ∨ c.u 16 4 % 4096 ≠ 0) →
          exec .planLoad s = .next (answer c (some 0) .badParam 16 [] t)) ∧
        (8192 ≤ c.u 16 4 → c.u 16 4 ≤ 2 ^ 28 → c.u 16 4 % 4096 = 0 →
          ∃ u, exec .planLoad s = .next (await c (some 0) (.planLoad b c.source.hostPort (c.u 8 8) (c.u 16 4)) u) ∧
            u.bank b = { t.bank b with state := .empty, loading := true, gen := 0, plan := default } ∧
            (∀ x, x ≠ b → u.bank x = t.bank x) ∧ u.basin.recover ≠ some b ∧ u.plans.flip = t.plans.flip ∧
            (t.basin.recover ≠ some b → u.basin = t.basin))))

/-- PLAN_LOAD_DONE (20 R404, 16 R333), for the load that waits first: a failed read answers TIMEOUT; an image whose magic number or
header CRC is wrong, or one of whose tiles fails its CRC, CRC_FAIL; one with a header field that step 4 refuses, BAD_PARAM with that field; each
leaves the bank EMPTY. An image that passes is in the bank's region and leaves it LOADED, and the answer is its PLAN_ID. A
tunnelled load goes on waiting until the tunnel has carried every byte; with no load waiting nothing happens. -/
def Claim.PlanLoadEnds : Prop :=
  ∀ (image : Option (List Byte)) (s : State),
    (planWait s = none → exec (.planLoadDone image) s = .next s) ∧
    ∀ (d : Deferred) (b : Fin 2) (p : PortId) (n : Nat), firmware s = true → planWait s = some (d, b, p, n) →
      (image = none → ∃ u, exec (.planLoadDone image) s = .next (finished d { status := .timeout, detail := 0, payload := [] } u) ∧
        (u.bank b).state = .empty ∧ (u.bank b).loading = false ∧ u.host.deferred = s.host.deferred.erase d) ∧
      (∀ bs, image = some bs → loadedBytes s d p n bs = none → exec (.planLoadDone image) s = .next s) ∧
      (∀ bs got, image = some bs → loadedBytes s d p n bs = some got →
        let v := nearPut (bankBase b) (padTo n got) s
        let passes := imageLe v b 0 4 = 0xADE71640 ∧ headerCrcOk v b = true
        ∃ (u : State) (r : Reply), exec (.planLoadDone image) s = .next (finished d r u) ∧ u.host.deferred = s.host.deferred.erase d ∧
          (u.bank b).loading = false ∧ (∀ x, x ≠ b → u.bank x = s.bank x) ∧ u.down.near.data = v.down.near.data ∧
          (¬passes → r = { status := .crcFail, detail := 0, payload := [] } ∧ (u.bank b).state = .empty) ∧
          (∀ f, passes → headerBad v (parseHeader v b) n = some f → 
            r = { status := .badParam, detail := 0xFFFF, payload := toLe 2 0 ++ toLe 2 0xFFFF ++ toLe 2 f ++ toLe 2 0 } ∧ (u.bank b).state = .empty) ∧
          (passes → headerBad v (parseHeader v b) n = none → tileCrcsOk v b = false →
            r = { status := .crcFail, detail := 0, payload := [] } ∧ (u.bank b).state = .empty) ∧
          (passes → headerBad v (parseHeader v b) n = none → tileCrcsOk v b = true →
            r = { status := .ok, detail := 0, payload := toLe 4 (parseHeader v b).planId } ∧
            (u.bank b).state = .loaded ∧ (u.bank b).plan.planId = (parseHeader v b).planId))

/-- PLAN_VERIFY (20 R405, 03 R38, R44, R56 to R58, 19 R381): a bank other than 0 and 1 is BAD_PARAM, one that is neither LOADED nor VERIFIED
REFUSED_STATE; the first check that fails is BAD_PARAM with its report and leaves the bank LOADED; a resource over its ceiling is
BUDGET_EXCEEDED with the first such resource's code and the sums, and leaves the bank LOADED; otherwise the bank is VERIFIED
under the present generation and holds the parsed plan, and the answer holds the sums. The other bank stays. -/
def Claim.PlanVerifyDecides : Prop :=
  ∀ (c : Cmd) (rest : List Cmd) (s : State), Ready .planVerify c rest s →
    let t := taken c rest s
    (2 ≤ c.u 0 1 → exec .planVerify s = .next (answer c (some 0) .badParam 0 [] t)) ∧
    ∀ b : Fin 2, c.u 0 1 = b.val →
      ((t.bank b).state ≠ .loaded → (t.bank b).state ≠ .verified →
        exec .planVerify s = .next (answer c (some 0) .refusedState 0 [] t)) ∧
      (((t.bank b).state = .loaded ∨ (t.bank b).state = .verified) →
        let p := parsePlan t b
        let sums := planResources t p (imageMap t b p)
        (∀ f, firstFail t b = some f → ∃ u, exec .planVerify s = .next (answer c (some 0) .badParam 0xFFFF
            (toLe 2 f.sect ++ toLe 2 f.entry ++ toLe 2 f.fld ++ toLe 2 f.check) u) ∧
          u.bank b = { t.bank b with state := .loaded, gen := 0 } ∧ ∀ x, x ≠ b → u.bank x = t.bank x) ∧
        (∀ r, firstFail t b = none → sums.find? (overCeiling p) = some r →
          ∃ u, exec .planVerify s = .next (answer c (some 0) .budgetExceeded r.code (verifyBytes t p sums) u) ∧
            u.bank b = { t.bank b with state := .loaded, gen := 0 } ∧ ∀ x, x ≠ b → u.bank x = t.bank x) ∧
        (firstFail t b = none → sums.find? (overCeiling p) = none →
          ∃ u, exec .planVerify s = .next (answer c (some 0) .ok 0 (verifyBytes t p sums) u) ∧
            (u.bank b).state = .verified ∧ (u.bank b).gen = t.plans.gen ∧ (u.bank b).plan = p ∧
            ∀ x, x ≠ b → u.bank x = t.bank x))

/-- PLAN_LOAD and PLAN_VERIFY: the claims above, together. -/
def Obligations.PlanLoadAndVerify : Prop :=
  Claim.PlanLoadStarts ∧ Claim.PlanLoadEnds ∧ Claim.PlanVerifyDecides

/-- PLAN_COMMIT (03 R40, R41, R51, 09 R184): a VERIFIED bank committed in time becomes PENDING for its boundary; one recorded after
the window has closed takes effect one commit period later, is answered PLAN_LATE and posts one event; the target must lie
after the present epoch (BAD_PARAM). A commit while another is pending, of a bank that is not VERIFIED or of one whose rings a
recovery is rebuilding is REFUSED_STATE. A cancel before the lock returns the bank to VERIFIED, or to LOADED where the generation has moved on; a cancel
after the lock, of another bank or with nothing pending is REFUSED_STATE. A bank other than 0 and 1 is BAD_PARAM. -/
def Obligations.PlanCommitWindows : Prop :=
  ∀ (c : Cmd) (rest : List Cmd) (s : State), Ready .planCommit c rest s →
    let t := taken c rest s
    let k := c.u 8 8
    let refused := exec .planCommit s = .next (answer c (some 0) .refusedState 0 [] t)
    (2 ≤ c.u 0 1 → exec .planCommit s = .next (answer c (some 0) .badParam 0 [] t)) ∧
    ∀ b : Fin 2, c.u 0 1 = b.val →
      let free := t.plans.flip = none ∧ (t.bank b).state = .verified ∧ ¬(t.plans.recovering = true ∧ t.basin.recover = some b)
      (c.u 1 1 = 0 → ¬free → refused) ∧
      (∀ e, c.u 1 1 = 0 → free → t.plans.epoch = some e → k ≤ e →
        exec .planCommit s = .next (answer c (some 0) .badParam 8 [] t)) ∧
      (c.u 1 1 = 0 → free → (∀ e, t.plans.epoch = some e → e < k) →
        (c.recorded + Config.msUnits ≤ boundaryTime t k →
          ∃ u, exec .planCommit s = .next (answer c (some 0) .ok 0 (timeBytes c.recorded ++ toLe 4 0 ++ toLe 8 k) u) ∧
            u.bank b = { t.bank b with state := .pending } ∧ (∀ x, x ≠ b → u.bank x = t.bank x) ∧
            u.plans.flip = some (k, b) ∧ u.host = t.host) ∧
        (boundaryTime t k < c.recorded + Config.msUnits →
          ∃ u, exec .planCommit s = .next (answer c (some 0) .planLate 0
              (timeBytes c.recorded ++ toLe 4 0 ++ toLe 8 (k + commitPeriod t)) u) ∧
            u.bank b = { t.bank b with state := .pending } ∧ (∀ x, x ≠ b → u.bank x = t.bank x) ∧
            u.plans.flip = some (k + commitPeriod t, b) ∧ u.host.evSeq = t.host.evSeq + 1)) ∧
      (c.u 1 1 = 1 → (∀ x, t.plans.flip ≠ some (x, b)) → refused) ∧
      (∀ x, c.u 1 1 = 1 → t.plans.flip = some (x, b) → t.plans.locked = true → refused) ∧
      (∀ x, c.u 1 1 = 1 → t.plans.flip = some (x, b) → t.plans.locked = false →
        ∃ u, exec .planCommit s = .next (answer c (some 0) .ok 0 (timeBytes c.recorded ++ toLe 4 0 ++ toLe 8 (2 ^ 64 - 1)) u) ∧
          u.plans.flip = none ∧ (∀ x, x ≠ b → u.bank x = t.bank x) ∧
          ((t.bank b).gen = t.plans.gen → u.bank b = { t.bank b with state := .verified }) ∧
          ((t.bank b).gen ≠ t.plans.gen → u.bank b = { t.bank b with state := .loaded, gen := 0 }))

/-- LANE_BLOCK (04 R59 to R63, R66, R68, R69, R75): a lane that is not powered for a linking or linked bundle takes nothing.
Header and payload are inverted where the lane's polarity is, and the payload is descrambled. Before block lock a valid sync
header adds to the run and an invalid one ends it, and the 64th in succession gains lock; in lock the 16th invalid one among
the latest 64 ends it, with its flag. Of the blocks taken in lock a rate-matching block is deleted and counted, and one of link management kept for its command;
a status block is counted as unknown. While framing, a header opens a run, and one 255 blocks later frames the lane. In a
framed lane any other block moves the place in the superblock on and enters the CRC, a misplaced header and an unknown
control block being counted; what stands in the header position ends the superblock: a header compares its CRC and carries
the two flags, anything else is a missing header. FILLER_LOW is raised at the 2,048th block in succession without a
rate-matching one. The effects on the elastic buffer are those of a lane whose buffer is not full. -/
def Obligations.LaneBlockReception : Prop :=
  ∀ (l : Fin 32) (header : BitVec 2) (p : U64) (s : State),
    (laneLive s l = none → exec (.laneBlock l header p) s = .next s) ∧
    (∀ i, laneLive s l = some i →
      let r := s.rx l
      let h := if (s.lane l).polarity then ~~~header else header
      let w := (descramble r.scrambler (if (s.lane l).polarity then ~~~p else p)).2
      let valid := decide (h = 1 ∨ h = 2)
      let latest := (valid :: r.window).take 64
      let kind := w.toNat % 256
      let low := decide (r.sinceRm + 1 = 2048)
      ∃ t, exec (.laneBlock l header p) s = .next t ∧
        (r.locked = false → (valid = true → (t.rx l).locked = decide (63 ≤ r.window.length) ∧ (t.rx l).window = true :: r.window) ∧
          (valid = false → (t.rx l).locked = false ∧ (t.rx l).window = [])) ∧
        (r.locked = true → 16 ≤ (latest.filter (!·)).length → (t.stream i).ready = false ∧ (t.stream i).delivering = false ∧
          (t.lane l).flags = (s.lane l).flags.raise 0) ∧
        (r.locked = true → (latest.filter (!·)).length < 16 →
          (t.rx l).window = latest ∧
          (valid = false → (t.lane l).syncErr = satAdd (s.lane l).syncErr 1) ∧
          (h = 2 → (kind = 0x3C ∨ kind = 0x5A ∨ kind = 0x69) → (t.lane l).rmDeleted = (s.lane l).rmDeleted + 1 ∧
            (t.rx l).sinceRm = 0 ∧ (t.rx l).pos = r.pos ∧ (t.rx l).crc = r.crc ∧ (t.rx l).ebuf = r.ebuf ∧
            (t.rx l).mgmt = r.mgmt ++ (if kind = 0x5A then [w] else [])) ∧
          (¬(h = 2 ∧ (kind = 0x3C ∨ kind = 0x5A ∨ kind = 0x69)) →
            ((s.bound i).flipAt = none → (t.rx l).sinceRm = (if low then 0 else r.sinceRm + 1) ∧
              (low = true → (t.lane l).flags.now.getLsbD 7 = true)) ∧
            (h = 2 → kind = 0x96 → (t.lane l).unknown = satAdd (s.lane l).unknown 1 ∧ (t.rx l).pos = r.pos) ∧
            (¬(h = 2 ∧ kind = 0x96) →
              (r.framed = false → (∀ k ∈ bundle s i, (s.rx k).equalised = true) →
                (h = 2 → kind = 0xA5 → (t.rx l).pos = some 0 ∧ (t.rx l).crc = 0xFFFF ∧
                  (t.rx l).framed = decide (r.pos = some 255)) ∧
                (¬(h = 2 ∧ kind = 0xA5) → (t.rx l).framed = false ∧ (t.rx l).crc = laneCrc r.crc w ∧
                  (t.rx l).pos = r.pos.bind fun k => if k < 255 then some (k + 1) else none)) ∧
              (r.framed = true → r.pos ≠ some 255 → (r.aligned = true → r.ebuf.length < 64) →
                (t.rx l).pos = r.pos.map (· + 1) ∧ (t.rx l).crc = laneCrc r.crc w ∧
                (h = 2 → kind = 0xA5 → (t.lane l).misplaced = satAdd (s.lane l).misplaced 1) ∧
                (h = 2 → (t.lane l).unknown = satAdd (s.lane l).unknown 1) ∧
                (h ≠ 2 → (t.lane l).unknown = (s.lane l).unknown ∧ (t.lane l).misplaced = (s.lane l).misplaced)) ∧
              (r.framed = true → r.pos = some 255 → (r.aligned = true → r.ebuf.length < 64) → (r.aligned = true ∨ r.marker = none) →
                (h = 2 → kind = 0xA5 → (t.rx l).pos = some 0 ∧ (t.rx l).crc = 0xFFFF ∧ (t.rx l).missing = 0 ∧
                  (t.rx l).superblocks = r.superblocks + 1 ∧
                  ((Header.ofWord w).crc ≠ r.crc → (t.lane l).flags.now.getLsbD 2 = true) ∧
                  ((Header.ofWord w).ovr = true → (t.lane l).flags.now.getLsbD 8 = true) ∧
                  ((Header.ofWord w).unlock = true → (t.lane l).flags.now.getLsbD 9 = true)) ∧
                (¬(h = 2 ∧ kind = 0xA5) → (t.lane l).flags.now.getLsbD 1 = true ∧
                  (r.missing < 3 → (t.rx l).missing = r.missing + 1 ∧ (t.rx l).pos = some 0) ∧
                  (3 ≤ r.missing → (t.stream i).ready = false)))))))

/-- Link-up (04 R72, R75). LINK_UP_START, once the wait is over and the lanes are of no other bundle, puts every lane of the bundle into clock recovery
with its settings from the stream map and sends its HELLO; before that it does nothing. LINK_UP_STEP_FAIL, for the step that the cause belongs to,
fails every lane of the bundle with the cause and starts the 1 ms wait; for another step it does nothing. -/
def Claim.LinkUpSteps : Prop :=
  ∀ (i : Fin 16) (l : Fin 32) (s : State), engines s = true →
    let e := (s.stream i).map
    (∀ d, firmware s = true → locked s 6 = true → e.run = true → (s.stream i).retryAt = some d → d ≤ now s →
      (∀ k ∈ e.group, (s.lane k).stream = none ∨ (s.lane k).stream = some i) →
      ∃ t, exec (.linkUpStart i) s = .next t ∧ (t.stream i).retryAt = none ∧
        t.out = (e.group.map fun k => Out.laneMgmt k.val 1 0x1640).reverse ++ s.out ∧
        ∀ k ∈ e.group, (t.lane k).state = .cdr ∧ (t.lane k).powered = true ∧ (t.lane k).stream = some i ∧
          (t.lane k).rate = e.rate ∧ (t.rx k).locked = false ∧ (t.rx k).framed = false ∧
          let x := e.lanes.getD (k.val - e.firstLane) default
          (t.lane k).polarity = x.polarity ∧ (t.lane k).cm1 = x.cm1 ∧ (t.lane k).cp1 = x.cp1 ∧
          (t.lane k).ctleAuto = decide (x.ctle = 31) ∧ (x.ctle ≠ 31 → (t.lane k).ctle = x.ctle) ∧
          (t.lane k).partner = decide (x.partner = 1)) ∧
    ((e.run = false ∨ (s.stream i).retryAt = none ∨ ∃ d, (s.stream i).retryAt = some d ∧ now s < d) →
      exec (.linkUpStart i) s = .next s) ∧
    (∀ cause, e.run = true → (s.stream i).retryAt = none → (s.stream i).ready = false → l ∈ bundle s i →
      (causeStep cause = some (s.lane l).state →
        ∃ t, exec (.linkUpStepFail i l cause) s = .next t ∧ (t.stream i).retryAt = some (now s + Config.msUnits) ∧
          ∀ k ∈ bundle s i, (t.lane k).state = .failed ∧ (t.lane k).failCause = cause) ∧
      (causeStep cause ≠ some (s.lane l).state → exec (.linkUpStepFail i l cause) s = .next s)) ∧
    ((s.stream i).ready = true → ∀ cause, exec (.linkUpStepFail i l cause) s = .next s)

/-- EYE_SWEEP_DONE (04 R441, 16 R317): of the 19 peaking values the one of the greatest eye width is applied, of equal
widths the lowest, on a lane in equalisation that chooses its own peaking and, by the same rule, on a fabric lane in
link-up; where no value has an error-free offset, link-up fails with cause 3. The width is the longest run of error-free offsets among the 32. -/
def Claim.EyeSweeps : Prop :=
  ∀ (n : Fin 46) (eyes : Vector (BitVec 32) 19) (s : State), engines s = true → firmware s = true →
    let best := fun k : Fin 19 => 0 < eyeWidth (vget eyes k) ∧ (∀ j, eyeWidth (vget eyes j) ≤ eyeWidth (vget eyes k)) ∧
      ∀ j, j < k → eyeWidth (vget eyes j) < eyeWidth (vget eyes k)
    (∀ l : Fin 32, n.val = l.val → (s.lane l).state = .equalise → (s.lane l).ctleAuto = true → (s.rx l).equalised = false →
      (∀ k, best k → ∃ t, exec (.eyeSweepDone n eyes) s = .next t ∧ (t.lane l).ctle = k.val ∧ (t.rx l).equalised = true ∧
        ∀ j, j ≠ l → t.lane j = s.lane j ∧ t.rx j = s.rx j) ∧
      (∀ i, (∀ k, eyeWidth (vget eyes k) = 0) → (s.lane l).stream = some i →
        ∃ t, exec (.eyeSweepDone n eyes) s = .next t ∧ (t.stream i).retryAt = some (now s + Config.msUnits) ∧
          ∀ k ∈ bundle s i, (t.lane k).state = .failed ∧ (t.lane k).failCause = 3)) ∧
    (∀ f : Fin 12, n.val = 32 + f.val → (s.fabLane f).state = .linking → (s.fabLane f).ctle = 31 →
      (∀ k, best k → exec (.eyeSweepDone n eyes) s = .next (s.modFabLane f fun x => { x with peak := some k.val })) ∧
      ((∀ k, eyeWidth (vget eyes k) = 0) →
        exec (.eyeSweepDone n eyes) s = .next (s.modFabLane f fun x => { x with state := .failed, failCause := 3 }))) ∧
    (44 ≤ n.val → exec (.eyeSweepDone n eyes) s = .next s) ∧
    (∀ k : BitVec 32, eyeWidth k ≤ 32 ∧
      ∀ a b : Nat, a + b ≤ 32 → (∀ o, a ≤ o → o < a + b → k.getLsbD o = true) → b ≤ eyeWidth k)

/-- DESKEW_MARKER (04 R74, R75 step 6): the lane's oldest marker that waits is taken. On a READY bundle one that keeps the
learned alignment changes nothing else; one that breaks it raises DESKEW_FAIL on its lane, and delivery stops at the superblock it
opens, at once where that has been taken. On a DESKEWED bundle one that breaks it fails link-up with cause 5. While the lanes
are FRAMED, the marker that completes the alignment of every lane ends deskew: with one MARKER_SEQ on all lanes they are
DESKEWED, otherwise link-up fails with cause 5. With no marker waiting nothing happens. -/
def Claim.DeskewMarkers : Prop :=
  ∀ (l : Fin 32) (s : State),
    ((laneLive s l = none ∨ (s.rx l).markers = []) → exec (.deskewMarker l) s = .next s) ∧
    ∀ (i : Fin 16) (m : MarkerAt) (rest : List MarkerAt), laneLive s l = some i → (s.rx l).markers = m :: rest →
      let u := s.modRx l fun r => { r with markers := rest, lastMark := if m.place then some m else r.lastMark }
      let good := markerGood s ((bundle s i).filter (· ≠ l)) m
      let aligned := ∀ k ∈ bundle s i, (s.lane k).state = .framed ∧ (u.rx k).aligned = true ∧ (u.rx k).lastMark.isSome = true
      let fails := ∃ t, exec (.deskewMarker l) s = .next t ∧ (t.stream i).retryAt = some (now s + Config.msUnits) ∧
        ∀ k ∈ bundle s i, (t.lane k).state = .failed ∧ (t.lane k).failCause = 5 ∧ (t.lane k).flags.now.getLsbD 4 = true
      ((s.stream i).ready = true → good = true → exec (.deskewMarker l) s = .next u) ∧
      ((s.stream i).ready = true → good = false →
        ∃ t, exec (.deskewMarker l) s = .next t ∧ (t.lane l).flags.now.getLsbD 4 = true ∧
          ((s.stream i).taken ≤ m.sb → ∃ x, (t.stream i).failAt = some x ∧ x ≤ m.sb) ∧
          (m.sb < (s.stream i).taken → (t.stream i).ready = false ∧ (t.stream i).delivering = false)) ∧
      ((s.stream i).ready = false → (∀ k ∈ bundle s i, (s.lane k).state = .deskewed) → good = false → fails) ∧
      ((s.stream i).ready = false → aligned → l ∈ bundle s i →
        ((∀ k ∈ bundle s i, (u.rx k).lastMark.map (·.seq) = (u.rx l).lastMark.map (·.seq)) →
          ∃ t, exec (.deskewMarker l) s = .next t ∧ ∀ k ∈ bundle s i, (t.lane k).state = .deskewed) ∧
        (¬(∀ k ∈ bundle s i, (u.rx k).lastMark.map (·.seq) = (u.rx l).lastMark.map (·.seq)) → fails)) ∧
      ((s.stream i).ready = false → ¬aligned → (good = true ∨ ∃ k ∈ bundle s i, (s.lane k).state ≠ .deskewed) →
        exec (.deskewMarker l) s = .next u)

/-- SUPERBLOCK_HEADER while a bundle acquires its count (04 R67, R72, R75 steps 7 and 8): the headers of all lanes are taken together. A missing header, a
first header with the low half, and a second with the high half fail link-up with cause 7; the first header's part is kept; the second
gives the count, and link-up goes on where the headers agree with the stream map and fails with cause 6 where they do not.
Each lane takes its LANE_INDEX from its header. `h` is the header of the lowest LANE_INDEX. -/
def Claim.CountAcquisition : Prop :=
  ∀ (i : Fin 16) (hs : List HeadAt) (s : State),
    engines s = true → bundle s i ≠ [] → (bundle s i).Nodup → headsOf s (bundle s i) = some hs → (s.stream i).asm = none →
    (∀ l ∈ bundle s i, (s.lane l).state = .deskewed) → (s.stream i).failAt = none → (s.stream i).acquired = false →
    let fails := fun cause => ∃ t, exec (.superblockHeader i) s = .next t ∧
      (t.stream i).retryAt = some (now s + Config.msUnits) ∧
      ∀ l ∈ bundle s i, (t.lane l).state = .failed ∧ (t.lane l).failCause = cause
    ((∃ g ∈ hs, g.header = none) → fails 7) ∧
    (∀ g h, g ∈ hs → g.header = some h → (∀ k ∈ hs, ∃ x, k.header = some x ∧ (k = g ∨ h.lane < x.lane)) →
      let errors := fun f => mapErrors i (s.stream i).map (hs.filterMap fun k => k.header.map fun x => (k.lane, x)) f
      ((s.stream i).prevPart = none → h.half = false → fails 7) ∧
      (∀ p, (s.stream i).prevPart = some p → h.half = true → fails 7) ∧
      ((s.stream i).prevPart = none → h.half = true → ∃ t, exec (.superblockHeader i) s = .next t ∧
        (t.stream i).prevPart = some (true, h.part) ∧ (t.stream i).taken = (s.stream i).taken + 1 ∧
        (t.stream i).acquired = false ∧ ∀ k ∈ hs, ∀ x, k.header = some x → (t.lane k.lane).laneIndex = x.lane) ∧
      (∀ p, (s.stream i).prevPart = some p → h.half = false →
        ((∀ f : Fin 4, errors f.val = []) → ∃ t, exec (.superblockHeader i) s = .next t ∧ (t.stream i).acquired = true ∧
          (t.stream i).prevPart = none ∧ (t.stream i).count = some (countFrom p.2 h.part (s.stream i).map.samples)) ∧
        ((∃ f : Fin 4, errors f.val ≠ []) → fails 6)))

/-- SUPERBLOCK_HEADER of a bundle whose count is known (04 R66, R67, R69, R74, R75 step 9): where the header of the lowest LANE_INDEX carries
the expected half, the count goes on by the samples of a superblock and the run of failures ends; a lane whose header disagrees with that of
LANE_INDEX 0 raises COUNT_ERR. A DESKEWED bundle is then READY. From the superblock of a failed deskew on, delivery stops
instead. Where some lane does not hold its header yet nothing happens. -/
def Claim.SuperblockHeaders : Prop :=
  ∀ (i : Fin 16) (s : State), engines s = true → bundle s i ≠ [] → (s.stream i).asm = none →
    (headsOf s (bundle s i) = none → exec (.superblockHeader i) s = .next s) ∧
    (∀ hs, headsOf s (bundle s i) = some hs →
      ((∀ l ∈ bundle s i, (s.lane l).state = .deskewed) ∨ ∀ l ∈ bundle s i, (s.lane l).state = .ready) →
      (∀ x, (s.stream i).failAt = some x → x ≤ (s.stream i).taken →
        ∃ t, exec (.superblockHeader i) s = .next t ∧ (t.stream i).ready = false ∧ (t.stream i).delivering = false) ∧
      (∀ l h n, (∀ x, (s.stream i).failAt = some x → (s.stream i).taken < x) → (s.stream i).acquired = true →
        checkHeader s hs = some (l, h) → (s.stream i).count = some n →
        let next := (n + (s.stream i).map.samples) % 2 ^ 48
        h.part = (if h.half then next / 2 ^ 24 else next % 2 ^ 24) →
        ∃ t, exec (.superblockHeader i) s = .next t ∧ (t.stream i).count = some next ∧ (t.stream i).failRun = 0 ∧
          (t.stream i).ready = true ∧ (t.stream i).taken = (s.stream i).taken + 1 ∧
          (∀ g ∈ hs, ∀ r x, headerZero s hs = some r → g.header = some x →
            (x.stream ≠ r.stream ∨ x.half ≠ r.half ∨ x.part ≠ r.part ∨ x.size ≠ r.size ∨ x.packed ≠ r.packed) →
            (t.lane g.lane).flags.now.getLsbD 3 = true) ∧
          ((s.stream i).ready = false → ∀ k ∈ bundle s i, (t.lane k).state = .ready)))

/-- The count that two headers give (04 R67): the high half of one superblock and the low half of one `c` samples later spell the
later superblock's 48-bit count; so do the low half of one and the high half of the next. -/
def Claim.CountFromHalves : Prop :=
  ∀ (x c e : Nat) (t : StreamRt), x < 2 ^ 48 →
    countFrom (x / 2 ^ 24) ((x + c) % 2 ^ 24) c = (x + c) % 2 ^ 48 ∧
    (t.lowPart = some (x % 2 ^ 24, 1) → failedCount t true ((x + c) % 2 ^ 48 / 2 ^ 24) e c = (x + c) % 2 ^ 48) ∧
    (t.highPart = some (x / 2 ^ 24, 1) → failedCount t false ((x + c) % 2 ^ 24) e c = (x + c) % 2 ^ 48)

/-- Link-up, eye sweeps, deskew and the superblock count: the claims above, together. -/
def Obligations.LinkUp : Prop :=
  Claim.LinkUpSteps ∧ Claim.EyeSweeps ∧ Claim.DeskewMarkers ∧ Claim.CountAcquisition ∧ Claim.SuperblockHeaders ∧ Claim.CountFromHalves

/-- LINK_MANAGEMENT (04 R77): the firmware takes the lane's oldest message. A HELLO's partner ID is kept; a pre-emphasis request
on a PARTNER lane with settings in range is applied, and any request is answered with the settings in force; resync complete
ends the request on every lane of the bundle; the message 0x03, which only the device sends, changes nothing (log entry 58: DEDUCED);
any other is counted as unknown. With none waiting nothing happens. -/
def Claim.LinkManagementMessages : Prop :=
  ∀ (l : Fin 32) (s : State), ((s.rx l).mgmt = [] → exec (.linkManagement l) s = .next s) ∧
    ∀ (w : U64) (rest : List U64), (s.rx l).mgmt = w :: rest → firmware s = true → engines s = true →
      let arg := bits 55 16 w.toNat
      let msg := bits 15 8 w.toNat
      let u := s.modRx l fun r => { r with mgmt := rest }
      let applies := (s.lane l).partner = true ∧ bits 4 0 arg ≤ 16 ∧ bits 8 5 arg ≤ 10 ∧ bits 4 0 arg + bits 8 5 arg ≤ 20
      (msg = 1 → exec (.linkManagement l) s = .next (u.modRx l fun r => { r with partnerId := arg % 2 ^ 16 })) ∧
      (msg = 2 → ∃ t, exec (.linkManagement l) s = .next t ∧
        (applies → (t.lane l).cp1 = bits 4 0 arg ∧ (t.lane l).cm1 = bits 8 5 arg) ∧ (¬applies → t.lane l = s.lane l) ∧
        t.out = .laneMgmt l.val 3 ((t.lane l).cp1 + (t.lane l).cm1 * 2 ^ 5) :: s.out) ∧
      (msg = 3 → exec (.linkManagement l) s = .next u) ∧
      (∀ i, msg = 4 → (s.lane l).stream = some i → ∃ t, exec (.linkManagement l) s = .next t ∧
        (∀ k ∈ bundle s i, (t.rx k).resyncLeft = 0) ∧ (t.rx l).mgmt = rest) ∧
      (msg ∉ [1, 2, 3, 4] → exec (.linkManagement l) s = .next (u.modLane l fun x => { x with unknown := satAdd x.unknown 1 }))

/-- STATUS_BLOCK_SEND (04 R78): a powered lane sends its status block, of type 0x96, with FW_READY, RESYNC_REQ, EPOCH_VALID,
LANE_HEALTH, the low word of the epoch (all ones while there is none), the peaking in force and the CRC errors since the last block; that count and the
note of sync errors start again, and a resync request is one block nearer its end. A lane that is not powered sends none. -/
def Claim.StatusBlocks : Prop :=
  ∀ (l : Fin 32) (s : State),
    (engines s = true → locked s 6 = true → (s.lane l).powered = true →
      ∃ t w, exec (.statusBlockSend l) s = .next t ∧ t.out = .backChannel l.val [w] :: s.out ∧ w % 256 = 0x96 ∧
        (w / 2 ^ 8 % 2 = 1 ↔ s.dev.state = .ready ∧ s.dev.fwRunning = true) ∧
        (w / 2 ^ 9 % 2 = 1 ↔ 0 < (s.rx l).resyncLeft) ∧ w / 2 ^ 12 % 16 = laneHealth s l ∧
        (∀ k, s.plans.epoch = some k → w / 2 ^ 10 % 2 = 1 ∧ w / 2 ^ 16 % 2 ^ 32 = k % 2 ^ 32) ∧
        (s.plans.epoch = none → w / 2 ^ 10 % 2 = 0 ∧ w / 2 ^ 16 % 2 ^ 32 = 2 ^ 32 - 1) ∧
        w / 2 ^ 48 = (s.lane l).ctle + (s.rx l).crcErrs * 2 ^ 8 ∧
        (t.rx l).crcErrs = 0 ∧ (t.rx l).syncSince = false ∧ (t.rx l).resyncLeft = (s.rx l).resyncLeft - 1) ∧
    ((s.lane l).powered = false → exec (.statusBlockSend l) s = .next s)

/-- Link management and status blocks: the claims above, together. -/
def Obligations.LaneMessages : Prop :=
  Claim.LinkManagementMessages ∧ Claim.StatusBlocks

/-- BUNDLE_SUPERBLOCK_DELIVER (01 R13, 04 R71, 21 R418): a complete superblock that is to be delivered, and into which no plan flip falls,
becomes one run of samples with consecutive indices, from its own index on or, where intake starts later, from there, and the
stream's last index is that of its last sample; one that is not to be delivered, or before intake starts, leaves the delivered samples as they
were. The superblock is then closed; an incomplete one is not touched. -/
def Claim.SuperblockDelivery : Prop :=
  ∀ (i : Fin 16) (s : State),
    ((s.stream i).asm = none → exec (.bundleSuperblockDeliver i) s = .next s) ∧
    ∀ a : Assembly, (s.stream i).asm = some a →
      let xs := parseBlocks (s.stream i).map.packed a.blocks.reverse
      (a.blocks.length ≠ 255 * (s.stream i).map.group.length → exec (.bundleSuperblockDeliver i) s = .next s) ∧
      (engines s = true → a.blocks.length = 255 * (s.stream i).map.group.length →
        ((a.deliver = false ∨ intakeFrom i s = none) → ∃ t, exec (.bundleSuperblockDeliver i) s = .next t ∧
          (t.stream i).asm = none ∧ (t.stream i).segs = (s.stream i).segs ∧ (t.stream i).last = (s.stream i).last) ∧
        (∀ lo, a.deliver = true → intakeFrom i s = some lo →
          (∀ f b, (s.bound i).flipAt = some f → boundaryIndex s i f.1 = some b → a.index + xs.length < b) →
          let from_ := max lo a.index
          from_ < a.index + xs.length →
          ∃ t, exec (.bundleSuperblockDeliver i) s = .next t ∧ (t.stream i).asm = none ∧
            (t.stream i).segs = { start := from_, data := xs.drop (from_ - a.index) } :: (s.stream i).segs ∧
            (t.stream i).last = some (a.index + xs.length - 1)))

/-- The samples of data blocks (04 R71): two of 16 bits a block in the 16-bit format, eight of 12 bits, left-justified, in
three blocks of the packed format. -/
def Claim.SampleFormats : Prop :=
  (∀ w : U64, samples16 [w] =
    [{ i := (w.extractLsb' 0 16).toInt, q := (w.extractLsb' 16 16).toInt },
     { i := (w.extractLsb' 32 16).toInt, q := (w.extractLsb' 48 16).toInt }]) ∧
  (∀ a b c : U64, (samples12 3 [a, b, c]).length = 8 ∧
    (samples12 3 [a, b, c]).head? =
      some { i := 16 * (a.extractLsb' 0 12).toInt, q := 16 * (a.extractLsb' 12 12).toInt })

/-- Superblocks become samples: the claims above, together. -/
def Obligations.SampleDelivery : Prop :=
  Claim.SuperblockDelivery ∧ Claim.SampleFormats

/-- The stream commands (04 R80, R81; 19 R379). STREAM_RESYNC asks on every lane of a running stream's bundle for 64 status
blocks. STREAM_START of a running stream that stopped with COUNT_REVERSE awaits the start of delivery; it is BUSY_RUNNING where the
stream did not stop so or a STREAM_START waits already, BAD_PARAM at offset 2 where HIGH would not go beyond the last
delivered index, and NOT_READY while the bundle is not READY, in this order. A stream that the active plan does not run is
BAD_PARAM. -/
def Claim.StreamCommands : Prop :=
  ∀ (c : Cmd) (rest : List Cmd) (s : State),
    let t := taken c rest s
    ((∀ i : Fin 16, c.u 0 1 = i.val → ((planNow t).stream i.val).run = false) →
      (Ready .streamResync c rest s → exec .streamResync s = .next (answer c (some 1) .badParam 0 [] t)) ∧
      (Ready .streamStart c rest s → exec .streamStart s = .next (answer c (some 1) .badParam 0 [] t))) ∧
    ∀ i : Fin 16, c.u 0 1 = i.val → ((planNow t).stream i.val).run = true →
      (Ready .streamResync c rest s → ∃ u, exec .streamResync s = .next (answer c (some 1) .ok 0 [] u) ∧
        (∀ k ∈ bundle t i, (u.rx k).resyncLeft = 64) ∧ u.lanes.lanes = t.lanes.lanes ∧ u.lanes.streams = t.lanes.streams) ∧
      (Ready .streamStart c rest s →
        let index := c.u 2 2 * 2 ^ 48 + (t.stream i).count.getD 0
        (((t.stream i).reversed = false ∨ (startWaiting i t).isSome = true) →
          exec .streamStart s = .next (answer c (some 1) .busyRunning 0 [] t)) ∧
        ((t.stream i).reversed = true → startWaiting i t = none →
          ((∀ e, (t.stream i).last = some e → index ≤ e) →
            exec .streamStart s = .next (answer c (some 1) .badParam 2 [] t)) ∧
          (∀ e, (t.stream i).last = some e → e < index →
            ((t.stream i).ready = false → exec .streamStart s = .next (answer c (some 1) .notReady 0 [] t)) ∧
            ((t.stream i).ready = true →
              exec .streamStart s = .next (await c (some 1) (.streamStart i (c.u 2 2)) t)))))

/-- STREAM_START_DELIVERY (19 R379): HIGH is checked again against the superblock that has opened. Beyond the last delivered
index delivery begins with it under HIGH, and the waiting command is answered with its index; otherwise the command is
answered BAD_PARAM at offset 2 and the stream stays stopped. With no open superblock, or no command waiting, nothing happens. -/
def Claim.StreamStartDelivers : Prop :=
  ∀ (i : Fin 16) (s : State),
    (((s.stream i).asm = none ∨ startWaiting i s = none ∨ (s.stream i).startDue = false ∨ (s.stream i).reversed = false) →
      exec (.streamStartDelivery i) s = .next s) ∧
    ∀ (a : Assembly) (d : Deferred) (h : Nat), (s.stream i).asm = some a → d ∈ s.host.deferred → d.wait = .streamStart i h →
      (∀ x ∈ s.host.deferred, ∀ k, x.wait = .streamStart i k → x = d) →
      (s.stream i).startDue = true → (s.stream i).reversed = true →
      ((∀ e, (s.stream i).last = some e → e < a.index) → ∃ u, exec (.streamStartDelivery i) s =
          .next (finished d { status := .ok, detail := 0, payload := toLe 8 a.index } u) ∧
        (u.stream i).delivering = true ∧ (u.stream i).reversed = false ∧ (u.stream i).high = BitVec.ofNat 16 h ∧
        (u.stream i).asm = some { a with deliver := true } ∧ u.host.deferred = s.host.deferred.erase d) ∧
      (∀ e, (s.stream i).last = some e → a.index ≤ e → ∃ u, exec (.streamStartDelivery i) s =
          .next (finished d { status := .badParam, detail := 2, payload := [] } u) ∧
        (u.stream i).reversed = true ∧ (u.stream i).delivering = (s.stream i).delivering ∧
        u.host.deferred = s.host.deferred.erase d)

/-- STREAM_RESYNC and STREAM_START: the claims above, together. -/
def Obligations.StreamCommands : Prop :=
  Claim.StreamCommands ∧ Claim.StreamStartDelivers

/-- The Plains array (05 R85 to R87, R99, R100, R105). A free pipeline takes the first ready transform, which gets the next place in the order of
dispatch, and the epoch's PEAK_BUSY and MAX_WAIT follow. A four-step transform's columns done, their result stands in near
memory and its row pass waits among the ready ones. A transform that no earlier one of its view holds back leaves as a spectrum: it joins the
record queue of its view and the queue of each consumer the view has, raises the view's flags that it carries and is
counted. Without PLL_D's clock, and for near memory's part without PLL_M's, none of it happens. -/
def Claim.TransformArray : Prop :=
  ∀ (p : Fin 96) (s : State),
    (∀ x rest, pipeOf s p = none → s.plains.ready = x :: rest → dclk s = true →
      ∃ t, exec (.transformDispatch p) s = .next t ∧ pipeOf t p = some { x with order := s.plains.dispatched } ∧
        t.plains.ready = rest ∧ t.plains.dispatched = s.plains.dispatched + 1 ∧
        t.plains.peakBusy = max s.plains.peakBusy ((busyPipes s).length + 1) ∧
        t.plains.maxWait = max s.plains.maxWait (dclkOf (now s) - x.readyAt) ∧ ∀ q, q ≠ p → pipeOf t q = pipeOf s q) ∧
    ((pipeOf s p ≠ none ∨ s.plains.ready = []) → exec (.transformDispatch p) s = .next s) ∧
    (∀ x, pipeOf s p = some x → dclk s = true → locked s 3 = true → (xView s x).fourStep = true → x.row = false →
      s.down.near.data.wf →
      let v := xView s x
      let bytes := (fourStepColumns v.log2n v.scale (windowCoeff (s.bank x.bank) v) (gathered s x)).1.flatMap interBytes
      ∃ t y, exec (.fourStepPassDone p) s = .next t ∧ pipeOf t p = none ∧ y ∈ t.plains.ready ∧
        t.plains.ready.length = s.plains.ready.length + 1 ∧ (∀ z ∈ s.plains.ready, z ∈ t.plains.ready) ∧
        y.row = true ∧ y.view = x.view ∧ y.j = x.j ∧ y.bank = x.bank ∧ y.epoch = x.epoch ∧
        memRead t.down.near.data (interAt s x) bytes.length = bytes) ∧
    (∀ x, pipeOf s p = some x → dclk s = true → ((xView s x).fourStep = true → x.row = true ∧ locked s 3 = true) →
      (s.plains.ready ++ busyPipes s).any (leavesBefore s x) = false →
      let sp := spectrumOf s x
      let old := s.view x.view
      ∃ t, exec (.spectrumComplete p) s = .next t ∧ pipeOf t p = none ∧
        (t.view x.view).recQ = old.recQ ++ [sp] ∧ (t.view x.view).spectra = old.spectra + 1 ∧
        (t.view x.view).maskQ = old.maskQ ++ (if (xView s x).geyser then [sp] else []) ∧
        (t.view x.view).poolQ = old.poolQ ++ (if ((planIn s x.bank).poolOf x.view.val).present then [sp] else []) ∧
        (t.view x.view).calQ = old.calQ ++ (if (xView s x).caldera ≠ 0 then [sp] else []) ∧
        (sp.sat.isSome = true → (t.view x.view).flags.now.getLsbD 0 = true ∧ (t.view x.view).satCount = satAdd old.satCount 1) ∧
        (sp.clamp = true → (t.view x.view).flags.now.getLsbD 1 = true) ∧
        (sp.invalid = true → (t.view x.view).flags.now.getLsbD 4 = true) ∧ ∀ v, v ≠ x.view → t.view v = s.view v) ∧
    (∀ x, pipeOf s p = some x → (s.plains.ready ++ busyPipes s).any (leavesBefore s x) = true →
      exec (.spectrumComplete p) s = .next s) ∧
    (pipeOf s p = none → exec (.fourStepPassDone p) s = .next s ∧ exec (.spectrumComplete p) s = .next s) ∧
    (dclk s = false → exec (.transformDispatch p) s = .next s ∧ exec (.fourStepPassDone p) s = .next s ∧
      exec (.spectrumComplete p) s = .next s)

/-- SPECTRUM_RECORD (04 R70, 11 R216): the view's oldest spectrum waits until every sample of its window has been checked. It then
leaves the queue with the link marks over its window as they stand and, where a clock of its epoch has lost lock since,
INVALID_CLOCK (21 R419); LINK_ERR and INVALID_CLOCK raise the view's flags; and its records are emitted, none for a view without formats. -/
def Claim.SpectrumRecords : Prop :=
  ∀ (v : Fin 64) (s : State), ((s.view v).recQ = [] → exec (.spectrumRecord v) s = .next s) ∧
    ∀ (x : Spectrum) (rest : List Spectrum), (s.view v).recQ = x :: rest →
      ((s.stream x.stream).checkedTo ≤ x.hi → exec (.spectrumRecord v) s = .next s) ∧
      (engines s = true → x.hi < (s.stream x.stream).checkedTo →
        let m := marksOver (s.stream x.stream).marks x.lo x.hi
        let late := !x.invalid && invalidClock s x.epoch
        let y := { x with linkErr := m.1, overrange := m.2.1, convUnlock := m.2.2, invalid := x.invalid || late }
        ∃ u, (u.view v).recQ = rest ∧ (m.1 = true → (u.view v).flags.now.getLsbD 2 = true) ∧
          (late = true → (u.view v).flags.now.getLsbD 4 = true) ∧ (u.view v).spectra = (s.view v).spectra ∧
          (∀ w, w ≠ v → u.view w = s.view w) ∧ u.records = s.records ∧
          (((planIn s x.bank).view v.val).formats = 0 → exec (.spectrumRecord v) s = .next u) ∧
          (((planIn s x.bank).view v.val).formats ≠ 0 → exec (.spectrumRecord v) s = .next (emitSpectrum y m u)))

/-- MASK_EVALUATE (07 R129, R130, R133): the view's oldest spectrum is taken; the state of a threshold slot becomes its decision,
which is false for a spectrum that its EXCLUDE mask excludes, and such a spectrum is counted; the state of a slot that decides no spectrum is false. The
slots of every other view stay. With no spectrum waiting, or without PLL_D's clock, nothing happens. -/
def Claim.MaskSlots : Prop :=
  ∀ (v : Fin 64) (s : State),
    (((s.view v).maskQ = [] ∨ dclk s = false) → exec (.maskEvaluate v) s = .next s) ∧
    ∀ (x : Spectrum) (rest : List Spectrum), dclk s = true → (s.view v).maskQ = x :: rest → x.view = v →
      ∃ t, exec (.maskEvaluate v) s = .next t ∧ (t.view v).maskQ = rest ∧
        (∀ k : Fin 4,
          let n := slotIndex v k
          let m := (planIn s x.bank).mask n.val
          ((m.kind = 0 ∨ m.kind = 4) → vget t.geyser.slotPrev n = false ∧
            vget t.geyser.excluded n = vget s.geyser.excluded n) ∧
          (m.kind ≠ 0 → m.kind ≠ 4 →
            vget t.geyser.slotPrev n = (!x.excludedBy m.exclude && slotTrue s x m) ∧
            vget t.geyser.excluded n = if x.excludedBy m.exclude then satAdd (vget s.geyser.excluded n) 1
              else vget s.geyser.excluded n)) ∧
        ∀ w k, w ≠ v → vget t.geyser.slotPrev (slotIndex w k) = vget s.geyser.slotPrev (slotIndex w k) ∧
          vget t.geyser.excluded (slotIndex w k) = vget s.geyser.excluded (slotIndex w k)

/-- Transforms, spectra and their mask slots: the claims above, together. -/
def Obligations.Spectra : Prop :=
  Claim.TransformArray ∧ Claim.SpectrumRecords ∧ Claim.MaskSlots

/-- ZOOM_OUTPUT (06 R111, R112): the next output of a channel that is not STOPPED nor waiting for its first sample is formed
once all of its D inputs have been delivered: the output counts, and the channel keeps its settings and s0; up to its fill
outputs it keeps its state and delivers none, and from then on it is RUNNING. Any other output does not arise. -/
def Claim.ZoomOutputs : Prop :=
  ∀ (c : Fin 32) (s : State),
    let z := s.zoom c
    let due := z.state ≠ .stopped ∧ z.waiting = false ∧ 0 < z.cfg.d ∧
      z.s0 + (z.m + 1) * z.cfg.d ≤ (s.stream (zoomStream s c)).avail
    (dclk s = true → due → ∃ t, exec (.zoomOutput c) s = .next t ∧
      (t.zoom c).m = z.m + 1 ∧ (t.zoom c).cfg = z.cfg ∧ (t.zoom c).s0 = z.s0 ∧
      (z.cfg.fill ≤ z.m → (t.zoom c).state = .running) ∧
      (z.m < z.cfg.fill → (t.zoom c).state = z.state ∧ (t.zoom c).segs = z.segs)) ∧
    ((dclk s = false ∨ ¬due) → exec (.zoomOutput c) s = .next s)

/-- SYNC (06 R115, R116): a rising edge on TERRACE_SYNC records one for SYNC_DELAY later and replaces a pending one, which
participating channels flag; on a node that does not forward it nothing is sent. Before its time, and with none pending, nothing happens; at its time a participating channel whose sample lies ahead
awaits it, one whose sample has been delivered restarts there, and no SYNC is pending. -/
def Claim.ZoomSync : Prop :=
  ∀ s : State,
    (engines s = true → ∃ t, exec .terraceSyncEdge s = .next t ∧
      t.terrace.sync = some (now s + s.params.syncDelay * Config.usUnits) ∧
      ((s.fabric.role ≠ .manager ∨ s.params.syncForward = false) → t.out = s.out) ∧
      ∀ c, s.terrace.sync.isSome = true → takesSync s c = true → (t.zoom c).flags.now.getLsbD 2 = true) ∧
    (engines s = false → exec .terraceSyncEdge s = .next s ∧ exec .zoomSyncRestart s = .next s) ∧
    (s.terrace.sync = none → exec .zoomSyncRestart s = .next s) ∧
    (∀ ts, s.terrace.sync = some ts → now s < ts → exec .zoomSyncRestart s = .next s) ∧
    (∀ ts, engines s = true → s.terrace.sync = some ts → ts ≤ now s → ∃ t, exec .zoomSyncRestart s = .next t ∧
      t.terrace.sync = none ∧
      ∀ c x, takesSync s c = true → placeTime s (zoomStream s c) ts = some x → (s.zoom c).cfg.source < 16 →
        ((s.stream (zoomStream s c)).avail ≤ x → (t.zoom c).syncAt = some x ∧ (t.zoom c).cfg = (s.zoom c).cfg) ∧
        (x < (s.stream (zoomStream s c)).avail → (s.zoom c).waiting = false →
          (t.zoom c).syncAt = none ∧ (t.zoom c).s0 = x ∧ (t.zoom c).cfg = (s.zoom c).cfg ∧ (t.zoom c).flags.now.getLsbD 1 = true))

/-- The zoom commands (06 R113, R115; 19 R376). ZOOM_STOP, ZOOM_LOAD and ZOOM_START are NOT_READY without an ACTIVE bank and BAD_PARAM for a channel that
the running plan does not configure. ZOOM_STOP stops the channel, and leaves a stopped one as it is; ZOOM_LOAD into a stopped
host-tunable one takes the settings it carries, is REFUSED_STATE for one that is not host-tunable, BUSY_RUNNING for one that is not stopped, and BAD_PARAM
for the first field that differs from the plan where it may not; ZOOM_START starts a stopped channel, answers the next sample where
it is known, and is REFUSED_STATE for any other. ZOOM_SYNC records the time given, for 0 the present time and SYNC_DELAY, and is BAD_PARAM for a time that is no
station time or lies less than 10 us ahead. -/
def Claim.ZoomCommands : Prop :=
  ∀ (c : Cmd) (rest : List Cmd) (s : State),
    let t := taken c rest s
    (∀ i ∈ [Instr.zoomStop, .zoomLoad, .zoomStart], Ready i c rest s →
      (activeBank t = none → exec i s = .next (answer c (some 4) .notReady 0 [] t)) ∧
      (activeBank t ≠ none → (∀ z : Fin 32, c.u 0 1 = z.val → ((planNow t).zoom z.val).present = false) →
        exec i s = .next (answer c (some 4) .badParam 0 [] t))) ∧
    (∀ (z : Fin 32) b, c.u 0 1 = z.val → activeBank t = some b → ((planNow t).zoom z.val).present = true →
      (Ready .zoomStop c rest s →
        ((t.zoom z).state = .stopped → exec .zoomStop s = .next (answer c (some 4) .ok 0 [] t)) ∧
        ((t.zoom z).state ≠ .stopped → ∃ u, exec .zoomStop s = .next (answer c (some 4) .ok 0 [] u) ∧
          (u.zoom z).state = .stopped ∧ (u.zoom z).syncAt = none ∧ (u.zoom z).waiting = false ∧ (u.zoom z).cfg = (t.zoom z).cfg)) ∧
      (Ready .zoomLoad c rest s →
        (((planNow t).zoom z.val).hostTunable = false → exec .zoomLoad s = .next (answer c (some 4) .refusedState 0 [] t)) ∧
        (((planNow t).zoom z.val).hostTunable = true →
          ((t.zoom z).state ≠ .stopped → exec .zoomLoad s = .next (answer c (some 4) .busyRunning 0 [] t)) ∧
          ((t.zoom z).state = .stopped →
            (∀ o, loadBad ((planNow t).zoom z.val) c = some o → exec .zoomLoad s = .next (answer c (some 4) .badParam o [] t)) ∧
            (loadBad ((planNow t).zoom z.val) c = none → exec .zoomLoad s = .next (answer c (some 4) .ok 0 []
              (t.modZoom z fun r => { r with hostLoaded := true
                                             cfg := { r.cfg with ftw := c.u 4 4, pow := c.u 8 4, zshift := c.u 2 1
                                                                 zgain := c.u 12 4
                                                                 m := [c.u 20 4, c.u 24 4, c.u 28 4, c.u 32 4, c.u 36 4] } })))))) ∧
      (Ready .zoomStart c rest s →
        ((t.zoom z).state ≠ .stopped → exec .zoomStart s = .next (answer c (some 4) .refusedState 0 [] t)) ∧
        ((t.zoom z).state = .stopped → ∃ u x, exec .zoomStart s = .next (answer c (some 4) .ok 0 (toLe 8 x) u) ∧
          (u.zoom z).state = .filling ∧ (u.zoom z).m = 0 ∧ (u.zoom z).waiting = true ∧ (u.zoom z).cfg = (t.zoom z).cfg ∧
          ∀ n, nextSample t (zoomStream t z) = some n → x = n ∧ (u.zoom z).s0 = n))) ∧
    (Ready .zoomSync c rest s →
      let ts := if c.time 0 = 0 then c.recorded + t.params.syncDelay * Config.usUnits else c.time 0
      ((c.badTime 0 = true ∨ ts < c.recorded + 10 * Config.usUnits) →
        exec .zoomSync s = .next (answer c (some 4) .badParam 0 [] t)) ∧
      (c.badTime 0 = false → c.recorded + 10 * Config.usUnits ≤ ts →
        ∃ u, exec .zoomSync s = .next (answer c (some 4) .ok 0 (timeBytes ts) u) ∧ u.terrace.sync = some ts ∧
          ∀ z, t.terrace.sync.isSome = true → takesSync t z = true → (u.zoom z).flags.now.getLsbD 2 = true))

/-- Zoom outputs, SYNC and the zoom commands: the claims above, together. -/
def Obligations.ZoomChannels : Prop :=
  Claim.ZoomOutputs ∧ Claim.ZoomSync ∧ Claim.ZoomCommands

/-- Pool (06 R118 to R128), for entries that can be accessed. POOL_ACCUMULATE takes the view's oldest spectrum: of a period that has closed it counts as LATE;
the first one of a period, with none open, opens it; one that its EXCLUDE mask excludes is counted as excluded and enters no bin; any other enters the bins: M
rises by one, and in each front bin S1, S2 and the occupancy grow by p, p squared and the comparison with the threshold. POOL_SWEEP closes the
open period once its sweep time has come, and the next one opens where the bank of its first epoch has the view in Pool.
POOL_RECORDS takes the oldest closed period off once its samples have been checked, emits its two kinds of records and
clears LATE. -/
def Claim.PoolPeriods : Prop :=
  ∀ (v : Fin 64) (s : State),
    (((s.view v).poolQ = [] ∨ dclk s = false) → exec (.poolAccumulate v) s = .next s) ∧
    (∀ x rest, dclk s = true → (s.view v).poolQ = x :: rest → x.epoch ≠ Config.noEpoch → entriesReady s x.bank v = true →
      (∀ q, (vget s.pool v).period = some q → entriesReady s q.bank v = true) →
      let e := poolEntry s x.bank v
      let r := vget s.pool v
      let first := periodFirst s e.period x.epoch
      (∀ c, r.closedTo = some c → first ≤ c → ∃ t, exec (.poolAccumulate v) s = .next t ∧
        vget t.pool v = { r with late := r.late + 1 } ∧ (t.view v).poolQ = rest) ∧
      ((∀ c, r.closedTo = some c → c < first) → r.period = none →
        ∃ t p, exec (.poolAccumulate v) s = .next t ∧ (t.view v).poolQ = rest ∧ (vget t.pool v).period = some p ∧
          p.first = first ∧ p.bank = x.bank ∧ (vget t.pool v).tag = !r.tag ∧
          (x.excludedBy e.exclude = true → p.m = 0 ∧ p.excluded = 1) ∧
          (x.excludedBy e.exclude = false → p.m = 1 ∧ p.excluded = 0)) ∧
      (∀ q, (∀ c, r.closedTo = some c → c < first) → r.period = some q → first ≤ q.first →
        (x.excludedBy e.exclude = true → ∃ t, exec (.poolAccumulate v) s = .next t ∧ (t.view v).poolQ = rest ∧
          vget t.pool v = { r with period := some { q with excluded := q.excluded + 1 } }) ∧
        (x.excludedBy e.exclude = false → ∃ t p, exec (.poolAccumulate v) s = .next t ∧ (t.view v).poolQ = rest ∧
          (vget t.pool v).period = some p ∧ p.m = q.m + 1 ∧ p.excluded = q.excluded ∧ p.first = q.first ∧
          ∀ i, i < x.bins.length → i < frontCount s x.bank v → i < r.bins.length → r.bins.length = frontCount s x.bank v →
            let old := r.bins.getD i default
            let pw := (poolP e.exp (powerF32 (x.bins.getD i default))).1
            let limit := memLe (s.bank x.bank).thresholds
              (2 * schedAddr (s.bank x.bank) false x.epoch (e.threshBase + i)) 2
            ((vget t.pool v).bins.getD i default).s1 = old.s1 + BitVec.ofNat 48 pw ∧
            ((vget t.pool v).bins.getD i default).s2 = old.s2 + BitVec.ofNat 48 (pw * pw) ∧
            ((vget t.pool v).bins.getD i default).occ = if limit < pw then old.occ + 1 else old.occ))) ∧
    (∀ p k, (vget s.pool v).period = some p → s.plans.epoch = some k →
      let stop := periodEnd s (poolEntry s p.bank v).period p.first
      (boundaryTime s k < sweepFrom s v p → exec (.poolSweep v) s = .next s) ∧
      (firmware s = true → dclk s = true → entriesReady s p.bank v = true → sweepFrom s v p ≤ boundaryTime s k →
        ∃ t, exec (.poolSweep v) s = .next t ∧ (vget t.pool v).closedTo = some p.first ∧
          (∃ bins, (vget t.pool v).closed = (vget s.pool v).closed ++ [({ p with last := stop - 1 }, bins)]) ∧
          ((∀ b, bankFor s stop = some b → (poolEntry s b v).present = false) → (vget t.pool v).period = none) ∧
          (∀ b, bankFor s stop = some b → (poolEntry s b v).present = true →
            ∃ n, (vget t.pool v).period = some n ∧ n.first = stop ∧ n.bank = b ∧ n.m = 0 ∧
              (vget t.pool v).tag = !(vget s.pool v).tag))) ∧
    ((vget s.pool v).period = none → exec (.poolSweep v) s = .next s) ∧
    ((vget s.pool v).closed = [] → exec (.poolRecords v) s = .next s) ∧
    (∀ p bins rest, (vget s.pool v).closed = (p, bins) :: rest →
      ((∃ t ∈ p.taken, (s.stream t.stream).checkedTo ≤ t.hi) → exec (.poolRecords v) s = .next s) ∧
      (engines s = true → (∀ t ∈ p.taken, t.hi < (s.stream t.stream).checkedTo) →
        let late := (vget s.pool v).late
        exec (.poolRecords v) s = .next (poolRecords v 3 p bins late (poolRecords v 2 p bins late
          (s.modPool v fun r => { r with closed := rest, late := 0 })))))

/-- Spectral kurtosis (06 R124, R125): an estimate is 0 with fewer than two spectra or no power, and 0 for constant power;
the mask bit never stands where there is no estimate. -/
def Claim.KurtosisCorners : Prop :=
  ∀ (e : PoolE) (m : Nat) (b : PoolBin),
    (m < 2 → (finishBin e m b).sk = 0 ∧ (finishBin e m b).mask = false) ∧
    (b.s1 = 0 → (finishBin e m b).sk = 0 ∧ (finishBin e m b).mask = false) ∧
    (2 ≤ m → m * b.s2.toNat = b.s1.toNat * b.s1.toNat → b.s1 ≠ 0 → (finishBin e m b).sk = 0)

/-- Pool periods and spectral kurtosis: the claims above, together. -/
def Obligations.PoolPeriods : Prop :=
  Claim.PoolPeriods ∧ Claim.KurtosisCorners

/-- CALDERA_REDUCE (10 R189, R190): the plane that a view feeds takes the view's oldest spectrum when none dispatched before it
waits for that plane; one that the view excludes is counted and adds nothing; another adds its increments to the plane's
queue, up to 524,288, and those beyond are dropped and counted. A spectrum of a view that feeds no plane is only taken.
CALDERA_INCREMENT (10 R186, R190): the oldest queued increment adds one to its cell, saturating at 65,535 with the plane's
flag 0, and leaves every other cell. With nothing queued, or without PLL_D's clock, nothing happens. -/
def Claim.DensityIncrements : Prop :=
  ∀ s : State,
    (∀ v : Fin 64, ((s.view v).calQ = [] ∨ dclk s = false) → exec (.calderaReduce v) s = .next s) ∧
    (∀ (v : Fin 64) x rest, dclk s = true → (s.view v).calQ = x :: rest →
      let e := (planIn s x.bank).view v.val
      (e.plane = none → exec (.calderaReduce v) s = .next (s.modView v fun r => { r with calQ := rest })) ∧
      (∀ p, e.plane = some p →
        (planeFirst s p x = false → exec (.calderaReduce v) s = .next s) ∧
        (planeFirst s p x = true → x.excludedBy e.calExclude = true → ∃ t, exec (.calderaReduce v) s = .next t ∧
          (t.view v).calQ = rest ∧ planeRt t p = { planeRt s p with excluded := satAdd (planeRt s p).excluded 1 }) ∧
        (planeFirst s p x = true → x.excludedBy e.calExclude = false →
          let xs := increments ((planIn s x.bank).planeOf p.val) (columnMap (s.bank x.bank) e) (logBins s x 0 (x.bins.length - 1))
          let room := 524288 - (planeRt s p).queue.length
          ∃ t, exec (.calderaReduce v) s = .next t ∧ (t.view v).calQ = rest ∧
            (planeRt t p).queue = (planeRt s p).queue ++ xs.take room ∧ (planeRt t p).cells = (planeRt s p).cells ∧
            (planeRt t p).incDropped = satAdd (planeRt s p).incDropped (xs.length - room) ∧
            (room < xs.length → (planeRt t p).flags.now.getLsbD 1 = true)))) ∧
    (∀ p : Fin 2, ((planeRt s p).queue = [] ∨ dclk s = false) → exec (.calderaIncrement p) s = .next s) ∧
    (∀ (p : Fin 2) col row rest, dclk s = true → (planeRt s p).queue = (col, row) :: rest → col < 4096 →
      (planeRt s p).cells.Pairwise (fun a b => a.1 < b.1) → ∃ t, exec (.calderaIncrement p) s = .next t ∧
        (planeRt t p).queue = rest ∧ cellAt (planeRt t p).cells row col = min 65535 (cellAt (planeRt s p).cells row col + 1) ∧
        (∀ r c, c < 4096 → (r, c) ≠ (row, col) → cellAt (planeRt t p).cells r c = cellAt (planeRt s p).cells r c) ∧
        (cellAt (planeRt s p).cells row col = 65535 → (planeRt t p).flags.now.getLsbD 0 = true) ∧
        (planeRt t p).cells.Pairwise (fun a b => a.1 < b.1))

/-- Render ticks (10 R191 to R193, R197, R198). A tick issued within 20 us of its time sweeps the plane, which then holds nothing where a
clear is pending and what the decay leaves otherwise, and is counted; with a target, no frame on its way and a FREE buffer the frame is
written to the lowest-numbered one, which is RENDERING, and its base address goes on its way. Outside that time nothing is
issued; a tick that was not issued by then is missed and counted, once. -/
def Claim.RenderTicks : Prop :=
  ∀ (p : Fin 2) (s : State), (nextTick s p = none → exec (.renderTick p) s = .next s ∧ exec (.ticksMissed p) s = .next s) ∧
    ∀ tick, nextTick s p = some tick →
      let e := (planNow s).planeOf p.val
      let x := planeRt s p
      ((now s < tick ∨ tick + 20 * Config.usUnits < now s) → exec (.renderTick p) s = .next s) ∧
      (dclk s = true → firmware s = true → tick ≤ now s → now s ≤ tick + 20 * Config.usUnits → x.flight = none →
        ∃ t, exec (.renderTick p) s = .next t ∧ (planeRt t p).ticksDone = x.ticksDone + 1 ∧
          (planeRt t p).renders = x.renders + 1 ∧ (planeRt t p).clearPending = false ∧
          (x.clearPending = true → (planeRt t p).cells = []) ∧
          (x.clearPending = false → x.flipClear = false →
            (e.decayMode = 0 → (planeRt t p).cells = []) ∧
            (1 < e.decayMode → (planeRt t p).cells = x.cells) ∧
            (e.decayMode = 1 → e.decayF < 65536 → x.cells.Pairwise (fun a b => a.1 < b.1) →
              ∀ r c, cellAt (planeRt t p).cells r c = cellAt x.cells r c * e.decayF / 65536)) ∧
          (∀ o b k, targetOf e = some o → (List.finRange 4).find? (fun b => vget x.roles b = .free) = some b → bankNow s = some k →
            let f := frameBytes (s.bank k) e x.cells
            let a := e.bufs.getD b.val 0
            (planeRt t p).flight = some (o, frameRef e p b) ∧ vget (planeRt t p).roles b = .rendering ∧
            t.down.near.data =
              memWrite (memWrite s.down.near.data a f.1) (a + chromaOffset e.frameW e.frameH (frameTen e.format)) f.2) ∧
          ((targetOf e = none ∨ ∀ b, vget x.roles b ≠ .free) → (planeRt t p).flight = none ∧ t.down.near = s.down.near)) ∧
      (engines s = true → tick + 20 * Config.usUnits < now s → exec (.ticksMissed p) s = .next (s.modPlane p fun x =>
        { x with ticksDone := x.ticksDone + 1, ticksMissed := satAdd x.ticksMissed 1, flags := x.flags.raise 2 })) ∧
      (now s ≤ tick + 20 * Config.usUnits → exec (.ticksMissed p) s = .next s)

/-- Increments and render ticks: the claims above, together. -/
def Obligations.DensityPlanes : Prop :=
  Claim.DensityIncrements ∧ Claim.RenderTicks

/-- The three base registers (10 R192, R202 to R205, R207, R208). The base address that a render has sent arrives in SHADOW, an older frame there
being replaced, and after the close of a running raster's window the write is late and counted. At the close of the window a new SHADOW becomes LATCH; a mode change that waits for
the frame's end then ends the raster. At the frame start LATCH becomes ACTIVE and every running output counts a frame, or a raster that is to stop is OFF. An
underrun leaves the rest of the frame black and is counted. While the raster or the firmware's engines stand none of it happens. -/
def Claim.FrameRegisters : Prop :=
  ∀ (o : Fin 2) (s : State),
    (∀ c r, (List.finRange 2).find? (fun c => (rendering s c).any fun x => x.1 = o) = some c → rendering s c = some (o, r) →
      (engines s = true → locked s 3 = true → locked s 5 = true → ∃ t, exec (.frameBaseWrite o) s = .next t ∧
        (outRt t o).shadow = some r ∧ (outRt t o).shadowNew = true ∧ (planeRt t c).flight = none ∧
        (outRt t o).latch = (outRt s o).latch ∧ (outRt t o).active = (outRt s o).active ∧
        (outRt t o).late = (if rasterRuns s o && (outRt s (lead s o)).closed then satAdd (outRt s o).late 1 else (outRt s o).late)) ∧
      ((locked s 3 = false ∨ locked s 5 = false) → exec (.frameBaseWrite o) s = .next s)) ∧
    ((∀ c r, rendering s c ≠ some (o, r)) → exec (.frameBaseWrite o) s = .next s) ∧
    (engines s = true → lead s o = o → rasterRuns s o = true → (outRt s o).closed = false → locked s 5 = true →
      ((∀ i, (outRt s i).newMode = none) → ∃ t, exec (.frameWindowClose o) s = .next t ∧ (outRt t o).closed = true ∧
        (outRt t o).active = (outRt s o).active ∧
        (∀ r, (outRt s o).shadow = some r → (outRt s o).shadowNew = true → (outRt t o).latch = some r ∧ (outRt t o).shadow = none) ∧
        (((outRt s o).shadow = none ∨ (outRt s o).shadowNew = false) → (outRt t o).latch = (outRt s o).latch)) ∧
      (∀ m, (outRt s o).newMode = some m → (outRt s o).running = true → (outRt s o).stopAtEnd = false →
        ∃ t, exec (.frameWindowClose o) s = .next t ∧ (outRt t o).running = false ∧ (outRt t o).state = .modeChange ∧
          (outRt t o).resume = true)) ∧
    ((rasterRuns s o = false ∨ (outRt s o).closed = true) → exec (.frameWindowClose o) s = .next s) ∧
    (engines s = true → lead s o = o → rasterRuns s o = true → (outRt s o).closed = true → locked s 5 = true →
      (((members s o).any fun i => (outRt s i).stopAtEnd) = false → (∀ i, (outRt s i).joins = false) →
        ∃ t, exec (.frameStart o) s = .next t ∧ (outRt t o).closed = false ∧
          (∀ r, (outRt s o).latch = some r → (outRt t o).active = some r ∧ (outRt t o).latch = none) ∧
          ((outRt s o).latch = none → (outRt t o).active = (outRt s o).active) ∧
          ∀ i ∈ members s o, (outRt t i).frames = if (outRt s i).running then (outRt s i).frames + 1 else (outRt s i).frames) ∧
      (((members s o).any fun i => (outRt s i).stopAtEnd) = true →
        ∃ t, exec (.frameStart o) s = .next t ∧ ∀ i ∈ members s o, (outRt t i).running = false ∧
          ((outRt s i).running = true → (outRt t i).state = .off))) ∧
    ((rasterRuns s o = false ∨ (outRt s o).closed = false) → exec (.frameStart o) s = .next s) ∧
    (∀ n, engines s = true → (outRt s o).running = true → (outRt s o).abortAt = none → (outRt s (lead s o)).active.isSome = true →
      exec (.scanoutUnderrun o n) s = .next (s.modOutput o fun x =>
        { x with abortAt := some n, underrun := satAdd x.underrun 1, flags := x.flags.raise 1 })) ∧
    (∀ n, ((outRt s o).running = false ∨ (outRt s o).abortAt ≠ none) → exec (.scanoutUnderrun o n) s = .next s)

/-- Hot plug and mode changes (10 R206, R207). HPD_CHANGE: a low HPD stops the raster, drops the link and posts one event; a
pulse with the link lost retrains it and counts; the return takes what training reached; any of them that finds HPD as it says
already, and a pulse with the link kept, changes nothing. MODE_CHANGE_DONE puts the mode that waited in force with the new link once
every raster that it bears on has ended, and the raster runs again where the link carries the mode. -/
def Claim.DisplayLinks : Prop :=
  ∀ (o : Fin 2) (rate lanes : Nat) (s : State), firmware s = true →
    (s.dev.state ≠ .fault → (outRt s o).hpd = true →
      (∃ t, exec (.hpdChange o .low) s = .next t ∧ (outRt t o).hpd = false ∧ (outRt t o).state = .hpdLost ∧
        (outRt t o).running = false ∧ (outRt t o).lanes = 0 ∧ t.host.evSeq = s.host.evSeq + 1 ∧
        (outRt t o).flags.now.getLsbD 2 = true) ∧
      (∃ t, exec (.hpdChange o (.pulse false rate lanes)) s = .next t ∧ (outRt t o).hpd = true ∧
        (outRt t o).retrains = satAdd (outRt s o).retrains 1 ∧ (outRt t o).linkRate = rate ∧ (outRt t o).lanes = lanes) ∧
      exec (.hpdChange o (.pulse true rate lanes)) s = .next s ∧ exec (.hpdChange o (.back rate lanes)) s = .next s) ∧
    (s.dev.state ≠ .fault → (outRt s o).hpd = false →
      (∃ t, exec (.hpdChange o (.back rate lanes)) s = .next t ∧ (outRt t o).hpd = true ∧ (outRt t o).linkRate = rate ∧
        (outRt t o).lanes = lanes ∧ ((outRt s o).resume = false → lanes ≠ 0 → (outRt t o).state = .off)) ∧
      exec (.hpdChange o .low) s = .next s ∧ (∀ ok, exec (.hpdChange o (.pulse ok rate lanes)) s = .next s)) ∧
    (∀ waits, waits = ((changers s o).any fun i =>
        (if (outRt s i).newMode.any (·.tiled) then [0, 1] else members s i).any fun k => (outRt s k).running) →
      (∀ m, (outRt s o).state = .modeChange → waits = false → (outRt s o).newMode = some m →
        ∃ t, exec (.modeChangeDone o rate lanes) s = .next t ∧ (outRt t o).mode = some m ∧ (outRt t o).newMode = none ∧
          (outRt t o).linkRate = rate ∧ (outRt t o).lanes = lanes ∧
          (tiled s = false → m.tiled = false → (outRt s o).hpd = true → (outRt s (1 - o)).newMode = none →
            (outRt t o).running = carries { outRt s o with linkRate := rate, lanes := lanes } m)) ∧
      (((outRt s o).state ≠ .modeChange ∨ waits = true) → exec (.modeChangeDone o rate lanes) s = .next s))

/-- The display commands (10 R208), an output or plane beyond 1 being BAD_PARAM. DISPLAY_MODE: a field outside its limits is BAD_PARAM with its
offset; a mode without AT_FRAME_END of a running raster BUSY_RUNNING; one while an earlier change has not completed
REFUSED_STATE; one that takes near memory over its ceiling for a bank in force BUDGET_EXCEEDED with DETAIL 5; otherwise it is the mode of an output that stands, and waits for the
frame's end on a running one, and the generation counts it. DISPLAY_START of a connected output whose link carries its mode starts
the raster, or joins that of its pair; it is REFUSED_STATE for a running output, one without a mode, and one whose link does not carry it, and NOT_READY for one
that is not connected. DISPLAY_STOP stops a running raster at the frame's end. DISPLAY_EDID returns 256 bytes of a connected sink, and is
NOT_READY without one. CALDERA_CLEAR marks a plane that the ACTIVE bank feeds; it is NOT_READY without an ACTIVE bank, BAD_PARAM for another plane. -/
def Claim.DisplayCommands : Prop :=
  ∀ (c : Cmd) (rest : List Cmd) (s : State),
    let t := taken c rest s
    (2 ≤ c.u 0 1 →
      (Ready .displayStart c rest s → exec .displayStart s = .next (answer c (some 7) .badParam 0 [] t)) ∧
      (Ready .displayStop c rest s → exec .displayStop s = .next (answer c (some 7) .badParam 0 [] t)) ∧
      (∀ edid, Ready (.displayEdid edid) c rest s → exec (.displayEdid edid) s = .next (answer c none .badParam 0 [] t)) ∧
      (Ready .calderaClear c rest s → activeBank t ≠ none → exec .calderaClear s = .next (answer c (some 7) .badParam 0 [] t))) ∧
    (∀ x, Ready .displayMode c rest s → modeBad t c = some x → exec .displayMode s = .next (answer c (some 7) .badParam x [] t)) ∧
    (activeBank t = none → Ready .calderaClear c rest s → exec .calderaClear s = .next (answer c (some 7) .notReady 0 [] t)) ∧
    ∀ o : Fin 2, c.u 0 1 = o.val →
      (Ready .displayMode c rest s → modeBad t c = none →
        let m := modeOf c
        let runs := rasterRuns t o || (m.tiled && rasterRuns t (1 - o))
        let exceeds := (boundBanks t).any fun b =>
          decide (nearCeiling < nearLoad (planIn t b) (modesWith t o.val m) t.params.epochPeriod)
        (runs = true → bit 3 (c.u 2 1) = false → exec .displayMode s = .next (answer c (some 7) .busyRunning 0 [] t)) ∧
        ((runs = false ∨ bit 3 (c.u 2 1) = true) →
          (changing t o m = true → exec .displayMode s = .next (answer c (some 7) .refusedState 0 [] t)) ∧
          (changing t o m = false → exceeds = true → exec .displayMode s = .next (answer c (some 7) .budgetExceeded 5 [] t)) ∧
          (changing t o m = false → exceeds = false → ∃ u, exec .displayMode s = .next (answer c (some 7) .ok 0 [] u) ∧
            u.plans.gen = t.plans.gen + 1 ∧
            (runs = true → (outRt u o).newMode = some m ∧ (outRt u o).mode = (outRt t o).mode) ∧
            (runs = false → (outRt u o).mode = some m)))) ∧
      (Ready .displayStart c rest s →
        ((outRt t o).running = true → exec .displayStart s = .next (answer c (some 7) .refusedState 0 [] t)) ∧
        ((outRt t o).running = false →
          ((outRt t o).hpd = false → exec .displayStart s = .next (answer c (some 7) .notReady 0 [] t)) ∧
          ((outRt t o).hpd = true →
            (modeNow t o = none → exec .displayStart s = .next (answer c (some 7) .refusedState 0 [] t)) ∧
            (∀ m, modeNow t o = some m →
              (carries (outRt t o) m = true → ∃ u, exec .displayStart s = .next (answer c (some 7) .ok 0 [] u) ∧
                (rasterRuns t o = false → (outRt u o).running = true ∧ (outRt u o).state = .running) ∧
                (rasterRuns t o = true → (outRt u o).joins = true)) ∧
              (carries (outRt t o) m = false → exec .displayStart s = .next (answer c (some 7) .refusedState 0 []
                (t.modOutput o fun x => { x with state := .linkInsufficient }))))))) ∧
      (Ready .displayStop c rest s →
        (rasterRuns t o = true → ∃ u, exec .displayStop s = .next (answer c (some 7) .ok 0 [] u) ∧
          (∀ i ∈ members t o, (outRt u i).stopAtEnd = true) ∧ ∀ i, (outRt u i).running = (outRt t i).running) ∧
        (rasterRuns t o = false → exec .displayStop s = .next (answer c (some 7) .ok 0 [] t))) ∧
      (∀ edid, Ready (.displayEdid edid) c rest s →
        ((outRt t o).hpd = true → exec (.displayEdid edid) s = .next (answer c none .ok 0 (padTo 256 edid) t)) ∧
        ((outRt t o).hpd = false → exec (.displayEdid edid) s = .next (answer c none .notReady 0 [] t))) ∧
      (∀ b, Ready .calderaClear c rest s → activeBank t = some b →
        (((planIn t b).viewsOf.any fun v => v.2.plane = some o) = true →
          exec .calderaClear s = .next (answer c (some 7) .ok 0 [] (t.modPlane o fun x => { x with clearPending := true }))) ∧
        (((planIn t b).viewsOf.any fun v => v.2.plane = some o) = false →
          exec .calderaClear s = .next (answer c (some 7) .badParam 0 [] t)))

/-- Frame registers, links and the display commands: the claims above, together. -/
def Obligations.DisplayOutputs : Prop :=
  Claim.FrameRegisters ∧ Claim.DisplayLinks ∧ Claim.DisplayCommands

/-- A sequencer's own instructions (07 R142 to R144): each runs at the present address of an executing sequencer, and elsewhere
does nothing. COUNT with CLEAR sets its counter to 0; any other increments it, and at LIMIT sets it to 0 and branches; GOTO
branches; TIMER STOP stops its timer, TIMER START starts it, DURATION x 2 ns after TT or in hops of a view, and both discard an expiry that
waits (log entry 26: DEDUCED); HOLDOFF sets the holdoff; MARK latches TT, and with RECORD emits a record; STOP halts, and a program that
a flip has prepared then takes its place. No other sequencer changes. -/
def Claim.SequencerInstructions : Prop :=
  ∀ (q : Fin 16) (s : State),
    let w := instrNow s q
    let r := s.seqr q
    let n := iUnit w
    let addr := fun st => BitVec.ofNat 8 (((progOf s q).states.getD st none).getD 0)
    (runs s q 2 = true → bit 7 w = true → exec (.count q) s = .next (s.modSeq q fun r =>
      { r with counters := vset r.counters n 0, pc := r.pc + 1 })) ∧
    (runs s q 2 = true → bit 7 w = false → (satAdd (vget r.counters n) 1).toNat < bits 39 8 w →
      exec (.count q) s = .next (s.modSeq q fun r =>
        { r with counters := vset r.counters n (satAdd (vget r.counters n) 1), pc := r.pc + 1 })) ∧
    (runs s q 2 = true → bit 7 w = false → bits 39 8 w ≤ (satAdd (vget r.counters n) 1).toNat →
      exec (.count q) s = .next (s.modSeq q fun r =>
        { r with counters := vset r.counters n 0, state := BitVec.ofNat 5 (bits 44 40 w), pc := addr (bits 44 40 w) })) ∧
    (runs s q 2 = false → exec (.count q) s = .next s) ∧
    (runs s q 4 = true → exec (.goto q) s = .next (s.modSeq q fun r =>
      { r with state := BitVec.ofNat 5 (bits 8 4 w), pc := addr (bits 8 4 w) })) ∧
    (runs s q 4 = false → exec (.goto q) s = .next s) ∧
    (runs s q 3 = true →
      let tm : Option TimerRt :=
        if bits 8 7 w = 1 then none
        else if bit 9 w then
          (hopsFrom s (progView s q (bits 15 10 w)) (bits 47 16 w) r.tt.event).map fun x => .hops ⟨bits 15 10 w % 64, by omega⟩ x.1 x.2
        else some (.at (r.tt.event.time + bits 47 16 w * (2 * Config.nsUnits)))
      exec (.timer q) s = .next (s.modSeq q fun r =>
        { r with pc := r.pc + 1, timers := vset r.timers n tm
                 queue := r.queue.filter fun e => e.cond ≠ 337 + n.val
                 released := r.released.filter fun t => t.event.cond ≠ 337 + n.val })) ∧
    (runs s q 3 = false → exec (.timer q) s = .next s) ∧
    (runs s q 7 = true → exec (.holdoff q) s = .next (s.modSeq q fun r =>
      { r with holdoff := { mode := bits 5 4 w, view := bits 11 6 w, duration := bits 43 12 w }, pc := r.pc + 1 })) ∧
    (runs s q 7 = false → exec (.holdoff q) s = .next s) ∧
    (runs s q 8 = true → (bit 4 w = false ∨ r.bank = none) → exec (.mark q) s = .next (s.modSeq q fun r =>
      { r with mark := some r.tt, pc := r.pc + 1 })) ∧
    (∀ b, runs s q 8 = true → bit 4 w = true → r.bank = some b → exec (.mark q) s =
      .next (triggerRecord q b 1 { r.tt with late := r.late } 0 none 0 (vget s.geyser.stats q).heldCount.toNat 0
        (s.modSeq q fun r => { r with mark := some r.tt, pc := r.pc + 1 }))) ∧
    (runs s q 8 = false → exec (.mark q) s = .next s) ∧
    (runs s q 0 = true → r.switchAt = none → exec (.stop q) s = .next (s.modSeq q fun r => { r with run := .halted })) ∧
    (∀ k b, runs s q 0 = true → r.switchAt = some (k, b) → ∃ t, exec (.stop q) s = .next t ∧
      (∀ p, p ≠ q → t.seqr p = s.seqr p) ∧ (t.seqr q).pc = 0 ∧ (t.seqr q).switchAt = none ∧
      (((planIn s b).seqOf q.val).present = true → (t.seqr q).run = .executing ∧ (t.seqr q).bank = some b) ∧
      (((planIn s b).seqOf q.val).present = false → (t.seqr q).run = .stopped ∧ (t.seqr q).bank = none)) ∧
    (runs s q 0 = false → exec (.stop q) s = .next s)

/-- Timers and the reorder queue (07 R138, R139, R143, R146, R151). A timer that has run out is stopped and leaves an event of condition
337 + its number with its time for the program that takes it: in the queue where it is not late, behind the late ones that are already to be taken where
it is, and nowhere where that program does not name it or 16,384 events wait. One that runs on does nothing. The first queued event
whose alignment delay has passed is released, and a halted sequencer discards it; before that it waits. A program that a flip has prepared takes its place once the
events before the flip have been taken. -/
def Claim.TimersAndRelease : Prop :=
  ∀ (q : Fin 16) (n : Fin 8) (s : State),
    let r := s.seqr q
    (dclk s = false → exec (.timerExpiry q n) s = .next s ∧ exec (.eventRelease q) s = .next s) ∧
    (vget r.timers n = none → exec (.timerExpiry q n) s = .next s) ∧
    (∀ tm, vget r.timers n = some tm → timerExpiry s q tm = none → exec (.timerExpiry q n) s = .next s) ∧
    (∀ x, timerExpiry s q (.at x) = if x ≤ now s then some { cond := 0, time := x, anchor := none } else none) ∧
    (∀ tm e, dclk s = true → vget r.timers n = some tm → timerExpiry s q tm = some e →
      let e := { e with cond := 337 + n.val }
      let room := r.queue.length + r.released.length < 16384
      let named := ∃ b, programFor s r e = some b ∧ ((planIn s b).seqOf q.val).names (337 + n.val) = true
      let late := ∃ t, r.lastTaken = some t ∧ e.time < t
      ∃ t, exec (.timerExpiry q n) s = .next t ∧ vget (t.seqr q).timers n = none ∧
        (∀ m, m ≠ n → vget (t.seqr q).timers m = vget r.timers m) ∧ (∀ p, p ≠ q → t.seqr p = s.seqr p) ∧
        (r.run ≠ .stopped → named → room → ¬late →
          (t.seqr q).queue = r.queue ++ [e] ∧ (t.seqr q).released = r.released) ∧
        (r.run ≠ .stopped → r.run ≠ .halted → named → room → late →
          (t.seqr q).queue = r.queue ∧ (t.seqr q).released = insertLate { event := e, late := true } r.released) ∧
        ((¬named ∨ ¬room ∨ r.run = .stopped) → (t.seqr q).queue = r.queue ∧ (t.seqr q).released = r.released)) ∧
    (∀ e, dclk s = true → r.switchAt = none → firstEvent r.queue = some e →
      (e.time + (progOf s q).alignUs * Config.usUnits ≤ now s → exec (.eventRelease q) s = .next (s.modSeq q fun r =>
        { r with queue := r.queue.erase e
                 released := if r.run = .waiting ∨ r.run = .executing then insertReleased { event := e, late := false } r.released
                   else r.released })) ∧
      (now s < e.time + (progOf s q).alignUs * Config.usUnits → exec (.eventRelease q) s = .next s)) ∧
    (r.switchAt = none → r.queue = [] → exec (.eventRelease q) s = .next s) ∧
    (∀ k b, dclk s = true → r.switchAt = some (k, b) → r.queue = [] → switchDue s q k = true →
      ∃ t, exec (.eventRelease q) s = .next t ∧ (t.seqr q).pc = 0 ∧ (t.seqr q).switchAt = none ∧
        (((planIn s b).seqOf q.val).present = true → (t.seqr q).run = .executing ∧ (t.seqr q).bank = some b) ∧
        (((planIn s b).seqOf q.val).present = false → (t.seqr q).run = .stopped ∧ (t.seqr q).bank = none))

/-- WAIT (07 R140, R142), on a sequencer that no flip waits for, none of whose timers has run out and none of whose queued events is
due: with no event released it waits. The first released event is taken and becomes TT where it is a go term: it completes a WAIT ANY; a
WAIT ALL keeps it, forgets the terms outside its SPAN, and is completed by the last term, TT then being the earliest of them. An abort term branches and
leaves TT; an event of neither is taken and discarded; a late one is counted. Elsewhere, or while the program does not run,
nothing happens. -/
def Claim.WaitTakesEvents : Prop :=
  ∀ (q : Fin 16) (s : State),
    let w := instrNow s q
    let r := s.seqr q
    ((dclk s = false ∨ iOp w ≠ 1 ∨ (r.run ≠ .executing ∧ r.run ≠ .waiting)) → exec (.wait q) s = .next s) ∧
    (dclk s = true → iOp w = 1 → (r.run = .executing ∨ r.run = .waiting) → r.switchAt = none →
      (∀ n tm, vget r.timers n = some tm → timerExpiry s q tm = none) →
      (∀ e ∈ r.queue, now s < e.time + (progOf s q).alignUs * Config.usUnits) →
      let terms := if r.run = .executing then [] else r.terms
      (r.released = [] → exec (.wait q) s = .next (s.modSeq q fun r => { r with run := .waiting, terms := terms })) ∧
      (∀ t rest, r.released = t :: rest →
        let go := (waitTerms w).contains t.event.cond
        let kept := keepTerms w terms t
        let complete := (List.range (waitTerms w).length).all fun i => kept.any fun x => x.1 = i
        let count := if t.late then satAdd (vget s.geyser.stats q).lateEvents 1 else (vget s.geyser.stats q).lateEvents
        (go = true → bit 4 w = false → ∃ u, exec (.wait q) s = .next u ∧ (u.seqr q).tt = t ∧ (u.seqr q).run = .executing ∧
          (u.seqr q).pc = r.pc + 1 ∧ (u.seqr q).released = rest ∧ (vget u.geyser.stats q).lateEvents = count) ∧
        (go = true → bit 4 w = true → complete = true → ∃ u, exec (.wait q) s = .next u ∧ (u.seqr q).tt = earliest t kept ∧
          (u.seqr q).run = .executing ∧ (u.seqr q).pc = r.pc + 1 ∧ (u.seqr q).terms = [] ∧ (u.seqr q).released = rest ∧
          (vget u.geyser.stats q).lateEvents = count) ∧
        (go = true → bit 4 w = true → complete = false → rest = [] → ∃ u, exec (.wait q) s = .next u ∧ (u.seqr q).tt = t ∧
          (u.seqr q).run = .waiting ∧ (u.seqr q).pc = r.pc ∧ (u.seqr q).terms = kept ∧ (u.seqr q).released = []) ∧
        (go = false → waitAbort w = some t.event.cond → ∃ u, exec (.wait q) s = .next u ∧ (u.seqr q).tt = r.tt ∧
          (u.seqr q).run = .executing ∧ (u.seqr q).state = BitVec.ofNat 5 (bits 48 44 w) ∧
          (u.seqr q).pc = BitVec.ofNat 8 (((progOf s q).states.getD (bits 48 44 w) none).getD 0) ∧
          (u.seqr q).released = rest ∧ (vget u.geyser.stats q).lateEvents = count) ∧
        (go = false → waitAbort w ≠ some t.event.cond → rest = [] → ∃ u, exec (.wait q) s = .next u ∧
          (u.seqr q).tt = r.tt ∧ (u.seqr q).run = .waiting ∧ (u.seqr q).pc = r.pc ∧ (u.seqr q).released = [] ∧
          (vget u.geyser.stats q).lateEvents = count)))

/-- A sequencer runs its program: the claims above, together. -/
def Obligations.Sequencers : Prop :=
  Claim.SequencerInstructions ∧ Claim.TimersAndRelease ∧ Claim.WaitTakesEvents

/-- ARM (07 R149): an ARM or DISARM without SYSTEM, and one on a worker, applies from TT to every sequencer of the node whose
groups it meets; with SYSTEM on any other node it applies from the epoch after the next, and is kept. On a worker SYSTEM
counts ARM_NOT_MANAGER. A FIRE that finds its sequencer disarmed only counts NOT_ARMED. -/
def Claim.ArmingRules : Prop :=
  ∀ (q : Fin 16) (s : State),
    let w := instrNow s q
    let mask := bits 13 6 w
    (runs s q 5 = false → exec (.arm q) s = .next s) ∧
    (runs s q 5 = true → (bit 5 w = false ∨ s.fabric.role = .worker) → ∃ t, exec (.arm q) s = .next t ∧
      (∀ p, (t.seqr p).arms = if (progOf s p).armGroups &&& mask ≠ 0
        then (s.seqr p).arms ++ [{ start := (s.seqr q).tt.event.time, arm := !bit 4 w }] else (s.seqr p).arms) ∧
      (t.seqr q).pc = (s.seqr q).pc + 1 ∧ t.fabric = s.fabric ∧
      (vget t.geyser.stats q).armNotManager = if bit 5 w then satAdd (vget s.geyser.stats q).armNotManager 1
        else (vget s.geyser.stats q).armNotManager) ∧
    (runs s q 5 = true → bit 5 w = true → s.fabric.role ≠ .worker → ∃ t, exec (.arm q) s = .next t ∧
      (∀ p, (t.seqr p).arms = if (progOf s p).armGroups &&& mask ≠ 0
        then (s.seqr p).arms ++ [{ start := boundaryTime s (((epochAt s (now s)).getD 0) + 2), arm := !bit 4 w }]
        else (s.seqr p).arms) ∧
      (t.seqr q).pc = (s.seqr q).pc + 1 ∧ t.fabric.armSeq = s.fabric.armSeq + 1 ∧
      t.fabric.arms = s.fabric.arms ++ [{ e := ((epochAt s (now s)).getD 0) + 2, mask := mask, disarm := bit 4 w }]) ∧
    (runs s q 6 = true → (progOf s q).requireArm = true →
      armedAt (s.seqr q).arms ((s.seqr q).mark.getD (s.seqr q).tt).event.time = false →
      exec (.fire q) s = .next ((s.modSeq q fun r => { r with pc := r.pc + 1, mark := none, late := false }).modStat q fun x =>
        { x with notArmed := satAdd x.notArmed 1, flags := x.flags.raise 2 }))

/-- FIRE (07 R142, R144, R147, R149; 08 R156): it takes the latched time after a MARK and TT otherwise, and clears the latch. Inside
the holdoff, and in forerunner mode with four FIREs undecided, it is held and counted. An effective one counts, takes the next FIRE sequence number, carries the held count
away, starts the holdoff, with ONE_SHOT leaves the sequencer disarmed at its own time, and in forerunner mode joins the undecided ones. -/
def Claim.FireEffects : Prop :=
  ∀ (q : Fin 16) (s : State), (runs s q 6 = false → exec (.fire q) s = .next s) ∧
    (runs s q 6 = true →
      let r := s.seqr q
      let g := progOf s q
      let e := (r.mark.getD r.tt).event
      let held := insideHoldoff s q e.time = true ∨ (g.forerunner = true ∧ 4 ≤ r.prov.length)
      (g.requireArm = false ∨ armedAt r.arms e.time = true) →
      (held → exec (.fire q) s =
        .next ((s.modSeq q fun r => { r with pc := r.pc + 1, mark := none, late := false }).modStat q fun x =>
          { x with trigHeld := satAdd x.trigHeld 1, heldCount := satAdd x.heldCount 1, flags := x.flags.raise 1 })) ∧
      (∀ b, r.bank = some b → ¬held → ∃ t, exec (.fire q) s = .next t ∧
        (t.seqr q).pc = r.pc + 1 ∧ (t.seqr q).mark = none ∧ (t.seqr q).lastFire = some e ∧
        (vget t.geyser.stats q).fires = (vget s.geyser.stats q).fires + 1 ∧
        (vget t.geyser.stats q).fireSeq = (vget s.geyser.stats q).fireSeq + 1 ∧
        (vget t.geyser.stats q).heldCount = 0 ∧ (vget t.geyser.stats q).trigHeld = (vget s.geyser.stats q).trigHeld ∧
        (g.oneShot = true → armedAt (t.seqr q).arms e.time = false) ∧
        (g.oneShot = false → (t.seqr q).arms = r.arms) ∧
        (g.forerunner = true → (t.seqr q).prov.length = r.prov.length + 1) ∧
        (g.forerunner = false → (t.seqr q).prov = r.prov)))

/-- The verify unit (08 R155, R156, R158): the first undecided FIRE is confirmed once a spectrum of its covering set is recorded as
met, retracted once all of them are recorded as not met, and retracted with reason 2 at t_{e+2} while neither holds; each
decision takes it out of the unit, and the next one's record is then issued. Until then, and with none undecided, nothing happens. -/
def Claim.VerifyDecisions : Prop :=
  ∀ (q : Fin 16) (s : State),
    ((s.seqr q).prov = [] → exec (.verifyConfirm q) s = .next s ∧ exec (.verifyRetract q) s = .next s ∧
      exec (.verifyTimeout q) s = .next s) ∧
    ∀ (p : ProvFire) (rest : List ProvFire), dclk s = true → (s.seqr q).prov = p :: rest →
      let recorded := (coveringSet s q p).map (verResult s q p)
      let met := some (some true) ∈ recorded
      let missed := recorded ≠ [] ∧ ∀ x ∈ recorded, x = some (some false)
      let deadline := boundaryTime s ((eventEpoch s p.event.event).getD 0 + 2)
      let ends := fun t : State => (t.seqr q).prov.length = rest.length ∧ ∀ x ∈ (t.seqr q).prov.head?, x.issued = true
      (met → ∃ t, exec (.verifyConfirm q) s = .next t ∧ ends t) ∧
      (missed → ∃ t, exec (.verifyRetract q) s = .next t ∧ ends t ∧ ∀ n, (t.seqr n).queue = (s.seqr n).queue) ∧
      (¬met → ¬missed → deadline ≤ now s → ∃ t, exec (.verifyTimeout q) s = .next t ∧ ends t ∧
        ∀ n, (t.seqr n).queue = (s.seqr n).queue) ∧
      (¬met → exec (.verifyConfirm q) s = .next s) ∧ (¬missed → exec (.verifyRetract q) s = .next s) ∧
      ((met ∨ missed ∨ now s < deadline) → exec (.verifyTimeout q) s = .next s)

/-- The commands of the sequencers (07 R136, R151): each is NOT_READY without an ACTIVE bank, and BAD_PARAM for a sequencer that the
running plan does not hold, or a TRIGGER beyond 15. GEYSER_STOP halts a running one and leaves any other as it is; GEYSER_START starts a halted one at
address 0 with its counters, timers and holdoff at rest, and is REFUSED_STATE for a running one; GEYSER_TRIGGER answers its recorded time and raises condition
305 + TRIGGER. -/
def Claim.GeyserCommands : Prop :=
  ∀ (c : Cmd) (rest : List Cmd) (s : State),
    let t := taken c rest s
    (∀ i ∈ [Instr.geyserStop, .geyserStart, .geyserTrigger], activeBank t = none → Ready i c rest s →
      exec i s = .next (answer c (some 5) .notReady 0 [] t)) ∧
    (activeBank t ≠ none →
      (∀ i ∈ [Instr.geyserStop, .geyserStart], (∀ q : Fin 16, c.u 0 1 = q.val → ((planNow t).seqOf q.val).present = false) →
        Ready i c rest s → exec i s = .next (answer c (some 5) .badParam 0 [] t)) ∧
      (15 < c.u 0 1 → Ready .geyserTrigger c rest s → exec .geyserTrigger s = .next (answer c (some 5) .badParam 0 [] t)) ∧
      (c.u 0 1 ≤ 15 → Ready .geyserTrigger c rest s →
        exec .geyserTrigger s = .next (answer c (some 5) .ok 0 (timeBytes c.recorded)
          (condEvent (305 + c.u 0 1) c.recorded none t))) ∧
      ∀ q : Fin 16, c.u 0 1 = q.val → ((planNow t).seqOf q.val).present = true →
        let running := (t.seqr q).run = .waiting ∨ (t.seqr q).run = .executing
        (Ready .geyserStop c rest s →
          (running → exec .geyserStop s = .next (answer c (some 5) .ok 0 [] (t.modSeq q fun r => { r with run := .stopped }))) ∧
          (¬running → exec .geyserStop s = .next (answer c (some 5) .ok 0 [] t))) ∧
        (Ready .geyserStart c rest s →
          (running → exec .geyserStart s = .next (answer c (some 5) .refusedState 0 [] t)) ∧
          (∀ n, ¬running → bankNow t = some n → ∃ u, exec .geyserStart s = .next (answer c (some 5) .ok 0 [] u) ∧
            (u.seqr q).run = .executing ∧ (u.seqr q).pc = 0 ∧ (u.seqr q).bank = some n ∧ (u.seqr q).queue = [] ∧
            (u.seqr q).counters = Vector.replicate 8 0 ∧ (u.seqr q).timers = Vector.replicate 8 none ∧
            (u.seqr q).holdoff.mode = 0 ∧ (u.seqr q).prov = (t.seqr q).prov ∧ ∀ p, p ≠ q → u.seqr p = t.seqr p)))

/-- Arming, FIRE, its verification and the sequencer commands: the claims above, together. -/
def Obligations.ArmingAndFires : Prop :=
  Claim.ArmingRules ∧ Claim.FireEffects ∧ Claim.VerifyDecisions ∧ Claim.GeyserCommands

/-- The Basin writer (09 R168, R170, R176). The oldest ring of a stream whose next grid tile is complete gives that tile to the
queue as its samples came; one that finds 64 in the stream's queue stops the writer for BACKPRESSURE, which empties the queue, and one
that comes while the writer stands is left unwritten. The head of the queue is issued with the next TILE_SEQ once its samples are
checked, its ring position is free and the port takes it; a held position stops the writer instead. A resumption goes on at the running
epoch's boundary and issues the overflow record. Where nothing of this is due, nothing happens. -/
def Obligations.BasinWriter : Prop :=
  ∀ (i : Fin 16) (s : State),
    let x := s.basinOf i
    let due := (ringsOldest s i).findSome? fun r =>
      ((nextTile (s.stream i) r).filter fun g => r.cfg.present && tileFull (s.stream i) r g).map fun g => (r, g)
    let stopped := fun (t : State) (n : Nat) (info : StopInfo) =>
      (t.basinOf i).stop = some info ∧ (∀ y ∈ ringsOf t i, y.queue = []) ∧ (t.basinOf i).gapTiles = satAdd x.gapTiles n ∧
        t.host.evSeq = s.host.evSeq + 1
    ((dclk s = false ∨ due = none) → exec (.tileComplete i) s = .next s) ∧
    (∀ r g, dclk s = true → due = some (r, g) →
      (x.stop = none → r.skipTo ≤ g → queuedTiles s i < 64 → ∃ t, exec (.tileComplete i) s = .next t ∧
        ringsOf t i = (ringsOf s i).map (fun y =>
          if y.isRing r then { y with nextGrid := g + 1, queue := y.queue ++ [cutTile (s.stream i) r g] } else y) ∧
        ∀ j, j ≠ i → t.basinOf j = s.basinOf j) ∧
      (x.stop = none → r.skipTo ≤ g → 64 ≤ queuedTiles s i → ∃ t, exec (.tileComplete i) s = .next t ∧
        (t.basinOf i).state = .stoppedOverflow ∧ (t.basinOf i).stop.map (·.reason) = some 1 ∧
        (t.basinOf i).stop.map (·.discarded) = some (queuedTiles s i) ∧
        (t.basinOf i).stop.map (·.first) = (queueHead s i).map (fun h => h.2.grid * h.1.samples) ∧
        (∀ y ∈ ringsOf t i, y.queue = [] ∧ (y.isRing r → y.nextGrid = g + 1 ∧ g ∈ y.unwritten)) ∧
        (t.basinOf i).gapTiles = satAdd (satAdd x.gapTiles (queuedTiles s i)) 1 ∧ t.host.evSeq = s.host.evSeq + 1) ∧
      ((x.stop.isSome = true ∨ g < r.skipTo) → ∃ t, exec (.tileComplete i) s = .next t ∧
        ringsOf t i = (ringsOf s i).map (fun y =>
          if y.isRing r then { y with nextGrid := g + 1, unwritten := g :: y.unwritten } else y) ∧
        (t.basinOf i).gapTiles = satAdd x.gapTiles 1)) ∧
    ((dclk s = false ∨ queueHead s i = none) → exec (.tileWrite i) s = .next s) ∧
    (∀ r q, dclk s = true → queueHead s i = some (r, q) →
      let checked := min ((q.grid + 1) * r.samples) (s.stream i).avail ≤ (s.stream i).checkedTo
      (¬checked → exec (.tileWrite i) s = .next s) ∧
      (checked → r.positionHeld r.nextSeq = true → ∃ t, exec (.tileWrite i) s = .next t ∧ (t.basinOf i).state = .stoppedHeld ∧
        stopped t (queuedTiles s i) { reason := 2, first := q.grid * r.samples, discarded := queuedTiles s i }) ∧
      (checked → r.positionHeld r.nextSeq = false → portTakes s i r = false → exec (.tileWrite i) s = .next s) ∧
      (checked → r.positionHeld r.nextSeq = false → portTakes s i r = true → ∃ t, exec (.tileWrite i) s = .next t ∧
        (∀ y ∈ ringsOf t i, y.isRing r → y.queue = r.queue.drop 1 ∧ y.nextSeq = r.nextSeq + 1 ∧ y.gapBefore = false ∧
          y.tiles.head?.map (fun k => (k.seq, k.grid)) = some (r.nextSeq, q.grid)) ∧
        (∀ y ∈ ringsOf s i, y.isRing r = false → y ∈ ringsOf t i) ∧
        (t.basinOf i).tilesWritten = x.tilesWritten + 1 ∧ t.down.cxl = s.down.cxl ∧
        ∃ w : CxlReq, (downPort t (cxlPort r.cfg.port)).requests = (downPort s (cxlPort r.cfg.port)).requests ++ [w] ∧
          w.write = true ∧ w.addr = r.cfg.base + (64 + r.nextSeq % max r.cfg.ringTiles 1) * 4096 ∧ w.len = 4096 ∧
          w.user = .writer i ∧ w.issued = now s)) ∧
    ((x.stop = none ∨ s.plans.epoch = none) → exec (.basinWriterResume i) s = .next s) ∧
    (∀ info k, x.stop = some info → s.plans.epoch = some k →
      (boundaryIndex s i k = none → exec (.basinWriterResume i) s = .next s) ∧
      ∀ b, boundaryIndex s i k = some b →
        let g := ceilDiv b x.ring.samples
        let goes := dclk s = true ∧ x.ring.nextGrid ≤ g ∧ x.ring.positionHeld x.ring.nextSeq = false
        (¬goes → exec (.basinWriterResume i) s = .next s) ∧
        (goes → ∃ u, exec (.basinWriterResume i) s = .next (overflowRecord i k info (g * x.ring.samples) u) ∧
          (u.basinOf i).state = .writing ∧ (u.basinOf i).stop = none ∧
          (u.basinOf i).ring = { x.ring with skipTo := g, gapBefore := true } ∧ u.records = s.records))

/-- A header rewrite (09 R166, R172) of the one tile that a stream's rings hold under a TILE_SEQ changes nothing of it but its flags and
its CRC32C, and a tile whose CRC32C matched still matches, in the device where it lies, or in its write while that is outstanding; every
other byte of the window stays. Without such a tile, or where neither its write nor the window is there, nothing happens. -/
def Obligations.HeaderRewriteKeepsCrc : Prop :=
  ∀ (i : Fin 16) (seq : Nat) (s : State),
    let found := (ringsOf s i).filterMap fun r => (r.tiles.find? fun t => t.seq = seq).map fun t => (r, t)
    ((dclk s = false ∨ found = []) → exec (.headerRewrite i seq) s = .next s) ∧
    (∀ r x, dclk s = true → found = [(r, x)] →
      let p := cxlPort r.cfg.port
      let a := r.tileAddr seq
      let isWrite := fun q : CxlReq => q.write && decide (q.addr = a)
      let sameBut := fun new old : List Byte => new.take 14 = old.take 14 ∧ (new.drop 16).take 44 = (old.drop 16).take 44 ∧
        new.drop 64 = old.drop 64 ∧ (tileGood old = true → tileGood new = true)
      ((downPort s p).requests.any isWrite = true → ∃ (t : State) (g : List Byte → List Byte), exec (.headerRewrite i seq) s = .next t ∧ t.down.cxl = s.down.cxl ∧
        (downPort t p).requests = (downPort s p).requests.map (fun q => if isWrite q then { q with data := g q.data } else q) ∧
        ∀ data, data.length = 4096 → sameBut (g data) data) ∧
      ((downPort s p).requests.any isWrite = false → windowHolds s p a 4096 = true → x.failed = false →
        (∀ d, (vget s.down.cxl d).wf) → ∃ t, exec (.headerRewrite i seq) s = .next t ∧ (∀ d, (vget t.down.cxl d).wf) ∧
          (∀ b, b < a ∨ a + 4096 ≤ b → cxlPeek t p b 1 = cxlPeek s p b 1) ∧
          sameBut (cxlPeek t p a 4096) (cxlPeek s p a 4096)) ∧
      ((downPort s p).requests.any isWrite = false → (windowHolds s p a 4096 = false ∨ x.failed = true) →
        exec (.headerRewrite i seq) s = .next s))

/-- Captures and envelopes (09 R173, R175, R177; 11 R221). An OPEN capture whose last grid tile the writer has passed is CLOSED, and an
ordinary one takes its place in the order of release. A pulse of RELEASE_HE takes one pulse from its crossing; it releases the oldest of that
order, and raises a flag where there is none. 64 complete and checked intervals of the first envelope make a record, fewer where a
flip has ended it. Where nothing of this is due, nothing happens. -/
def Claim.CapturesAndEnvelopes : Prop :=
  ∀ (i : Fin 16) (s : State),
    (∀ n : Fin 64,
      let due := (ringsOldest s i).findSome? fun r =>
        ((vget r.slots n).filter fun c => c.state = .opened && capPassed s i r c).map fun c => (r, c)
      ((dclk s = false ∨ due = none) → exec (.captureClose i n) s = .next s) ∧
      (∀ r c, dclk s = true → due = some (r, c) → ∃ t, exec (.captureClose i n) s = .next t ∧
        (∀ y ∈ ringsOf t i, ∀ k ∈ y.captures, k.2.id = c.id → k.2.state = .closed) ∧
        (ringsOf t i).map (·.order) = (ringsOf s i).map fun y =>
          if c.provisional = false ∧ y.captures.any (fun k => k.2.id = c.id) then y.order ++ [c.id] else y.order)) ∧
    (let x := s.basinOf i
     let pulses := fun (t : State) (l : Nat) => t.down.crossings.find? fun e => e.1 = (l, .ring i) && decide (0 < e.2)
     let waiting := x.ring.cfg.releaseHe.bind fun l => (pulses s l).map fun e => (l, e.2)
     (waiting = none → exec (.releaseHePulse i) s = .next s) ∧
     ∀ l k, waiting = some (l, k + 1) → ∃ t, exec (.releaseHePulse i) s = .next t ∧
       pulses t l = (if k = 0 then none else some ((l, .ring i), k)) ∧
       (x.ring.order = [] → (t.basinOf i).flags = x.flags.raise 5 ∧ (t.basinOf i).ring = x.ring) ∧
       (∀ id rest, x.ring.order = id :: rest → (∀ y ∈ ringsOf t i, id ∉ y.order ∧
         ∀ c ∈ y.captures, c.2.id = id → c.2.state = .released))) ∧
    ((engines s = false ∨ (s.basinOf i).env = []) → exec (.envelopeRecord i) s = .next s) ∧
    (∀ (e : Envelope) rest f, engines s = true → (s.basinOf i).env = e :: rest →
      let n := 2 ^ e.k
      let t := s.stream i
      (if e.begun then some e.next else (firstTile t.segs n e.next).map (max e.next)) = some f →
      let done := if t.map.run then t.avail / n else ceilDiv t.avail n
      let stop := e.endAt.map fun b => ceilDiv b n
      let full := min done (stop.getD done)
      let record := fun (c : Nat) (u : State) => emit (mkRecord u 7 0 (some i) none (epochNum (epochOfIndex u i (f * n)))
        (instantOf u i (f * n)) (markFlags (marksOver t.marks (f * n) ((f + c) * n - 1)))
        (toLe 8 (f * n) ++ toLe 4 (e.k + c * 2 ^ 8) ++ toLe 4 0 ++
          (List.range c).flatMap fun m => interval t.segs e.k (f + m))) u
      (f + 64 ≤ full → min ((f + 64) * n) t.avail ≤ t.checkedTo → exec (.envelopeRecord i) s = .next
        (record 64 (s.modBasin i fun x => { x with env := { e with next := f + 64, begun := true } :: rest }))) ∧
      (∀ c l, full < f + 64 → stop = some l → l ≤ done → full - f = c + 1 → min ((f + c + 1) * n) t.avail ≤ t.checkedTo →
        exec (.envelopeRecord i) s = .next (record (c + 1) (s.modBasin i fun x => { x with env := rest }))) ∧
      (full < f + 64 → stop.all (fun l => done < l) = true → ∃ u, exec (.envelopeRecord i) s = .next u ∧ u.records = s.records ∧
        (u.basinOf i).env = e :: rest))

/-- The capture commands (09 R167, R178, R183, R184), with every row of their outcome table. CAPTURE_READ reads the tiles it names through the
port's reader pool, and once they are answered and their time at HOST_READ_RATE has passed, its response gives their number, the number
that fail, and CRC_FAIL where any does; a slot's tiles stand in the host's memory. CAPTURE_RELEASE frees an ordinary CLOSED capture. BASIN_RECOVER of a VERIFIED bank begins the recovery of each of its rings while no bank
is in use, and RECOVER_DONE ends it once everything has been read. -/
def Claim.CaptureCommands : Prop :=
  (∀ (c : Cmd) (rest : List Cmd) (s : State),
    let t := taken c rest s
    (Ready .captureRead c rest s →
      let answers := fun (st : Status) (off : Nat) => exec .captureRead s = .next (answer c none st off [] t)
      let first := c.u 8 4
      let n := c.u 12 4
      let used := ∃ b, (t.bank b).state = .active ∨ (t.bank b).state = .draining
      (¬used → answers .notReady 0) ∧
      (used → 1 < c.u 1 1 → answers .badParam 1) ∧
      (used → c.u 1 1 ≤ 1 → 15 < c.u 0 1 → answers .badParam 0) ∧
      (used → c.u 1 1 ≤ 1 → c.u 0 1 ≤ 15 → namedCap t (c.u 0 1) (c.u 4 4) = none → answers .badParam 4) ∧
      (∀ (p : PortId) i r x, used → c.u 1 1 = p.val → namedCap t (c.u 0 1) (c.u 4 4) = some (i, r, x) →
        let inside := first + n ≤ tileBound r x
        let live := x.state = .opened ∨ x.state = .closed
        (¬inside → answers .badParam 12) ∧
        (inside → c.u 16 8 % 64 ≠ 0 → answers .badAlign 16) ∧
        (inside → c.u 16 8 % 64 = 0 → ¬live → answers .refusedState 0) ∧
        (inside → c.u 16 8 % 64 = 0 → live → (r.heldTiles x).length < first + n → answers .busyRunning 0) ∧
        (inside → c.u 16 8 % 64 = 0 → live → first + n ≤ (r.heldTiles x).length →
          let tiles := (((r.heldTiles x).drop first).take n).map fun k => (k.seq, r.tileAddr k.seq)
          let job := startJob (cxlPort r.cfg.port) ((planNow t).device.readCredits.getD (cxlPort r.cfg.port).val 0) tiles t
          exec .captureRead s = .next (await c none (.captureRead i (c.u 4 4) p (c.u 16 8) job.1
            (now t + n * 4096 * Config.secUnits / max r.cfg.readRate 1)) job.2)))) ∧
    (Ready .captureRelease c rest s →
      (namedCap t (c.u 0 1) (c.u 4 4) = none →
        exec .captureRelease s = .next (answer c (some 6) .badParam (if 15 < c.u 0 1 then 0 else 4) [] t)) ∧
      (∀ i r x, namedCap t (c.u 0 1) (c.u 4 4) = some (i, r, x) →
        ((x.state ≠ .closed ∨ x.provisional = true) →
          exec .captureRelease s = .next (answer c (some 6) .refusedState 0 [] t)) ∧
        (x.state = .closed → x.provisional = false → ∃ u, exec .captureRelease s = .next (answer c (some 6) .ok 0 [] u) ∧
          ∀ y ∈ ringsOf u i, x.id ∉ y.order ∧ ∀ k ∈ y.captures, k.2.id = x.id → k.2.state = .released))) ∧
    (Ready .basinRecover c rest s →
      (1 < c.u 0 1 → exec .basinRecover s = .next (answer c (some 6) .badParam 0 [] t)) ∧
      (∀ b : Fin 2, c.u 0 1 = b.val →
        ((anyBankBusy t = true ∨ (t.bank b).state ≠ .verified) →
          exec .basinRecover s = .next (answer c (some 6) .refusedState 0 [] t)) ∧
        (anyBankBusy t = false → (t.bank b).state = .verified →
          ∃ u, exec .basinRecover s = .next (answer c (some 6) .ok 0 [] u) ∧ u.plans.recovering = true ∧ u.basin.recover = some b ∧
            ∀ j, (u.basinOf j).state =
              if ((planIn t b).ringOf j.val).present then .recovering else (t.basinOf j).state)))) ∧
  (∀ (i : Fin 16) (s : State),
    let pumped := (List.finRange 4).foldl (fun u p => pumpPort p u) s
    let mine := fun w : Wait => match w with
      | .captureRead j _ _ _ job due => j = i && decide (due ≤ now s) && jobDone pumped job
      | _ => false
    (firmware s = false → exec (.captureReadDone i) s = .next s) ∧
    (firmware s = true → s.host.deferred.any (fun d => mine d.wait) = false → exec (.captureReadDone i) s = .next pumped) ∧
    (∀ d id (p : PortId) a job due got, firmware s = true → s.host.deferred.find? (fun d => mine d.wait) = some d →
      d.wait = .captureRead i id p a job due → got = ((jobOf pumped job).map (·.answers)).getD [] →
      let fails := got.filter fun k => k.2.2 || !tileGood k.2.1 || writeFailed pumped i k.1
      ∃ u r, exec (.captureReadDone i) s = .next (finished d r u) ∧ u.host.deferred = s.host.deferred.erase d ∧
        r = { status := if fails = [] then .ok else .crcFail, detail := 0
              payload := toLe 4 got.length ++ toLe 4 fails.length ++ toLe 8 ((fails.head?.map (·.1)).getD 0) } ∧
        (∀ q n, d.cmd.source = .slot q n → u.hostMem = if (s.port p).linkUp then
          vmod s.hostMem p fun m => memWrite m a (got.flatMap fun k => k.2.1) else s.hostMem))) ∧
  (∀ s : State,
    let pumped := (List.finRange 4).foldl (fun u p => pumpPort p u) s
    ((s.plans.recovering = false ∨ firmware s = false) → exec .recoverDone s = .next s) ∧
    (s.plans.recovering = true → firmware s = true →
      (recoveryRead (recoveryStep pumped) = false → exec .recoverDone s = .next (recoveryStep pumped)) ∧
      (recoveryRead (recoveryStep pumped) = true → ∃ t, exec .recoverDone s = .next t ∧ t.plans.recovering = false ∧
        t.basin.recovery = [] ∧ ∀ i, (t.basinOf i).state =
          if s.basin.recovery.any (fun x => x.stream = i) then .off else (s.basinOf i).state)))

/-- Captures, envelopes and the capture commands: the claims above, together. -/
def Obligations.Captures : Prop :=
  Claim.CapturesAndEnvelopes ∧ Claim.CaptureCommands

/-- The archive commands (09 R179, R182, R184; 12 R241), with every row of their outcome table. ARCHIVE_FORMAT of a usable drive that no other archive has attached leaves
tiles 2 to 15 zero and every later tile as it was; ARCHIVE_ATTACH opens the volume of the header that governs, and without one fails;
ARCHIVE_DETACH writes a checkpoint and detaches, and is refused while an append runs. -/
def Claim.ArchiveCommands : Prop :=
  ∀ (c : Cmd) (rest : List Cmd) (s : State),
    let t := taken c rest s
    let answers := fun (i : Instr) (st : Status) (off : Nat) => exec i s = .next (answer c (some 6) st off [] t)
    (∀ i ∈ [Instr.archiveFormat, .archiveAttach], Ready i c rest s →
      (15 < c.u 0 1 → answers i .badParam 0) ∧ (c.u 0 1 ≤ 15 → 3 < c.u 1 1 → answers i .badParam 1) ∧
      (c.u 0 1 ≤ 15 → c.u 1 1 ≤ 3 → 3 < c.u 2 1 → answers i .badParam 2)) ∧
    (∀ (a : Fin 16) (p sub : Fin 4), c.u 0 1 = a.val → c.u 1 1 = p.val → c.u 2 1 = sub.val →
      let d := driveAt p sub
      let lba := (vget t.down.drives d).lbaSize
      let fits := lba = 512 ∨ lba = 4096
      (Ready .archiveFormat c rest s →
        let free := attachedElse t a p sub = false ∧ driveUsable t p sub = true
        (1 < c.u 3 1 → answers .archiveFormat .badParam 3) ∧
        (c.u 3 1 ≤ 1 → ¬free → answers .archiveFormat .refusedState 0) ∧
        (c.u 3 1 ≤ 1 → free → ¬fits → answers .archiveFormat .badParam 1) ∧
        (c.u 3 1 ≤ 1 → free → fits → (vget t.down.drives d).data.wf → ∃ u, exec .archiveFormat s =
          .next (answer c (some 6) .ok 0 (toLe 8 (vget t.down.drives d).nsTiles) u) ∧ (vget u.down.drives d).data.wf ∧
          (∀ x, 8192 ≤ x → x < 65536 → memGet (vget u.down.drives d).data x = 0) ∧
          (∀ x, 65536 ≤ x → memGet (vget u.down.drives d).data x = memGet (vget t.down.drives d).data x) ∧
          ∀ e, e ≠ d → vget u.down.drives e = vget t.down.drives e)) ∧
      (Ready .archiveAttach c rest s →
        (driveUsable t p sub = false → answers .archiveAttach .refusedState 0) ∧
        (driveUsable t p sub = true → ¬fits → answers .archiveAttach .badParam 1) ∧
        (driveUsable t p sub = true → fits → govHeader t d = none → answers .archiveAttach .crcFail 0) ∧
        (∀ h, driveUsable t p sub = true → fits → govHeader t d = some h → ∃ u, exec .archiveAttach s =
          .next (answer c (some 6) .ok 0 (toLe 8 (archiveOf u a).append ++ toLe 8 (archiveOf u a).wrapCount) u) ∧
          archiveOf u a = (openVolume t p sub h).1 ∧ (archiveOf u a).attached = true ∧ (archiveOf u a).port = p ∧
          (archiveOf u a).sub = sub ∧ (archiveOf u a).job = none ∧ u.down.drives = t.down.drives ∧
          ∀ e, e ≠ a → archiveOf u e = archiveOf t e))) ∧
    (Ready .archiveDetach c rest s → (15 < c.u 0 1 → answers .archiveDetach .badParam 0) ∧
      ∀ a : Fin 16, c.u 0 1 = a.val →
        ((archiveOf t a).job.isSome = true → answers .archiveDetach .busyRunning 0) ∧
        ((archiveOf t a).job = none → (archiveOf t a).attached = false → answers .archiveDetach .ok 0) ∧
        ((archiveOf t a).job = none → (archiveOf t a).attached = true → ∃ u,
          exec .archiveDetach s = .next (answer c (some 6) .ok 0 [] u) ∧ (archiveOf u a).attached = false ∧
          (archiveOf u a).checkpointSeq = (archiveOf t a).checkpointSeq + 1 ∧ ∀ e, e ≠ a → archiveOf u e = archiveOf t e))

/-- Appends and the queue pair (09 R180; 12 R241; 13 R262). An append that fits reserves its tiles at APPEND_TILE; one that does not goes on at tile 16
after a checkpoint in WRAP, and in STOP the archive is full and says so once. Its Write commands go out 32 tiles at a time, then the flush of a drive with a
volatile write cache, then the index tile. A completion takes its command from the queue: of a Write of data it lowers the append's pending count, of the flush it
lets the index tile follow, of the index tile's Write it ends the append. The doorbell gives the drive every command placed. Where nothing of this is due, nothing happens. -/
def Claim.ArchiveAppends : Prop :=
  ∀ (a : Fin 16) (s : State),
    let v := archiveOf s a
    let cache := (vget s.down.drives (driveOf s a)).volatileCache
    let adds := fun (t : State) (opcode tile count : Nat) =>
      ∃ k : NvmeCmd, (archiveOf t a).placed = v.placed ++ [k] ∧ k.opcode = opcode ∧ k.tile = tile ∧ k.count = count
    (archiveLink s a = false → exec (.archiveAppend a) s = .next s) ∧
    (archiveLink s a = true → v.job = none →
      ((handedMove s a = none ∨ v.placed ≠ []) → exec (.archiveAppend a) s = .next s) ∧
      (∀ c m x, handedMove s a = some (c, m) → v.placed = [] → m.capture = some x →
        let need := x.left.length + 1
        let open_ := v.full = false ∨ v.wrapMode = true
        let starts := fun (t : State) (first : Nat) => ∃ j, (archiveOf t a).job = some j ∧ j.first = first ∧
          j.count = x.left.length ∧ j.id = x.id ∧ j.channel = c ∧ j.move = m.serial ∧ j.written = 0
        (open_ → v.append + need ≤ v.nsTiles → ∃ t, exec (.archiveAppend a) s = .next t ∧ starts t v.append) ∧
        (v.wrapMode = true → v.nsTiles < v.append + need → 16 + need ≤ v.nsTiles → ∃ t,
          exec (.archiveAppend a) s = .next t ∧ starts t 16 ∧ (archiveOf t a).wrapCount = v.wrapCount + 1 ∧
          (archiveOf t a).checkpointSeq = v.checkpointSeq + 1) ∧
        (v.full = false → v.nsTiles < v.append + need → (v.wrapMode = false ∨ v.nsTiles < 16 + need) → ∃ t,
          exec (.archiveAppend a) s = .next t ∧ (archiveOf t a).full = true ∧ (archiveOf t a).job = none ∧
          t.host.evSeq = s.host.evSeq + 1) ∧
        (v.full = true → (v.wrapMode = false ∨ (v.nsTiles < v.append + need ∧ v.nsTiles < 16 + need)) →
          exec (.archiveAppend a) s = .next s))) ∧
    (∀ j, archiveLink s a = true → v.job = some j →
      ((feeds s j = false ∨ 1023 ≤ v.placed.length) → exec (.archiveAppend a) s = .next s) ∧
      (feeds s j = true → v.placed.length < 1023 →
        (j.written < j.count → ∃ t, exec (.archiveAppend a) s = .next t ∧
          adds t 1 (j.first + j.written) (min 32 (j.count - j.written)) ∧
          (archiveOf t a).job = some { j with written := j.written + min 32 (j.count - j.written), pending := j.pending + 1 }) ∧
        (j.count ≤ j.written →
          (0 < j.pending → exec (.archiveAppend a) s = .next s) ∧
          (j.pending = 0 → cache = true → j.flushed = false → ∃ t, exec (.archiveAppend a) s = .next t ∧ adds t 0 0 0 ∧
            (archiveOf t a).job = some { j with pending := 1 } ∧ (archiveOf t a).newPlaced = 0) ∧
          (j.pending = 0 → (cache = false ∨ j.flushed = true) → j.indexed = true → exec (.archiveAppend a) s = .next s) ∧
          (j.pending = 0 → (cache = false ∨ j.flushed = true) → j.indexed = false → ∃ t,
            exec (.archiveAppend a) s = .next t ∧ adds t 1 (j.first + j.count) 1 ∧
            (archiveOf t a).job = some { j with pending := 1, indexed := true } ∧ (archiveOf t a).newPlaced = 0)))) ∧
    (∀ ok, v.submitted = [] → exec (.nvmeCompletion a ok) s = .next s) ∧
    (∀ k rest, v.submitted = k :: rest →
      let answered := archiveLink s a = true ∧ (k.opcode = 1 → dataFetched s a k = true)
      (∀ ok, ¬answered → exec (.nvmeCompletion a ok) s = .next s) ∧
      (answered → ∃ t, exec (.nvmeCompletion a true) s = .next t ∧ (archiveOf t a).placed = v.placed.erase k ∧
        (v.job = none → (archiveOf t a).job = none) ∧
        ∀ j, v.job = some j →
          (k.opcode = 0 → (archiveOf t a).job = some { j with pending := j.pending - 1, flushed := true }) ∧
          (k.opcode ≠ 0 → k.tile ≠ j.first + j.count → (archiveOf t a).job = some { j with pending := j.pending - 1 }) ∧
          (k.opcode ≠ 0 → k.tile = j.first + j.count → (archiveOf t a).job = none ∧
            (archiveOf t a).append = j.first + j.count + 1 ∧ (archiveOf t a).prevIndex = j.first + j.count ∧
            (archiveOf t a).seq = some ((v.seq.map (· + 1)).getD 0))) ∧
      (answered → ∃ t, exec (.nvmeCompletion a false) s = .next t ∧ (archiveOf t a).placed = v.placed.erase k ∧
        ∀ j m, v.job = some j → (s.dma j.channel).moves.find? (fun m => m.serial = j.move) = some m →
          m.dead = false → (archiveOf t a).job = none)) ∧
    (let pulse := s.down.crossings.find? fun e => e.1.2 = .doorbell a && decide (0 < e.2)
     (pulse = none → exec (.nvmeDoorbell a) s = .next s) ∧
     (pulse.isSome = true → ∃ t, exec (.nvmeDoorbell a) s = .next t ∧
       (archiveOf t a).placed = v.placed ∧ (archiveOf t a).newPlaced = 0 ∧
       (v.newPlaced = 0 → t.out = s.out ∧ (archiveOf t a).tail = v.tail) ∧
       (0 < v.newPlaced → (archiveOf t a).tail = (v.tail + v.newPlaced) % 1024 ∧
         t.out = .nvmeDoorbell v.port.val v.sub.val ((v.tail + v.newPlaced) % 1024) :: s.out)))

/-- The archive commands and appends: the claims above, together. -/
def Obligations.Archives : Prop :=
  Claim.ArchiveCommands ∧ Claim.ArchiveAppends

/-- CXL transfers (12 R236 to R240). The response of the oldest transfer whose link is up takes it from the port: a write's data
stand in the window and nowhere else, one answered with an error writes nothing and counts, and the ring's tile there is marked failed; a read's data go to its
requester, with 64 bytes of zeros where they are poisoned, which counts and is a fault. The oldest transfer, 50 us old without a response, is given up and counts
every request it had; a read delivers zeros. Tile reads that wait for the credits then go on. Where no transfer is answered or due, nothing happens. -/
def Claim.CxlTransfers : Prop :=
  ∀ (p : Fin 4) (s : State),
    let d := downPort s p
    let first := d.requests.find? fun r => vget d.linkUp (subOf d r.addr) && windowHolds s p r.addr r.len
    let marked := fun (x : CxlReq) (v : State) => ∀ j, x.user = .writer j → ∀ y ∈ ringsOf v j, ∀ k ∈ y.tiles,
      y.tileAddr k.seq = x.addr → k.failed = true
    (∀ poison error, (locked s 4 = false ∨ engines s = false ∨ first = none) →
      exec (.cxlResponse p poison error) s = .next s) ∧
    (∀ x poison, locked s 4 = true → engines s = true → first = some x →
      (x.write = true → (∀ e, (vget s.down.cxl e).wf) → ∃ v, exec (.cxlResponse p poison false) s = .next (pumpPort p v) ∧
        (downPort v p).requests = d.requests.erase x ∧ (downPort v p).errors = d.errors ∧
        cxlPeek v p x.addr x.data.length = x.data ∧
        (∀ a, a < x.addr ∨ x.addr + x.data.length ≤ a → cxlPeek v p a 1 = cxlPeek s p a 1) ∧
        (∀ e : Fin 8, e.val / 2 ≠ p.val → vget v.down.cxl e = vget s.down.cxl e)) ∧
      (x.write = true → ∃ v, exec (.cxlResponse p poison true) s = .next (pumpPort p v) ∧
        (downPort v p).requests = d.requests.erase x ∧ v.down.cxl = s.down.cxl ∧ marked x v ∧
        (downPort v p).errors = satAdd d.errors 1 ∧ (downPort v p).flags = d.flags.raise 3) ∧
      (∀ error, x.write = false → poison.all (fun k => x.count ≤ k.val) = true → ∃ v,
        exec (.cxlResponse p poison error) s = .next (pumpPort p (answerRead p x (cxlPeek s p x.addr x.len) false v)) ∧
        (downPort v p).requests = d.requests.erase x ∧ (downPort v p).errors = d.errors ∧ v.down.cxl = s.down.cxl) ∧
      (∀ error k, x.write = false → poison = some k → k.val < x.count → ∃ v,
        exec (.cxlResponse p poison error) s =
          .next (pumpPort p (answerRead p x (poisoned (cxlPeek s p x.addr x.len) k.val) true v)) ∧
        (downPort v p).requests = d.requests.erase x ∧ (downPort v p).errors = satAdd d.errors 1 ∧
        (downPort v p).flags = d.flags.raise 2 ∧ v.dev.faultCount = satAdd s.dev.faultCount 1)) ∧
    ((engines s = false ∨ d.requests.head?.all (fun x => now s < x.issued + 50 * Config.usUnits) = true) →
      exec (.cxlTimeout p) s = .next s) ∧
    (∀ x rest, engines s = true → d.requests = x :: rest → x.issued + 50 * Config.usUnits ≤ now s → ∃ v,
      exec (.cxlTimeout p) s =
        .next (pumpPort p (if x.write then v else answerRead p x (List.replicate x.len 0) true v)) ∧
      (downPort v p).requests = rest ∧ v.down.cxl = s.down.cxl ∧ (x.write = true → marked x v) ∧
      (downPort v p).errors = satAdd d.errors (ceilDiv x.len 64) ∧ (downPort v p).flags = d.flags.raise 4)

/-- Near memory (12 R242, R244, R249 to R251). NEARMEM_PASR takes a mask of unused segments but never segment 0; maintenance takes
the refresh code of each trained channel, and a code above the x4 range is a fault of its channel; a read whose repeat passes counts a retry, and one whose repeat fails also counts a
failure with its address, is a fault, and the port that repeats it receives it as failed. While MCLK stops, and for an address or a port that is not there, nothing happens. -/
def Claim.NearMemoryRules : Prop :=
  (∀ (c : Cmd) (rest : List Cmd) (s : State), Ready .nearmemPasr c rest s →
    let t := taken c rest s
    (bit 0 (c.u 0 1) = true → exec .nearmemPasr s = .next (answer c (some 9) .badParam 0 [] t)) ∧
    (bit 0 (c.u 0 1) = false → segmentUsed t (c.u 0 1) = true →
      exec .nearmemPasr s = .next (answer c (some 9) .refusedState 0 [] t)) ∧
    (bit 0 (c.u 0 1) = false → segmentUsed t (c.u 0 1) = false → exec .nearmemPasr s = .next (answer c (some 9) .ok 0 []
      (t.modNear fun n => { n with pasr := BitVec.ofNat 8 (c.u 0 1) })))) ∧
  (∀ s : State,
    let n := s.down.near
    let runs := locked s 3 = true ∧ s.dev.state ≠ .suspended
    (∀ codes : Vector (Fin 4 × BitVec 8) 16,
      let hot := (List.finRange 16).filter fun ch => bit ch.val n.trained.toNat && decide ((vget codes ch).1.val = 3)
      (¬runs → exec (.nearmemMaintenance codes) s = .next s) ∧
      (runs → ∃ t, exec (.nearmemMaintenance codes) s = .next t ∧ t.down.near.data = n.data ∧
        (∀ ch : Fin 16, vget t.down.near.refresh ch =
          if bit ch.val n.trained.toNat then (vget codes ch).1.val else vget n.refresh ch) ∧
        t.dev.faultCount = satAdd s.dev.faultCount hot.length ∧
        (hot ≠ [] → t.down.near.flags.now.getLsbD 2 = true ∧ t.down.near.flags.now.getLsbD 3 = true))) ∧
    (∀ (port : Nat) (address : U64) (again : Bool),
      let a := address.toNat / 64 * 64
      let there := port < 7 ∧ a < nearSize s ∧ bit (a / 256 % 16) n.trained.toNat = true
      (¬(runs ∧ there) → exec (.nearmemReadFail port address again) s = .next s) ∧
      (runs → there → exec (.nearmemReadFail port address false) s = .next (s.modNear fun n =>
        { n with retries := satAdd n.retries 1, flags := n.flags.raise 0 })) ∧
      (runs → there → ∃ t, exec (.nearmemReadFail port address true) s = .next t ∧
        t.down.near.retries = satAdd n.retries 1 ∧ t.down.near.fails = satAdd n.fails 1 ∧
        t.down.near.flags = n.flags.raise 1 ∧ t.down.near.failAddr = BitVec.ofNat 64 a ∧
        t.dev.faultCount = satAdd s.dev.faultCount 1 ∧ t.down.near.data = n.data ∧ nearFailed t port a 64 = true)))

/-- CXL transfers and near memory: the claims above, together. -/
def Obligations.Memories : Prop :=
  Claim.CxlTransfers ∧ Claim.NearMemoryRules

/-- Downstream links (12 R233 to R241; 22 R429, R430). A link that can train in its mode comes up with its width and rate; a device outside the subset is a fault, and a CXL
link that differs from what a bank was verified with raises its flag, is a fault and sets VERIFIED banks back to LOADED. Memory_Active lets the firmware map the device's capacity; without it for 1 s the link is treated
as down, and a fault names it. A link's loss is counted, takes its capacity away and, in a CXL mode, is a fault; in a PCIe mode it detaches the archives on it. A high DS_PRSNT_N takes every link of a mode down;
DS_PERST_N is released when its time has come. Where nothing of this applies, nothing happens. -/
def Claim.DownstreamLinks : Prop :=
  ∀ (p sub : Fin 4) (s : State),
    let d := downPort s p
    let drive := fun t : State => vget t.down.drives (driveAt p sub)
    let maps := firmware s = true ∧ awaitsActive d sub = true
    let faults := fun (t : State) (n : Nat) => t.dev.faultCount = satAdd s.dev.faultCount n
    (∀ width rate cap supported, maps → exec (.cxlLinkUp p sub width rate cap ⟨true, supported⟩) s = .next (s.modDown p fun d =>
      { d with capacity := vset d.capacity sub cap, mapped := vset d.mapped sub true })) ∧
    (∀ width rate cap active supported, ¬(maps ∧ active = true) →
      let trains := linkCanTrain s p sub = true ∧ cxlMode d.mode.val = true ∧ trainedOk d width rate = true ∧ 2 ≤ rate
      let changed := (verifiedLinks s p sub).any fun l => l ≠ (width, rate)
      (¬trains → exec (.cxlLinkUp p sub width rate cap ⟨active, supported⟩) s = .next s) ∧
      (trains → ∃ t, exec (.cxlLinkUp p sub width rate cap ⟨active, supported⟩) s = .next t ∧
        vget (downPort t p).linkUp sub = true ∧ vget (downPort t p).subWidth sub = width ∧
        vget (downPort t p).subRate sub = rate ∧ vget (downPort t p).upAt sub = now s ∧
        vget (downPort t p).unsupported sub = !supported ∧
        (vget (downPort t p).mapped sub = if active && supported then true else vget d.mapped sub) ∧
        (vget (downPort t p).capacity sub = if active && supported then cap else vget d.capacity sub) ∧
        faults t ((if supported then 0 else 1) + if changed then 1 else 0) ∧
        (downPort t p).flags = (if changed then d.flags.raise 1 else d.flags) ∧
        ∀ b, (t.bank b).state =
          if changed && decide ((s.bank b).state = .verified) then .loaded else (s.bank b).state)) ∧
    (∀ width rate lba tiles cache supported,
      let trains := linkCanTrain s p sub = true ∧ pcieMode d.mode.val = true ∧ trainedOk d width rate = true
      (¬trains → exec (.pcieLinkReturn p sub width rate lba tiles cache supported) s = .next s) ∧
      (trains → ∃ t, exec (.pcieLinkReturn p sub width rate lba tiles cache supported) s = .next t ∧
        vget (downPort t p).linkUp sub = true ∧ vget (downPort t p).subWidth sub = width ∧
        vget (downPort t p).subRate sub = rate ∧ vget (downPort t p).unsupported sub = !supported ∧
        drive t = { drive s with lbaSize := lba, nsTiles := tiles, volatileCache := cache } ∧
        faults t (if supported then 0 else 1))) ∧
    (¬(cxlMode d.mode.val = true ∧ vget d.linkUp sub = true) → exec (.cxlLinkDown p sub) s = .next s) ∧
    (cxlMode d.mode.val = true → vget d.linkUp sub = true → ∃ t, exec (.cxlLinkDown p sub) s = .next t ∧
      vget (downPort t p).linkUp sub = false ∧ vget (downPort t p).capacity sub = 0 ∧
      (downPort t p).linkDowns = satAdd d.linkDowns 1 ∧ (∀ n, n ≠ sub → vget (downPort t p).linkUp n = vget d.linkUp n) ∧
      (downPort t p).requests.filter (·.write) = d.requests.filter (fun r => r.write && decide (subOf d r.addr ≠ sub)) ∧
      faults t 1 ∧ t.down.cxl = s.down.cxl) ∧
    (let late := maps ∧ vget d.upAt sub + Config.secUnits ≤ now s
     (¬late → exec (.cxlNotActive p sub) s = .next s) ∧
     (late → ∃ t, exec (.cxlNotActive p sub) s = .next t ∧ vget (downPort t p).linkUp sub = false ∧
       (downPort t p).linkDowns = d.linkDowns ∧ faults t 1)) ∧
    (¬(pcieMode d.mode.val = true ∧ vget d.linkUp sub = true) → exec (.pcieDsLinkDown p sub) s = .next s) ∧
    (pcieMode d.mode.val = true → vget d.linkUp sub = true → ∃ t, exec (.pcieDsLinkDown p sub) s = .next t ∧
      vget (downPort t p).linkUp sub = false ∧ (downPort t p).linkDowns = satAdd d.linkDowns 1 ∧
      (∀ n, n ≠ sub → vget (downPort t p).linkUp n = vget d.linkUp n) ∧
      ∀ a, let here := (archiveOf s a).attached && decide ((archiveOf s a).port = p) && decide ((archiveOf s a).sub = sub)
        (archiveOf t a).attached = ((archiveOf s a).attached && !here) ∧
        (archiveOf t a).job = if here then none else (archiveOf s a).job) ∧
    exec (.dsPrsntChange p false) s = .next (s.modDown p fun d => { d with absent := false }) ∧
    (∃ t, exec (.dsPrsntChange p true) s = .next t ∧ (downPort t p).absent = true ∧
      (∀ n, vget (downPort t p).linkUp n = (vget d.linkUp n && decide (d.mode = 0))) ∧
      ∀ q, q ≠ p → (downPort t q).linkUp = (downPort s q).linkUp) ∧
    (d.perstAt.all (fun x => now s < x) = true → exec (.dsPerstRelease p) s = .next s) ∧
    (∀ x, d.perstAt = some x → x ≤ now s →
      exec (.dsPerstRelease p) s = .next (s.modDown p fun d => { d with perstOut := true, perstAt := none }))

/-- PORT_MODE (12 R233, R242; 22 R429), with every row of its outcome table. Legal, within the ceilings and not busy it sets mode and TARGET_RATE with every link down; OFF and a port
without a device answer at once, any other mode waits up to 100 ms for its links, and answers OK once every awaited link is up, and TIMEOUT at the end otherwise, with what has trained. -/
def Claim.PortModes : Prop :=
  (∀ (c : Cmd) (rest : List Cmd) (s : State), Ready .portMode c rest s →
    let t := taken c rest s
    let rate := c.u 2 1
    let answers := fun (st : Status) (off : Nat) => exec .portMode s = .next (answer c (some 9) st off [] t)
    (3 < c.u 0 1 → answers .badParam 0) ∧ (c.u 0 1 ≤ 3 → 5 < c.u 1 1 → answers .badParam 1) ∧
    (∀ (p : Fin 4) (m : Fin 6), c.u 0 1 = p.val → c.u 1 1 = m.val →
      let legal := rate ≤ 4 ∧ (cxlMode m.val = true → 2 ≤ rate)
      (¬legal → answers .badParam 2) ∧
      (legal → portBusy t p = true → answers .busyRunning 0) ∧
      (∀ r, legal → portBusy t p = false → portExceeds t p m.val rate = some r → answers .budgetExceeded r) ∧
      (legal → portBusy t p = false → portExceeds t p m.val rate = none → ∃ u,
        exec .portMode s = .next (if m = 0 ∨ (downPort t p).absent = true
          then answer c (some 9) .ok 0 (trainedReply (downPort u p)) u
          else await c (some 9) (.portMode p (now t + 100 * Config.msUnits)) u) ∧
        (downPort u p).mode = m ∧ (downPort u p).targetRate = rate ∧ (∀ n, vget (downPort u p).linkUp n = false) ∧
        (m = 0 → (downPort u p).perstOut = false ∧ (downPort u p).perstAt = none) ∧
        (m ≠ 0 → (downPort u p).perstOut = (downPort t p).perstOut) ∧
        ∀ b, (u.bank b).state = if (t.bank b).state = .verified then .loaded else (t.bank b).state))) ∧
  (∀ (p : Fin 4) (detected : BitVec 4) (s : State),
    let mine := fun w : Wait => match w with | .portMode q _ => q = p | _ => false
    let port := downPort s p
    let up := port.absent = true ∨ ∀ n ∈ port.subs,
      vget port.linkUp n = true ∨ (cxlMode port.mode.val = false ∧ detected.getLsb n = false)
    ((firmware s = false ∨ s.host.deferred.any (fun d => mine d.wait) = false) →
      exec (.portModeDone ⟨p, detected⟩) s = .next s) ∧
    (∀ d x, firmware s = true → s.host.deferred.find? (fun d => mine d.wait) = some d → d.wait = .portMode p x →
      let ends := fun st : Status => exec (.portModeDone ⟨p, detected⟩) s = .next
        (finished d { status := st, detail := 0, payload := trainedReply port }
          { s with host := { s.host with deferred := s.host.deferred.erase d } })
      (up → ends .ok) ∧ (¬up → x ≤ now s → ends .timeout) ∧
      (¬up → now s < x → exec (.portModeDone ⟨p, detected⟩) s = .next s)))

/-- Downstream links and PORT_MODE: the claims above, together. -/
def Obligations.DownstreamPorts : Prop :=
  Claim.DownstreamLinks ∧ Claim.PortModes

/-- DMA descriptors (13 R256, R258, R260, R261, R264, R265), executed by a running channel that has no read to issue and no stop to take. A MOVE or MOVE_VERIFY
loads its fields and becomes the channel's latest move; a move of no bytes has none to issue, and one to an archive waits for its first request. From CAPTURE it takes the first CLOSED capture of the ring's queue that the channel does not move already, with its tiles, or waits for one.
WAIT_EVENT takes a pending pulse of its line or waits; SIGNAL, with every earlier move complete, pulses its line; LOOP branches until its count, without limit for a count of 0, and then
falls through; STOP, and the end of the program, stop. A row that is not the descriptor at the channel's place, and any row of a channel that does not execute, does nothing. -/
def Obligations.DmaDescriptors : Prop :=
  ∀ (c : Fin 32) (s : State),
    let d := s.dma c
    let at_ := fun op : Nat => engines s = true ∧ d.executes = true ∧ d.desc.map dOp = some op
    (¬at_ 1 → exec (.move c) s = .next s) ∧ (¬at_ 2 → exec (.moveVerify c) s = .next s) ∧
    (¬at_ 3 → exec (.waitEvent c) s = .next s) ∧ (¬at_ 4 → exec (.signal c) s = .next s) ∧
    (¬at_ 5 → exec (.loop c) s = .next s) ∧
    (¬(engines s = true ∧ d.executes = true ∧ (d.desc = none ∨ d.desc.map dOp = some 0)) →
      exec (.dmaDescStop c) s = .next s) ∧
    (engines s = true → d.executes = true → (d.desc = none ∨ d.desc.map dOp = some 0) →
      exec (.dmaDescStop c) s = .next (s.modDma c fun d => { d with state := .stopped, reason := .none })) ∧
    (∀ x, engines s = true → d.executes = true → d.desc = some x →
      let loaded := fun (t : State) (count : Nat) (cap : Option CapMove) =>
        (t.dma c).src = dSrc x ∧ (t.dma c).dst = dDst x ∧ (t.dma c).count = count ∧
        (t.dma c).moves = d.moves ++ [{ serial := d.serial, num := d.pc, desc := x, capture := cap
                                        issuedAll := count = 0, waiting := 0, indexed := false, dead := false }] ∧
        (t.dma c).serial = d.serial + 1 ∧ (t.dma c).pc = (if count = 0 then d.pc + 1 else d.pc) ∧
        (t.dma c).state = (if dDstSpace x = 9 ∧ count ≠ 0 then .waiting else .running) ∧
        (dDstSpace x = 9 → count ≠ 0 → (t.dma c).reason = .request) ∧
        (∀ e, e ≠ c → t.dma e = s.dma e) ∧ t.down.near = s.down.near ∧ t.hostMem = s.hostMem ∧ t.down.cxl = s.down.cxl
      let taken := fun (t : State) =>
        let next := nextCapture s c (dStream x)
        (next = none → (t.dma c).state = .waiting ∧ (t.dma c).reason = .capture ∧ (t.dma c).pc = d.pc ∧
          (t.dma c).moves = d.moves) ∧
        ∀ i r n k, next = some (i, r, n, k) →
          let all := (r.heldTiles k).map (·.seq)
          let left := if dLength x = 0 then all else all.take (dLength x / 4096)
          loaded t (4096 * left.length)
            (some { stream := i, slot := n, id := k.id, left := left, cut := decide (left.length < all.length) }) ∧
          (t.dma c).flags = if left.length < all.length then d.flags.raise 6 else d.flags
      (dOp x = 1 → ∃ t, exec (.move c) s = .next t ∧
        (dSrcSpace x ≠ 8 → loaded t (dLength x) none) ∧ (dSrcSpace x = 8 → taken t)) ∧
      (dOp x = 2 → ∃ t, exec (.moveVerify c) s = .next t ∧
        (dSrcSpace x ≠ 8 → loaded t (dLength x) none) ∧ (dSrcSpace x = 8 → taken t)) ∧
      (dOp x = 3 → d.pulses (dLine x) = 0 → exec (.waitEvent c) s = .next (s.modDma c fun d =>
        { d with state := .waiting, reason := .event })) ∧
      (∀ n, dOp x = 3 → d.pulses (dLine x) = n + 1 → ∃ t, exec (.waitEvent c) s = .next t ∧ (t.dma c).pc = d.pc + 1 ∧
        (t.dma c).pulses (dLine x) = n ∧ (t.dma c).state = .running ∧
        ∀ l, l ≠ dLine x → (t.dma c).pulses l = d.pulses l) ∧
      (dOp x = 4 → d.moves.any (fun m => !m.dead) = true → exec (.signal c) s = .next s) ∧
      (dOp x = 4 → d.moves.any (fun m => !m.dead) = false → ∃ t, exec (.signal c) s = .next t ∧ (t.dma c).pc = d.pc + 1 ∧
        t.out = .eventLine (dLine x) :: s.out) ∧
      (let branches := ((d.loops.find? fun e => e.1 = d.pc).map (·.2)).getD 0
       let others := d.loops.filter fun e => e.1 ≠ d.pc
       (dOp x = 5 → (dIter x = 0 ∨ branches < dIter x) → exec (.loop c) s = .next (s.modDma c fun d =>
         { d with pc := dTarget x, loops := (d.pc, branches + 1) :: others })) ∧
       (dOp x = 5 → dIter x ≠ 0 → dIter x ≤ branches → exec (.loop c) s = .next (s.modDma c fun d =>
         { d with pc := d.pc + 1, loops := others }))))

/-- DMA bursts and their end (13 R257 to R259, R262, R263, R269, R270). A channel whose destination does not ask, or whose allowance of a declared space does not cover the burst, waits; one without read credits stays as it is.
Otherwise a burst moves at most the bytes up to the next 4,096-byte boundary of its source, or one tile of a capture, and moves the registers on by as much: near memory and a host are read at once, and every byte outside the destination stays; a CXL port gets a read that holds its credits.
A complete move leaves the channel; a withdrawn request waits, and counts where a burst of its move is in progress; an errored beat of the latest host burst leaves 64 bytes unknown and ends in ERROR_BEAT or,
behind the last read, in ERROR_TAIL. Without such a move, burst or beat nothing happens. -/
def Claim.DmaBursts : Prop :=
  ∀ (c : Fin 32) (s : State),
    let d := s.dma c
    (d.current = none → exec (.dmaBurst c) s = .next s) ∧
    (∀ m, d.current = some m →
      let x := m.desc
      let clocked := engines s = true ∧ (touchesNear x = true → locked s 3 = true)
      let asked := mayIssue s c m = true
      let len := burstLen d m
      let covered := budgetCovers (dmaEntry s c) d (touchesNear x) (burstPort s m) len = true
      (¬clocked → exec (.dmaBurst c) s = .next s) ∧
      (clocked → ¬asked → exec (.dmaBurst c) s = .next (if d.state = .running ∧ d.stopping = false then
        s.modDma c fun d => { d with state := .waiting, reason := .request } else s)) ∧
      (clocked → asked → ¬covered → ∃ t, exec (.dmaBurst c) s = .next t ∧
        ((d.state = .running ∨ d.state = .waiting) → (t.dma c).state = .waiting ∧ (t.dma c).reason = .budget) ∧
        (d.state = .pausing → (t.dma c).state = .pausing ∧ (t.dma c).resume = .budget) ∧ t.down.near = s.down.near ∧
        t.hostMem = s.hostMem ∧ (t.dma c).moves = d.moves ∧ (t.dma c).count = d.count) ∧
      (clocked → asked → covered → creditsCover s (burstPort s m) len = false → ∃ t, exec (.dmaBurst c) s = .next t ∧
        (t.dma c).moves = d.moves ∧ (t.dma c).count = d.count ∧ t.down.near = s.down.near ∧ t.hostMem = s.hostMem) ∧
      (clocked → asked → covered → creditsCover s (burstPort s m) len = true →
        let goesOn := fun t : State =>
          (t.dma c).src = d.src + len ∧ (t.dma c).dst = d.dst + len ∧ (t.dma c).count = d.count - len ∧
          (t.dma c).moved = d.moved + BitVec.ofNat 64 len ∧
          (t.dma c).pc = (if d.count ≤ len then d.pc + 1 else d.pc) ∧
          (t.dma c).nearUsed = (if touchesNear x then d.nearUsed + len else d.nearUsed)
        (∀ p : PortId, dSrcSpace x = 1 → dDstSpace x = 6 + p.val → (vget s.hostMem p).wf → ∃ t,
          exec (.dmaBurst c) s = .next t ∧ goesOn t ∧
          (∀ k, k < len → memGet (vget t.hostMem p) (d.dst + k) = (nearBytes s 5 d.src len).getD k 0) ∧
          (∀ a, a < d.dst ∨ d.dst + len ≤ a → memGet (vget t.hostMem p) a = memGet (vget s.hostMem p) a) ∧
          t.down.near.data = s.down.near.data) ∧
        (∀ p : PortId, dSrcSpace x = 6 + p.val → dDstSpace x = 1 → (s.port p).linkUp = true → s.down.near.data.wf → ∃ t,
          exec (.dmaBurst c) s = .next t ∧ goesOn t ∧
          (t.dma c).lastHost = some { serial := m.serial, num := m.num, dst := d.dst, len := len } ∧
          (∀ k, k < len → memGet t.down.near.data (d.dst + k) = memGet (vget s.hostMem p) (d.src + k)) ∧
          (∀ a, a < d.dst ∨ d.dst + len ≤ a → memGet t.down.near.data a = memGet s.down.near.data a) ∧
          t.hostMem = s.hostMem) ∧
        (∀ p : Fin 4, dSrcSpace x = 2 + p.val → ∃ t w, exec (.dmaBurst c) s = .next t ∧ goesOn t ∧
          (downPort t p).requests = (downPort s p).requests ++ [w] ∧ w.write = false ∧ w.addr = d.src ∧ w.len = len ∧
          w.held = ceilDiv len 64 ∧ w.issued = now s ∧ t.down.near = s.down.near ∧ t.hostMem = s.hostMem) ∧
        (∀ y r q more, dSrcSpace x = 8 → m.capture = some y → capRing s m = some r → y.left = q :: more → ∃ t w,
          exec (.dmaBurst c) s = .next t ∧ goesOn t ∧ len = 4096 ∧
          (downPort t (cxlPort r.cfg.port)).requests = (downPort s (cxlPort r.cfg.port)).requests ++ [w] ∧
          w.write = false ∧ w.addr = r.tileAddr q ∧ w.len = 4096 ∧ w.held = 64 ∧ w.issued = now s))) ∧
    (let oldest := d.moves.find? fun m => !m.dead
     (oldest.all (fun m => !m.complete) = true → exec (.dmaMoveComplete c) s = .next s) ∧
     (∀ m, oldest = some m → m.complete = true → ∃ t, exec (.dmaMoveComplete c) s = .next t ∧
       (t.dma c).moves = d.moves.filter (fun x => x.serial ≠ m.serial) ∧
       (∀ x, m.capture = some x → (x.stream, x.id) ∉ (t.dma c).capQ) ∧ (t.dma c).state = d.state ∧
       t.down.near = s.down.near ∧ t.hostMem = s.hostMem)) ∧
    (let served := d.moves.reverse.find? fun m => m.asked && (decide (0 < m.waiting) || !m.issuedAll)
     (served = none → exec (.withdrawn c) s = .next s) ∧
     (∀ m, served = some m → ∃ t, exec (.withdrawn c) s = .next t ∧
       (t.dma c).withdrawn = (if 0 < m.waiting then satAdd d.withdrawn 1 else d.withdrawn) ∧
       (t.dma c).flags = (if 0 < m.waiting then d.flags.raise 3 else d.flags) ∧ (t.dma c).moves = d.moves ∧
       (m.issuedAll = true → (t.dma c).state = d.state) ∧
       (m.issuedAll = false → (d.state = .running ∨ d.state = .waiting) →
         (t.dma c).state = .waiting ∧ (t.dma c).reason = .request))) ∧
    (∀ k : Fin 64, d.lastHost.all (fun b => b.len ≤ 64 * k.val) = true →
      exec (.dmaBeatError c false k) s = .next s) ∧
    (∀ (b : HostBurst) (k : Fin 64), d.lastHost = some b → 64 * k.val < b.len → s.down.near.data.wf →
      ∃ t, exec (.dmaBeatError c false k) s = .next t ∧
        (t.dma c).state = (if d.stopping = true then .stopped else if d.busy = true then
          (if d.count = 0 then .errorTail else .errorBeat) else d.state) ∧
        (t.dma c).errDesc = b.num ∧ (t.dma c).errDst = b.dst + 64 * k.val ∧ (t.dma c).lastHost = none ∧
        (t.dma c).flags = d.flags.raise (if d.count = 0 then 2 else 1) ∧
        (∀ a, a < b.dst + 64 * k.val ∨ b.dst + 64 * k.val + 64 ≤ a →
          memGet t.down.near.data a = memGet s.down.near.data a) ∧
        t.dev.faultCount = satAdd s.dev.faultCount 1) ∧
    (∀ k, oldestWrite s c = none → exec (.dmaBeatError c true k) s = .next s) ∧
    (∀ k a y, oldestWrite s c = some (a, y) → ∃ t, exec (.dmaBeatError c true k) s = .next t ∧
      (archiveOf t a).placed = (archiveOf s a).placed.erase y)

/-- A pulse of a hardware event line leaves its crossing (01 R18; 13 R262, R264, R272; 09 R175): a busy channel whose program waits on the
line counts it, up to 255 pulses, beyond which it is an overrun, and goes on if it waits for it; one that stands STOPPED or in an error, or whose program does not name the line, takes nothing; a ring releases
its oldest capture in the order of release, or raises a flag; an archive's doorbell gives the drive what has been placed; a Vent has one more start pending. Where no pulse is in the crossing, nothing happens. -/
def Claim.EventLinePulses : Prop :=
  ∀ (l : Fin 128) (consumer : Consumer) (s : State),
    let pulses := fun t : State => t.down.crossings.find? fun e => e.1 = (l.val, consumer) && decide (0 < e.2)
    (pulses s = none → exec (.eventLinePulse l consumer) s = .next s) ∧
    (∀ key n, pulses s = some (key, n + 1) → ∃ t, exec (.eventLinePulse l consumer) s = .next t ∧
      pulses t = (if n = 0 then none else some (key, n)) ∧
      (∀ c : Fin 32, consumer = .dma c →
        let d := s.dma c
        let takes := d.busy = true ∧ l.val ∈ waitLines d.program
        (∀ e, e ≠ c → t.dma e = s.dma e) ∧ (¬takes → t.dma c = d) ∧
        (takes → d.pulses l.val < 255 → (t.dma c).pulses l.val = d.pulses l.val + 1 ∧ (t.dma c).overrun = d.overrun) ∧
        (takes → 255 ≤ d.pulses l.val → (t.dma c).pulses l.val = d.pulses l.val ∧
          (t.dma c).overrun = satAdd d.overrun 1 ∧ (t.dma c).flags = d.flags.raise 4) ∧
        (takes → d.state = .waiting → d.reason = .event → dLine (d.program.getD d.pc 0) = l.val →
          (t.dma c).state = .running)) ∧
      (∀ i : Fin 16, consumer = .ring i →
        ((s.basinOf i).ring.order = [] → (t.basinOf i).flags = (s.basinOf i).flags.raise 5) ∧
        ∀ id rest, (s.basinOf i).ring.order = id :: rest → ∀ y ∈ ringsOf t i, id ∉ y.order ∧
          ∀ k ∈ y.captures, k.2.id = id → k.2.state = .released) ∧
      (∀ a : Fin 16, consumer = .doorbell a → (archiveOf t a).newPlaced = 0 ∧ (archiveOf t a).placed = (archiveOf s a).placed) ∧
      (∀ v : Fin 2, consumer = .vent v → (vget t.vent.units v).starts = vmod (vget s.vent.units v).starts 1 (· + 1)))

/-- DMA bursts and event-line pulses: the claims above, together. -/
def Obligations.DmaBursts : Prop :=
  Claim.DmaBursts ∧ Claim.EventLinePulses

/-- The DMA commands (13 R266, R268, R273; 19 R378), with every row of their outcome table: each is NOT_READY without an ACTIVE bank, and BAD_PARAM for a channel that the running plan does not hold. DMA_LOAD takes the parts of a HOST channel's program in order, and a FINAL part
that passes its checks loads it; DMA_START starts a channel at descriptor 0 with its counts cleared, or leaves it in
ERROR_ALIGN with the first misaligned descriptor; DMA_PAUSE and DMA_STOP answer once every issued beat is written, at once where nothing is outstanding; DMA_RESUME
takes the state up that the pause found. -/
def Claim.DmaCommands : Prop :=
  ∀ (c : Cmd) (rest : List Cmd) (s : State),
    let t := taken c rest s
    let answers := fun (i : Instr) (st : Status) (off : Nat) => exec i s = .next (answer c (some 10) st off [] t)
    let gives := fun (i : Instr) (st : Status) (off : Nat) (u : State) => exec i s = .next (answer c (some 10) st off [] u)
    (∀ i ∈ [Instr.dmaLoad, .dmaStart, .dmaPause, .dmaResume, .dmaStop], Ready i c rest s →
      (activeBank t = none → answers i .notReady 0) ∧
      (∀ b, activeBank t = some b → (∀ ch : Fin 32, c.u 0 1 = ch.val → ((planIn t b).dmaOf ch.val).present = false) →
        answers i .badParam 0)) ∧
    (∀ (ch : Fin 32) (b : Fin 2), c.u 0 1 = ch.val → activeBank t = some b → ((planIn t b).dmaOf ch.val).present = true →
      let e := (planIn t b).dmaOf ch.val
      let d := t.dma ch
      let rests := d.state = .stopped ∨ d.state = .errorAlign ∨ d.state = .errorBeat ∨ d.state = .errorTail
      let first := c.u 1 1
      let n := c.u 2 1
      let had := if first = 0 then [] else d.partialProg
      let dropped := t.modDma ch fun d => { d with partialProg := [], loaded := false }
      (Ready .dmaLoad c rest s →
        (e.host = false → answers .dmaLoad .refusedState 0) ∧
        (e.host = true → ¬rests → answers .dmaLoad .busyRunning 0) ∧
        (e.host = true → rests → (n = 0 ∨ 14 < n) → answers .dmaLoad .badParam 2) ∧
        (e.host = true → rests → 0 < n → n ≤ 14 → first ≠ had.length → gives .dmaLoad .badParam 1 dropped) ∧
        (e.host = true → rests → 0 < n → n ≤ 14 → first = had.length → 256 < first + n →
          gives .dmaLoad .badParam 2 dropped) ∧
        (e.host = true → rests → 0 < n → n ≤ 14 → first = had.length → first + n ≤ 256 →
          let prog := had ++ partDescs c
          let sound := programOk (planNow t) e (nearSize t) prog = true
          (bit 0 (c.u 3 1) = false → gives .dmaLoad .ok 0 (t.modDma ch fun d =>
            { d with partialProg := prog, loaded := false })) ∧
          (bit 0 (c.u 3 1) = true → ¬sound → gives .dmaLoad .badParam 8 dropped) ∧
          (bit 0 (c.u 3 1) = true → sound → gives .dmaLoad .ok 0 (t.modDma ch fun d =>
            { d with program := prog, loaded := true, partialProg := [] })))) ∧
      (let prog := if e.host then d.program else e.descs
       Ready .dmaStart c rest s →
        ((d.busy = true ∨ (e.host = true ∧ d.loaded = false)) → answers .dmaStart .refusedState 0) ∧
        (d.busy = false → (e.host = true → d.loaded = true) → firstMisaligned t prog = none →
          ∃ u, gives .dmaStart .ok 0 u ∧ (u.dma ch).state = .running ∧ (u.dma ch).pc = 0 ∧ (u.dma ch).count = 0 ∧
            (u.dma ch).program = prog ∧ (u.dma ch).loops = [] ∧ (u.dma ch).pendingPulses = []) ∧
        (∀ k, d.busy = false → (e.host = true → d.loaded = true) → firstMisaligned t prog = some k →
          ∃ u, gives .dmaStart .badAlign k u ∧ (u.dma ch).state = .errorAlign ∧ (u.dma ch).errDesc = k ∧
            (u.dma ch).flags = d.flags.raise 0 ∧ u.dev.faultCount = satAdd t.dev.faultCount 1)) ∧
      (Ready .dmaPause c rest s →
        let paused := t.modDma ch fun d => { d with state := .pausing, resume := d.reason, reason := .none }
        (d.state = .paused → answers .dmaPause .ok 0) ∧
        (d.state = .waiting → outstanding t ch = false → gives .dmaPause .ok 0 (t.modDma ch fun d =>
          { d with state := .paused, resume := d.reason, reason := .none })) ∧
        ((d.state = .running ∨ (d.state = .waiting ∧ outstanding t ch = true)) →
          exec .dmaPause s = .next (await c (some 10) (.dmaPause ch) paused)) ∧
        (d.state ≠ .paused → d.state ≠ .running → d.state ≠ .waiting → answers .dmaPause .refusedState 0)) ∧
      (Ready .dmaResume c rest s →
        (d.state ≠ .paused → answers .dmaResume .refusedState 0) ∧
        (d.state = .paused → gives .dmaResume .ok 0 (t.modDma ch fun d =>
          { d with state := if d.resume = .none then .running else .waiting, reason := d.resume, resume := .none }))) ∧
      (Ready .dmaStop c rest s →
        (d.state = .errorAlign → answers .dmaStop .ok 0) ∧
        (d.state ≠ .errorAlign → outstanding t ch = true → exec .dmaStop s =
          .next (await c (some 10) (.dmaStop ch) (t.modDma ch fun d => { d with stopping := true }))) ∧
        (d.state ≠ .errorAlign → outstanding t ch = false → ∃ u, gives .dmaStop .ok 0 u ∧ (u.dma ch).state = .stopped ∧
          (u.dma ch).moves = [] ∧ (u.dma ch).udpTiles = [])))

/-- The ends of a pause and of a stop (13 R268, R273): once every issued beat is written the channel is PAUSED, or STOPPED with no move left,
and the first command that waits for it answers OK; until then, and of a channel that neither pauses nor stops, nothing happens. -/
def Claim.DmaPausesEnd : Prop :=
  ∀ (c : Fin 32) (s : State),
    let ok : Reply := { status := .ok, detail := 0, payload := [] }
    (((s.dma c).state ≠ .pausing ∨ outstanding s c = true) → exec (.dmaPaused c) s = .next s) ∧
    ((s.dma c).state = .pausing → outstanding s c = false →
      let u := s.modDma c fun d => { d with state := .paused }
      let waiting := s.host.deferred.find? fun w => w.wait = .dmaPause c
      (waiting = none → exec (.dmaPaused c) s = .next u) ∧
      ∀ w, waiting = some w → exec (.dmaPaused c) s =
        .next (finished w ok { u with host := { u.host with deferred := u.host.deferred.erase w } })) ∧
    (((s.dma c).stopping = false ∨ outstanding s c = true) → exec (.dmaStopped c) s = .next s) ∧
    ((s.dma c).stopping = true → outstanding s c = false → ∃ t, exec (.dmaStopped c) s = .next t ∧
      (t.dma c).state = .stopped ∧ (t.dma c).stopping = false ∧ (t.dma c).moves = [] ∧ (t.dma c).udpTiles = [] ∧
      (∀ w ∈ t.host.deferred, w.wait ≠ .dmaStop c) ∧
      (∀ w, s.host.deferred = [w] → w.wait = .dmaStop c →
        ∃ v, t = finished w ok v ∧ v.host.deferred = []))

/-- The DMA commands: the claims above, together. -/
def Obligations.DmaCommands : Prop :=
  Claim.DmaCommands ∧ Claim.DmaPausesEnd

/-- Assignment (11 R213, R224 to R226, R229 to R231; 02 R37). A record assigned to a set of paths takes one SEQ on each of them, whether it is delivered or
dropped, and leaves every other path as it is. Where it is larger than the path's space it counts as oversize; where the path is not in order or its queue does not accept it, it is dropped and counted; otherwise a ring's queue holds it, a UDP destination
has it last in its pending datagram, and the uplink sends it. -/
def Obligations.RecordAssignment : Prop :=
  ∀ (mask : Nat) (r : Record) (s : State),
    let t := assignMask mask r s
    ∀ i : Fin 25,
      let p := vget s.records.paths i
      let q := vget t.records.paths i
      let large := pathSpace i s < r.size ∧
        (i.val < 16 ∨ i.val = 24 ∨ (destOf i).any (fun d => (vget s.records.udp d).enabled) = true)
      let taken := pathReady i s = true ∧ accepts i r.eventClass r.size s = true
      (bit i.val mask = false → q = p) ∧
      (bit i.val mask = true → q.seq = p.seq + 1 ∧
        (large → q = { p with seq := p.seq + 1, oversize := satAdd p.oversize 1 }) ∧
        (¬large → ¬taken → q = { p with seq := p.seq + 1, drops := satAdd p.drops 1 }) ∧
        (¬large → taken →
          (i.val < 16 → q = { p with seq := p.seq + 1, queue := p.queue ++ [{ seq := p.seq, item := r }] }) ∧
          (∀ d, destOf i = some d → (vget t.records.udp d).pending.getLast? = some (r.bytes p.seq)) ∧
          (i.val = 24 → ∃ l m, Out.fabric l m ∈ t.out ∧ m.body = .recordFrag p.seq r)))

/-- RING_ENTRY_WRITE (11 R226 to R228). The oldest waiting record of a ring that is up is written, with its padding, at the ring's slot behind its header, behind a PAD entry where the rest of the ring is too short; nothing else of the host's memory changes, and ENTRY_SEQ and
the slot move on; where host software has not passed the slots, or the ring or its link is down, it is dropped and counted and the memory is as it was. The vector is then raised under RING_IRQ_HOLDOFF: not at all for 0, at once outside of a holdoff, and otherwise once at its end. -/
def Claim.RingEntries : Prop :=
  ∀ (r : Fin 16) (s : State),
    let g := ringRt s r
    let path := vget s.records.paths (ringPath r)
    ((path.queue = [] ∨ engines s = false) → exec (.ringEntryWrite r) s = .next s) ∧
    (∀ q rest, path.queue = q :: rest → engines s = true →
      let up := g.isUp = true ∧ (s.port g.port).linkUp = true
      let need := ceilDiv (16 + (q.item.bytes q.seq).length) 64
      let pad := if g.slots - g.slot < need then g.slots - g.slot else 0
      let at0 := g.base + g.slot * 64
      let at1 := g.base + (if pad = 0 then g.slot else (g.slot + pad) % max g.slots 1) * 64
      let seq := if pad = 0 then g.entrySeq else g.entrySeq + 1
      let fits := g.unpassed + pad + need ≤ g.slots
      (¬(up ∧ fits) → ∃ t, exec (.ringEntryWrite r) s = .next t ∧ vget t.records.paths (ringPath r) =
        { path with queue := rest, drops := satAdd path.drops 1 } ∧ t.hostMem = s.hostMem ∧ ringRt t r = g) ∧
      (up → fits → (vget s.hostMem g.port).wf → ∃ t, exec (.ringEntryWrite r) s = .next t ∧
        vget t.records.paths (ringPath r) = { path with queue := rest } ∧
        (∀ k, k < need * 64 → memGet (vget t.hostMem g.port) (at1 + k) =
          (entryHeader seq need false ++ padTo (need * 64 - 16) (q.item.bytes q.seq)).getD k 0) ∧
        (∀ k, k < pad * 64 → memGet (vget t.hostMem g.port) (at0 + k) =
          (entryHeader g.entrySeq pad true ++ padTo (pad * 64 - 16) []).getD k 0) ∧
        (∀ a, (a < at0 ∨ at0 + pad * 64 ≤ a) → (a < at1 ∨ at1 + need * 64 ≤ a) →
          memGet (vget t.hostMem g.port) a = memGet (vget s.hostMem g.port) a) ∧
        (∀ p, p ≠ g.port → vget t.hostMem p = vget s.hostMem p) ∧
        (ringRt t r).entrySeq = seq + 1 ∧
        (ringRt t r).slot = ((if pad = 0 then g.slot else (g.slot + pad) % max g.slots 1) + need) % max g.slots 1 ∧
        (ringRt t r).written = g.written + pad + need ∧
        (let held := g.lastMsg.any fun x => decide (now s < x + g.holdoffUs * Config.usUnits)
         (g.holdoffUs = 0 → t.out = s.out ∧ (ringRt t r).waiting = g.waiting) ∧
         (g.holdoffUs ≠ 0 → held = true → t.out = s.out ∧ (ringRt t r).waiting = true) ∧
         (g.holdoffUs ≠ 0 → held = false → (ringRt t r).waiting = false ∧ (ringRt t r).lastMsg = some (now s) ∧
           ((s.port g.port).msixEnable = true → (s.port g.port).funcMask = false →
             bit 0 (vget (s.port g.port).msix g.vector).ctrl.toNat = false → t.out = .msix g.port g.vector :: s.out))))) ∧
    (let due := g.isUp = true ∧ g.waiting = true ∧
       g.lastMsg.all (fun x => x + g.holdoffUs * Config.usUnits ≤ now s) = true
     (¬due → exec (.ringIrqHoldoffExpiry r) s = .next s) ∧
     (due → exec (.ringIrqHoldoffExpiry r) s = .next (sendMsix g.port g.vector
       (s.modRecRing r fun g => { g with lastMsg := some (now s), waiting := false }))))

/-- UDP destinations (11 R229, R230): FLUSH_US after its first record the pending datagram goes out with the next sequence
number, the same in a frame on every port of the destination that is up, and not before; while the destination cannot be reached its records are dropped and counted. The first address resolved for an enabled destination is kept. -/
def Claim.UdpDestinations : Prop :=
  ∀ (d : Fin 8) (s : State),
    let u := vget s.records.udp d
    let due := engines s = true ∧ u.pending ≠ [] ∧ u.placedAt + u.flushUs * Config.usUnits ≤ now s
    (¬due → exec (.udpFlushExpiry d) s = .next s) ∧
    (due → udpReady u s = true → ∃ t, exec (.udpFlushExpiry d) s = .next t ∧
      (let payload := u.datagram (nodeId s) d.val
       t.out = (udpPorts u s).reverse.map (fun p => Out.ether p.val (u.etherFrame p.val d.val payload)) ++
         .udp d.val u.ports payload :: s.out) ∧
      vget t.records.udp d = { u with pending := [], dgramSeq := u.dgramSeq + 1 } ∧
      (vget t.records.paths (udpPath d)).drops = (vget s.records.paths (udpPath d)).drops) ∧
    (due → udpReady u s = false → ∃ t, exec (.udpFlushExpiry d) s = .next t ∧ t.out = s.out ∧
      vget t.records.udp d = { u with pending := [] } ∧
      (vget t.records.paths (udpPath d)).drops = satAdd (vget s.records.paths (udpPath d)).drops u.pending.length) ∧
    (∀ mac,
      let wanted := firmware s = true ∧ u.enabled = true ∧ u.mac = none
      (¬wanted → exec (.addressResolution d mac) s = .next s) ∧
      (wanted → exec (.addressResolution d mac) s = .next (s.modUdp d fun u => { u with mac := some (mac % 2 ^ 48) })))

/-- The delivery commands (11 R226, R228, R229), with every row of their outcome table. RING_SETUP of a ring that is down makes it an empty one whose entries are
numbered from 1, and leaves its path; RING_TEARDOWN takes it down and drops what waits for it; UDP_DEST_SET enables a destination with its settings, and disabling one
flushes it first. -/
def Claim.DeliveryCommands : Prop :=
  ∀ (c : Cmd) (rest : List Cmd) (s : State),
    let t := taken c rest s
    let answers := fun (i : Instr) (st : Status) (off : Nat) => exec i s = .next (answer c (some 8) st off [] t)
    (Ready .ringSetup c rest s →
      let up := ∃ r : Fin 16, c.u 0 1 = r.val ∧ (ringRt t r).isUp = true
      let aligned := c.u 8 8 % 4096 = 0
      (up → answers .ringSetup .busyRunning 0) ∧ (¬up → ¬aligned → answers .ringSetup .badAlign 8) ∧
      (¬up → aligned → 15 < c.u 0 1 → answers .ringSetup .badParam 0) ∧
      (¬up → aligned → c.u 0 1 ≤ 15 → 1 < c.u 1 1 → answers .ringSetup .badParam 1) ∧
      (¬up → aligned → c.u 0 1 ≤ 15 → c.u 1 1 ≤ 1 → 31 < c.u 2 1 → answers .ringSetup .badParam 2) ∧
      (∀ (r : Fin 16) (p : PortId) (v : Fin 32), ¬up → aligned → c.u 0 1 = r.val → c.u 1 1 = p.val → c.u 2 1 = v.val →
        let sized := 18 ≤ c.u 3 1 ∧ c.u 3 1 ≤ 32
        let held := c.u 4 4 ≤ 10000
        (¬sized → answers .ringSetup .badParam 3) ∧ (sized → ¬held → answers .ringSetup .badParam 4) ∧
        (sized → held → (t.port p).linkUp = false → answers .ringSetup .notReady 0) ∧
        (sized → held → (t.port p).linkUp = true → ∃ u, exec .ringSetup s = .next (answer c (some 8) .ok 0 [] u) ∧
          u.records.paths = t.records.paths ∧ (∀ j, j ≠ r → ringRt u j = ringRt t j) ∧ (ringRt u r).isUp = true ∧
          (ringRt u r).port = p ∧ (ringRt u r).vector = v ∧ (ringRt u r).log2Bytes = c.u 3 1 ∧ (ringRt u r).base = c.u 8 8 ∧
          (ringRt u r).holdoffUs = c.u 4 4 ∧ (ringRt u r).entrySeq = 1 ∧ (ringRt u r).slot = 0 ∧ (ringRt u r).consumed = 0))) ∧
    (Ready .ringTeardown c rest s → (15 < c.u 0 1 → answers .ringTeardown .badParam 0) ∧
      ∀ r : Fin 16, c.u 0 1 = r.val →
        let path := vget t.records.paths (ringPath r)
        ((ringRt t r).isUp = false → answers .ringTeardown .refusedState 0) ∧
        ((ringRt t r).isUp = true → ∃ u, exec .ringTeardown s = .next (answer c (some 8) .ok 0 [] u) ∧
          (ringRt u r).isUp = false ∧ (∀ j, j ≠ r → ringRt u j = ringRt t j) ∧ u.hostMem = t.hostMem ∧
          vget u.records.paths (ringPath r) = { path with queue := [], drops := satAdd path.drops path.queue.length })) ∧
    (Ready .udpDestSet c rest s →
      (∀ x, udpBad c = some x → answers .udpDestSet .badParam x) ∧
      ∀ d : Fin 8, c.u 0 1 = d.val → udpBad c = none →
        let old := vget t.records.udp d
        let addr := (c.payload.drop 16).take 16
        (bit 0 (c.u 1 1) = true → old.enabled = true → answers .udpDestSet .busyRunning 0) ∧
        (bit 0 (c.u 1 1) = true → old.enabled = false → exec .udpDestSet s = .next (answer c (some 8) .ok 0 []
          (t.modUdp d fun u =>
            { u with
              enabled := true, ipv6 := bit 1 (c.u 1 1), ports := c.u 2 1, dscp := c.u 3 1, udpPort := c.u 4 2
              vlan := c.u 6 2, mtu := c.u 8 2, flushUs := c.u 10 2, addr := addr
              mac := multicastMac (bit 1 (c.u 1 1)) addr, pending := [] }))) ∧
        (bit 0 (c.u 1 1) = false → ∃ u, exec .udpDestSet s = .next (answer c (some 8) .ok 0 [] u) ∧
          (vget u.records.udp d).enabled = false ∧ (vget u.records.udp d).pending = [] ∧
          (old.pending ≠ [] → udpReady old t = true →
            Out.udp d.val old.ports (old.datagram (nodeId t) d.val) ∈ u.out)))

/-- Record rings and UDP destinations: the claims above, together. -/
def Obligations.Delivery : Prop :=
  Claim.RingEntries ∧ Claim.UdpDestinations ∧ Claim.DeliveryCommands

/-- Links of the fabric (16 R315 to R318, R327). A partner of the part's own answers to 64 probes, any other is refused; each PROBE is echoed; at the
64th echo a link of at most 90 ns takes its delay and sends a heartbeat and a longer one fails; the first heartbeat admits a
partner that the topology allows, and any other fails with a fault; a link silent for 8,000 TCLK edges goes down, is counted and links again. What does not fit the link's state has no effect. -/
def Obligations.FabricLinks : Prop :=
  ∀ (f : Fin 12) (s : State),
    let l := s.fabLane f
    let runs := engines s = true ∧ locked s 6 = true
    let others := fun t : State => ∀ g, g ≠ f → t.fabLane g = s.fabLane g
    (∀ part, ¬runs → exec (.fabricLinkUp f part) s = .next s) ∧
    (∀ cause : Fin 4, ¬(l.state = .linking ∧ cause ≠ 0) → exec (.fabricLinkUp f (.failed cause)) s = .next s) ∧
    (∀ cause : Fin 4, runs → l.state = .linking → cause ≠ 0 → exec (.fabricLinkUp f (.failed cause)) s =
      .next (s.modFabLane f fun l => { l with state := .failed, failCause := cause.val })) ∧
    (∀ p,
      let locks := (l.state = .linking ∨ (l.state = .failed ∧ l.failCause ≤ 3)) ∧ l.peak.isSome = true
      (¬locks → exec (.fabricLinkUp f (.hello p)) s = .next s) ∧
      (runs → locks → p ≠ 0x1640 → ∃ t, exec (.fabricLinkUp f (.hello p)) s = .next t ∧
        t.fabLane f = { l with state := .failed, failCause := 8 } ∧ others t) ∧
      (runs → locks → p = 0x1640 → ∃ t, exec (.fabricLinkUp f (.hello p)) s = .next t ∧
        t.fabLane f = { l with state := .measuring, probes := [], failCause := 0 } ∧ others t ∧
        t.out.length = s.out.length + 65 ∧ ∀ n, n < 64 → ∃ e, Out.fabric f.val e ∈ t.out ∧ e.body = .probe n)) ∧
    (∀ node depth, measured l = false → exec (.fabricLinkUp f (.heartbeat node depth)) s = .next s) ∧
    (∀ node depth, runs → measured l = true →
      (topologyOk s f node depth = true → ∃ t, exec (.fabricLinkUp f (.heartbeat node depth)) s = .next t ∧
        t.fabLane f = { l with
          state := .up, partner := node, partnerDepth := depth, lastBeat := s.time.tclk, lastOwn := s.time.tclk
          failCause := 0 } ∧ others t) ∧
      (topologyOk s f node depth = false → ∃ t, exec (.fabricLinkUp f (.heartbeat node depth)) s = .next t ∧
        t.fabLane f = { l with state := .failed, failCause := 10, partner := node } ∧ others t ∧
        t.dev.faultCount = satAdd s.dev.faultCount 1)) ∧
    (∀ (m : FabricMsg) n, m.body = .probe n → NewMessage f m s → ∃ t e, exec (.probe f m) s = .next t ∧
      t.out = .fabric f.val e :: s.out ∧ e.body = .echo n ∧ e.src = nodeId s ∧ e.dst = m.src ∧ e.crcOk = true) ∧
    (∀ (m : FabricMsg) n x, m.body = .echo n → NewMessage f m s →
      let sum := l.probes.sum + x
      ((l.state ≠ .measuring ∨ 64 ≤ l.probes.length) → exec (.echo f m x) s = .next (noted f m s)) ∧
      (l.state = .measuring → l.probes.length < 63 → exec (.echo f m x) s =
        .next ((noted f m s).modFabLane f fun l => { l with probes := l.probes ++ [x] })) ∧
      (l.state = .measuring → l.probes.length = 63 → sum ≤ 90000 * 128 → ∃ t, exec (.echo f m x) s = .next t ∧
        (t.fabLane f).delay = sum / 1280 ∧ (t.fabLane f).pad = 16000 - sum / 1280 ∧ measured (t.fabLane f) = true ∧
        ∃ e, t.out = .fabric f.val e :: s.out ∧ e.body = heartbeatOf s) ∧
      (l.state = .measuring → l.probes.length = 63 → 90000 * 128 < sum → ∃ t, exec (.echo f m x) s = .next t ∧
        (t.fabLane f).state = .failed ∧ (t.fabLane f).failCause = 9 ∧ (t.fabLane f).delay = sum / 1280 ∧ t.out = s.out)) ∧
    (let silent := engines s = true ∧ l.state = .up ∧ l.lastBeat + 8000 ≤ s.time.tclk
     (¬silent → exec (.fabricLinkDown f) s = .next s) ∧
     (silent → ∃ t, exec (.fabricLinkDown f) s = .next t ∧
       (t.fabLane f).state = (if l.use = 0 then .off else .linking) ∧ (t.fabLane f).linkDowns = satAdd l.linkDowns 1 ∧
       (t.fabLane f).flags = l.flags.raise 0 ∧ others t))

/-- Heartbeats and epoch marks (16 R317, R320 to R322, R325 to R327). A heartbeat goes out on every link that is UP, while the engines run and the node has a role; one that arrives, a copy too,
dates its link, and the partner's own dates the partner and gives the neighbour offset, which is reported when it comes to lie beyond TIME_TOL; on a measured link it is the first one. A new one is taken by the node: the manager notes its sender, a worker its manager. A mark that
agrees with the node's epochs has no further effect, another raises the link's flag and a fault. -/
def Claim.FabricHeartbeats : Prop :=
  ∀ (f : Fin 12) (s : State),
    let l := s.fabLane f
    ((engines s = false ∨ s.fabric.role = .off) → exec .heartbeatSend s = .next s) ∧
    (engines s = true → s.fabric.role ≠ .off → ∃ t e, exec .heartbeatSend s = .next t ∧
      t.out = (upLanesOf s [1, 2, 3]).reverse.map (fun g => Out.fabric g.val e) ++ s.out ∧ e.body = heartbeatOf s ∧
      e.src = nodeId s ∧ e.crcOk = true) ∧
    (∀ (m : FabricMsg) sent r, m.body = .heartbeat sent r → linkTakes s f m = true → m.crcOk = true →
      ∃ t, exec (.heartbeat f m) s = .next t ∧
        (l.state = .up →
          (t.fabLane f).lastBeat = s.time.tclk ∧
          (l.partner ≠ m.src → (t.fabLane f).lastOwn = l.lastOwn ∧ (t.fabLane f).offsets = l.offsets) ∧
          (l.partner = m.src → (t.fabLane f).lastOwn = s.time.tclk ∧ (t.fabLane f).partnerDepth = r.depth ∧
            (t.fabLane f).offsets = (((now s : Int) - (linkLatency : Int) - (sent : Int)) :: l.offsets).take 16 ∧
            (t.fabLane f).apart = timeDisagrees s (t.fabLane f) ∧
            t.dev.faultCount = satAdd s.dev.faultCount (if (t.fabLane f).apart && !l.apart then 1 else 0))) ∧
        (measured l = true → topologyOk s f m.src r.depth = true →
          (t.fabLane f).state = .up ∧ (t.fabLane f).partner = m.src ∧ (t.fabLane f).lastOwn = s.time.tclk) ∧
        (measured l = true → topologyOk s f m.src r.depth = false →
          (t.fabLane f).state = .failed ∧ (t.fabLane f).failCause = 10) ∧
        (NewMessage f m s →
          (∀ n : Fin 64, m.src = n.val → s.fabric.role = .manager → (t.nodeRt n).lastBeat = s.time.tclk ∧
            (t.nodeRt n).lastSent = sent ∧ (t.nodeRt n).depth = r.depth ∧ (t.nodeRt n).streams = r.streams ∧
            (t.nodeRt n).planId = r.planId ∧ (fromBelow s f = true → (t.nodeRt n).via = some f)) ∧
          (m.src = 0 → s.fabric.role = .worker → l.use ≠ 3 → t.fabric.lastManager = s.time.tclk))) ∧
    (∀ (m : FabricMsg) k, m.body = .epochMark k → NewMessage f m s →
      (markAgrees s k = true → exec (.epochMark f m) s = .next (noted f m s)) ∧
      (markAgrees s k = false → ∃ t, exec (.epochMark f m) s = .next t ∧
        (t.fabLane f).flags = ((noted f m s).fabLane f).flags.raise 4 ∧ t.dev.faultCount = satAdd s.dev.faultCount 1))

/-- What a link and a node do with a message before its kind matters (16 R317 to R319, R321, R322). A row whose message its link does not take does nothing; one whose CRC fails is counted and has no
further effect; a control block of an unknown kind is counted; one that waited for too long at its sender is counted and taken; a copy of one already taken has no further effect but for a heartbeat's on its link. A message of the tunnel or of joining that another node is meant to get goes on towards it, unchanged. -/
def Claim.FabricReception : Prop :=
  ∀ (f : Fin 12) (m : FabricMsg) (x : Nat) (s : State),
    let l := s.fabLane f
    (∀ i ∈ receptionRows f m x,
      (linkTakes s f m = false → exec i.1 s = .next s) ∧
      (linkTakes s f m = true → i.2 = true → m.crcOk = false → exec i.1 s = .next (s.modFabLane f fun l =>
        { l with crcErr := satAdd l.crcErr 1, flags := l.flags.raise 1 })) ∧
      (linkTakes s f m = true → m.body = .other → m.crcOk = true → exec i.1 s =
        .next (s.modFabLane f fun l => { l with unknown := satAdd l.unknown 1 })) ∧
      (i.2 = false → m.body ≠ .other → exec i.1 s = .next s) ∧
      (linkTakes s f m = true → i.2 = true → m.crcOk = true → forwardedLate l m = true → ∃ t, exec i.1 s = .next t ∧
        (t.fabLane f).fwdLate = satAdd l.fwdLate 1) ∧
      (linkTakes s f m = true → i.2 = true → i.1 ≠ .heartbeat f m → m.crcOk = true →
        (m.src, seenClass s f m, m.mseq) ∈ s.fabric.seen → exec i.1 s = .next (countedLate f m s))) ∧
    (NewMessage f m s → m.dst ≠ nodeId s →
      let u := noted f m s
      let goesOn := fun (i : Instr) (v : State) => exec i s = .next (passOn (towards v f m.dst) m v)
      (∀ k r, m.body = .join k r → s.fabric.role ≠ .manager → goesOn (.join f m) (learnVia f m.src u)) ∧
      (∀ j a b r, m.body = .joinAck j a b r → goesOn (.joinAck f m) u) ∧
      (∀ p g d, m.body = .tunnelCmd p g d → goesOn (.tunnelCmd f m) u) ∧
      (∀ p g d, m.body = .tunnelRsp p g d → goesOn (.tunnelRsp f m) u) ∧
      (∀ p g d, m.body = .tunnelData p g d → goesOn (.tunnelData f m) u))

/-- Heartbeats, epoch marks and reception: the claims above, together. -/
def Obligations.FabricHeartbeats : Prop :=
  Claim.FabricHeartbeats ∧ Claim.FabricReception

/-- Membership (16 R326 to R330; 18 R365). A worker with a connected uplink that is no member sends its JOIN until an answer is there; the manager accepts one whose
epoch is near and that is no live duplicate, from t_j two epochs on; the answer sets the epoch of joining and the arming, and a refusal is
a fault; a silent uplink gives way to the other; 8,000 TCLK edges without a heartbeat lose a node, with a record for each of its streams, and make an orphan of a worker, whose tunnels' semaphores are freed. Where nothing of this is due, nothing happens. -/
def Obligations.FabricMembership : Prop :=
  ∀ (f : Fin 12) (s : State),
    (let wants := engines s = true ∧ s.fabric.role = .worker ∧ activeUplink s ≠ [] ∧
       (s.fabric.member = .unjoined ∨ s.fabric.member = .orphan ∨ (s.fabric.member = .joining ∧ s.fabric.joining = none))
     (¬wants → exec .joinSend s = .next s) ∧
     (wants → activeUplink s = [f] → ∃ t e, exec .joinSend s = .next t ∧ t.out = .fabric f.val e :: s.out ∧ e.dst = 0 ∧
       t.fabric.member = .joining ∧
       e.body = .join (epochNum (epochAt s (now s))) { nodeReport s with state := 1 })) ∧
    (∀ (m : FabricMsg) k r (n : Fin 64), m.body = .join k r → NewMessage f m s → s.fabric.role = .manager → m.src = n.val →
      (∀ reason, joinRefused s n k = some reason → ∃ t, exec (.join f m) s = .next t ∧
        t.fabric.flags = s.fabric.flags.raise 3 ∧ (t.nodeRt n).state = (s.nodeRt n).state ∧
        (t.nodeRt n).spans = (s.nodeRt n).spans) ∧
      (joinRefused s n k = none → ∃ t, exec (.join f m) s = .next t ∧ (t.nodeRt n).state = .joining ∧
        (t.nodeRt n).openFrom = some (boundaryTime s ((epochAt s (now s)).getD 0 + 2)) ∧
        (t.nodeRt n).lastBeat = s.time.tclk ∧ t.fabric.flags = s.fabric.flags)) ∧
    (∀ (m : FabricMsg) j armed accept reason, m.body = .joinAck j armed accept reason → NewMessage f m s →
      m.dst = nodeId s →
      let waits := s.fabric.role = .worker ∧ s.fabric.member = .joining
      (¬waits → exec (.joinAck f m) s = .next (noted f m s)) ∧
      (waits → accept = true → ∃ t, exec (.joinAck f m) s = .next t ∧ t.fabric.joining = some (j, armed) ∧
        t.fabric.joinEpoch = j ∧ t.fabric.member = .joining ∧ t.fabric.arms = joinOrders j armed ++ s.fabric.arms) ∧
      (waits → accept = false → ∃ t, exec (.joinAck f m) s = .next t ∧ t.fabric.member = .unjoined ∧
        t.fabric.flags = s.fabric.flags.raise 3 ∧ t.dev.faultCount = satAdd s.dev.faultCount 1)) ∧
    (let quiet := engines s = true ∧ s.fabric.role = .worker ∧
       (s.fabLane s.fabric.activeUp).lastOwn + 2000 ≤ s.time.tclk
     let other := ((uplinks s).filter fun u => u ≠ s.fabric.activeUp).head?
     ((¬quiet ∨ other = none) → exec .uplinkInactive s = .next s) ∧
     ∀ g, quiet → other = some g → exec .uplinkInactive s = .next (s.modFabric fun b => { b with activeUp := g })) ∧
    (∀ n : Fin 64,
      let x := s.nodeRt n
      let lost := engines s = true ∧ s.fabric.role = .manager ∧ (x.state = .joining ∨ x.state = .member) ∧
        x.lastBeat + 8000 ≤ s.time.tclk
      let count := ((List.finRange 16).filter fun i => bit i.val x.streams.toNat).length
      (¬lost → exec (.nodeLost n) s = .next s) ∧
      (lost → ∃ t, exec (.nodeLost n) s = .next t ∧ t.nodeRt n = { x.close with state := .lost, missing := true } ∧
        t.fabric.flags = s.fabric.flags.raise 1 ∧ t.host.evSeq = s.host.evSeq + 1 + BitVec.ofNat 64 count ∧
        t.dev.faultCount = satAdd s.dev.faultCount count ∧ ∀ k, k ≠ n → t.nodeRt k = s.nodeRt k)) ∧
    (let orphaned := engines s = true ∧ s.fabric.role = .worker ∧ s.fabric.member = .member ∧
       s.fabric.lastManager + 8000 ≤ s.time.tclk
     (¬orphaned → exec .managerLost s = .next s) ∧
     (orphaned → ∃ t, exec .managerLost s = .next t ∧ t.fabric.member = .orphan ∧
       t.fabric.flags = s.fabric.flags.raise 0 ∧ t.fabric.orphans = (now s, none) :: s.fabric.orphans ∧
       ∀ i, semOwner t i ≠ some .tunnelA ∧ semOwner t i ≠ some .tunnelB))

/-- Messages of the whole system (06 R115; 07 R147, R149, R150; 08 R159, R160; 16 R322, R324). What comes from below a relay goes up and has no effect there; the manager, and a worker that gets it from above, hand it on to every child and act on it: an ARM is kept and applies from t_e to the sequencers of its groups; a SYNC is recorded; a FIRE freezes the streams of its channel and raises condition 288 + its
channel in every sequencer that names it; a provisional one freezes provisionally, waits for its decision and raises none; CONFIRM makes its captures ordinary and raises the
condition then, RETRACT frees them and does not, a decision that comes too late is counted, and at t_{e+2} an undecided one is given up. A node does not act on its own FIRE, and the manager drops and counts what comes from a
node that was no member. -/
def Claim.FabricTriggers : Prop :=
  ∀ (f : Fin 12) (m : FabricMsg) (s : State),
    let u := noted f m s
    let up := s.fabric.role = .worker ∧ fromBelow s f = true
    let down := s.fabric.role = .manager ∨ (s.fabric.role = .worker ∧ fromBelow s f = false)
    let handed := passOn (downlinks u) m u
    (∀ e mask d seq, m.body = .arm e mask d seq → NewMessage f m s →
      (up → exec (.fabricArm f m) s = .next (passOn (uplinks u) m u)) ∧
      (down → ∃ t, exec (.fabricArm f m) s = .next t ∧ t.out = handed.out ∧
        t.fabric.arms = s.fabric.arms ++ [{ e := e, mask := mask, disarm := d }] ∧
        ∀ q, (t.seqr q).arms = if (progOf s q).armGroups &&& mask ≠ 0
          then (s.seqr q).arms ++ [{ start := boundaryTime s e, arm := !d }] else (s.seqr q).arms)) ∧
    (∀ ts, m.body = .sync ts → NewMessage f m s →
      (up → exec (.fabricSync f m) s = .next (passOn (uplinks u) m u)) ∧
      (down → ∃ t, exec (.fabricSync f m) s = .next t ∧ t.out = handed.out ∧ t.terrace.sync = some ts ∧
        t.fabric.lastSync = some ts)) ∧
    (∀ x : FireMsg, m.body = .fire x → NewMessage f m s →
      let row := match x.kind with
        | .fire => Instr.fabricFire f m
        | .provisional => .fireProvisional f m
        | .confirm => .confirm f m
        | .retract => .retract f m
      let raises := fun t : State => ∀ q,
        let w := (enqueue { cond := 288 + x.channel, time := x.time, anchor := x.anchor m.src } s q).seqr q
        (t.seqr q).queue = w.queue ∧ (t.seqr q).released = w.released
      let silent := fun t : State => ∀ q, (t.seqr q).queue = (s.seqr q).queue ∧ (t.seqr q).released = (s.seqr q).released
      let waiting := s.geyser.remote.find? fun p => p.named m.src x
      let rest := fun p => s.geyser.remote.erase p
      let member := s.fabric.role = .manager → memberAt s m.src x.time = true
      (m.src = nodeId s → s.fabric.role = .manager → exec row s = .next u) ∧
      (m.src = nodeId s → s.fabric.role = .worker → fromBelow s f = false → exec row s = .next handed) ∧
      (m.src ≠ nodeId s → ¬member → exec row s = .next (u.modFabric fun b =>
        { b with nonmember := satAdd b.nonmember 1, flags := b.flags.raise 2 })) ∧
      (up → exec row s = .next (passOn (uplinks u) m u)) ∧
      (m.src ≠ nodeId s → member → down →
        (x.kind = .fire → ∃ t, exec (.fabricFire f m) s = .next t ∧
          t = channelCond m.src x (channelFreezes m.src x false handed) ∧ t.geyser.remote = s.geyser.remote ∧ raises t) ∧
        (x.kind = .provisional → ∃ t p, exec (.fireProvisional f m) s = .next t ∧
          t.geyser.remote = s.geyser.remote ++ [p] ∧ p.src = m.src ∧ p.seq = x.seq ∧ p.sequencer = x.sequencer ∧
          p.channel = x.channel ∧ p.time = x.time ∧ t.basin = (channelFreezes m.src x true handed).basin ∧ silent t) ∧
        (∀ p, x.kind = .confirm → waiting = some p → ∃ t, exec (.confirm f m) s = .next t ∧
          t.geyser.remote = rest p ∧ t.basin = ((remoteCaps s p).foldl confirmCap handed).basin ∧ raises t) ∧
        (∀ p, x.kind = .retract → waiting = some p → ∃ t, exec (.retract f m) s = .next t ∧
          t.geyser.remote = rest p ∧ t.basin = ((remoteCaps s p).foldl retractCap handed).basin ∧ silent t) ∧
        ((x.kind = .confirm ∨ x.kind = .retract) → waiting = none →
          exec row s = .next (if (m.src, x.sequencer, x.seq) ∈ s.geyser.timedOut then handed.modFabric fun b =>
            { b with lateDecisions := satAdd b.lateDecisions 1, flags := b.flags.raise 4 } else handed)))) ∧
    (let due := s.geyser.remote.find? fun p => decide (boundaryTime s (p.epoch + 2) ≤ now s)
     ((engines s = false ∨ due = none) → exec .fabricProvisionalTimeout s = .next s) ∧
     ∀ p, engines s = true → due = some p → ∃ t, exec .fabricProvisionalTimeout s = .next t ∧
       t.geyser.remote = s.geyser.remote.erase p ∧
       t.geyser.timedOut = (p.src, p.sequencer, p.seq) :: s.geyser.timedOut ∧
       t.basin = ((remoteCaps s p).foldl retractCap s).basin ∧
       ∀ q, (t.seqr q).queue = (s.seqr q).queue)

/-- Relayed records (11 R231; 16 R322, R336): the manager takes a record by its origin's FAB sequence, counts what is missing, and assigns it, marked as relayed, to the paths of the RELAY routes of its type; a worker hands it on to its active uplink, unchanged. -/
def Claim.ManagerReceives : Prop :=
  ∀ (f : Fin 12) (m : FabricMsg) seq r (s : State), m.body = .recordFrag seq r → NewMessage f m s →
    let u := noted f m s
    (s.fabric.role = .worker → exec (.recordFrag f m) s = .next (passOn (activeUplink u) m u)) ∧
    (∀ n : Fin 64, s.fabric.role = .manager → m.src = n.val → ∃ v, exec (.recordFrag f m) s =
      .next (assignMask ((routePlan s r.epoch).relayMask r.type % 2 ^ 24)
        { r with flags := r.flags ||| BitVec.ofNat 16 (2 ^ 11) } v) ∧
      (v.nodeRt n).fabSeq = some seq ∧ v.records = s.records ∧
      (∀ q, (s.nodeRt n).fabSeq = some q → v.fabric.fabGaps = satAdd s.fabric.fabGaps (seq - (q + 1)).toNat) ∧
      ((s.nodeRt n).fabSeq = none → v.fabric.fabGaps = s.fabric.fabGaps))

/-- Triggers, and at the manager FIREs and records, that arrive through the fabric: the claims above, together. -/
def Obligations.FabricTriggers : Prop :=
  Claim.FabricTriggers ∧ Claim.ManagerReceives

/-- The mailbox tunnel (16 R331 to R335). The fragments of a transfer are joined from its first to its last. An inner command that its target takes joins the serial order under its tunnel
owner; one whose TAG has a stored response gets that again, and one that is still being served nothing new; the response of the inner command completes the outer one that waits for it; the outer
one ends with TIMEOUT when its time is over, and not before; data come in order and stay until they are used, and the manager writes those of a tunnelled CAPTURE_READ to its host. -/
def Claim.MailboxTunnel : Prop :=
  (∀ (m : FabricMsg) (data : List Byte) (s : State),
    let old := if m.first then some [] else (s.fabric.partials.find? fun p => p.1 = m.src).map (·.2)
    (old = none → assemblePart m data s = (s, none)) ∧
    (∀ bs, old = some bs → m.last = true → (assemblePart m data s).2 = some (bs ++ data)) ∧
    (∀ bs, old = some bs → m.last = false → (assemblePart m data s).2 = none ∧
      (assemblePart m data s).1.fabric.partials.find? (fun p => p.1 = m.src) = some (m.src, bs ++ data))) ∧
  (∀ (f : Fin 12) (m : FabricMsg) (port tag : Nat) (data : List Byte) (s : State), m.body = .tunnelCmd port tag data →
    NewMessage f m s → m.dst = nodeId s →
    let a := assemblePart m data (noted f m s)
    let src := Source.tunnel (tunnelOwner port) tag
    let stored := (vget s.fabric.stored (tunnelOwner port).tunnelIndex).find? fun e => e.1 = tag
    let busy := src ∈ s.host.serial.map (·.source) ∨ src ∈ s.host.deferred.map (·.cmd.source)
    ((a.2 = none ∨ s.fabric.role ≠ .worker) → exec (.tunnelCmd f m) s = .next a.1) ∧
    (∀ bs, a.2 = some bs → s.fabric.role = .worker →
      (∀ e, stored = some e → exec (.tunnelCmd f m) s = .next (sendFragments (activeUplink a.1) 0
        (.tunnelRsp (tunnelOwner port).tunnelIndex.val tag) e.2 a.1)) ∧
      (stored = none → busy → exec (.tunnelCmd f m) s = .next a.1) ∧
      (stored = none → ¬busy → ∃ u c, exec (.tunnelCmd f m) s = .next (drain u) ∧
        u.host.serial = s.host.serial ++ [c] ∧ u.host.order = s.host.order + 1 ∧ c.source = src ∧
        c.order = s.host.order ∧ c.recorded = now s ∧ c.seq.toNat = ofLe (bs.take 4) % 2 ^ 32 ∧
        c.code.toNat = ofLe ((bs.drop 4).take 2) % 2 ^ 16 ∧ c.length.toNat = ofLe ((bs.drop 8).take 2) % 2 ^ 16))) ∧
  (∀ (f : Fin 12) (m : FabricMsg) (port tag : Nat) (data : List Byte) (s : State), m.body = .tunnelRsp port tag data →
    NewMessage f m s → m.dst = nodeId s →
    let a := assemblePart m data (noted f m s)
    let outer := s.host.deferred.find? fun d => tunnelWait port m.src tag d.wait
    ((a.2 = none ∨ outer = none) → exec (.tunnelRsp f m) s = .next a.1) ∧
    (∀ bs d, a.2 = some bs → outer = some d → ∃ u r, exec (.tunnelRsp f m) s = .next (finished d r u) ∧
      r.status = .ok ∧ u.host.deferred = s.host.deferred.erase d ∧
      r.payload.drop 8 = (bs.take (32 + ofLe ((bs.drop 10).take 2))).take 472)) ∧
  (∀ (tag : Nat) (s : State),
    let due := s.host.deferred.find? fun d => match d.wait with | .tunnel _ _ t x => t = tag && decide (x ≤ now s) | _ => false
    ((firmware s = false ∨ due = none) → exec (.tunnelTimeout tag) s = .next s) ∧
    (∀ d, firmware s = true → due = some d → exec (.tunnelTimeout tag) s =
      .next (finished d { status := .timeout, detail := 0, payload := [] }
        { s with host := { s.host with deferred := s.host.deferred.erase d } }))) ∧
  (∀ (f : Fin 12) (m : FabricMsg) (port tag : Nat) (data : List Byte) (s : State), m.body = .tunnelData port tag data →
    NewMessage f m s → m.dst = nodeId s →
    let kept := fun t : State => t.fabric.tunnelData.find? fun e => e.1 = (port, tag)
    let bs := (if m.first then [] else ((kept s).map (·.2)).getD []) ++ data
    ∃ t, exec (.tunnelData f m) s = .next t ∧ kept t = some ((port, tag), bs) ∧
      ((m.last = false ∨ s.fabric.role ≠ .manager) → t.hostMem = s.hostMem) ∧
      (∀ (p : PortId) d, m.last = true → s.fabric.role = .manager → port = p.val → (s.port p).linkUp = true →
        s.host.deferred.find? (fun d => tunnelWait port m.src tag d.wait) = some d → d.cmd.u 12 2 = 0x0701 →
        t.hostMem = vmod s.hostMem p fun x => memWrite x (d.cmd.u 56 8) (bs.take (d.cmd.u 52 4 * 4096))))

/-- The fabric commands (16 R315 to R317, R325, R331, R333 to R335, R337), with every row of their outcome table. FABRIC_CONFIG takes a legal role, node and use of the lanes,
but no new role or node while a bank is in use, and lanes whose use changes come up again; FABRIC_NODES answers on the manager alone, 8 bytes a node; FABRIC_TUNNEL
sends the inner command to a target that has a path and waits, and refuses one that has none. -/
def Claim.FabricCommands : Prop :=
  ∀ (c : Cmd) (rest : List Cmd) (s : State),
    let t := taken c rest s
    (Ready .fabricConfig c rest s →
      let change := Role.ofCode (c.u 0 1) ≠ t.fabric.role ∨ c.u 1 1 ≠ t.fabric.node
      (∀ o, configBad c = some o → exec .fabricConfig s = .next (answer c (some 13) .badParam o [] t)) ∧
      (configBad c = none → change → anyBankBusy t = true →
        exec .fabricConfig s = .next (answer c (some 13) .busyRunning 0 [] t)) ∧
      (configBad c = none → (change → anyBankBusy t = false) → ∃ u,
        exec .fabricConfig s = .next (answer c (some 13) .ok 0 [] u) ∧
        u.fabric.role = Role.ofCode (c.u 0 1) ∧ u.fabric.node = c.u 1 1 ∧ u.fabric.timeTol = c.u 16 4 ∧
        (∀ f, (u.fabLane f).use = laneUse c f ∧ (u.fabLane f).ctle = lanePeaking c f) ∧
        (∀ f, c.u 0 1 = 0 → (u.fabLane f).state = .off) ∧
        (∀ f, c.u 0 1 ≠ 0 → (change ∨ laneUse c f ≠ (t.fabLane f).use) →
          (u.fabLane f).state = if laneUse c f = 0 then .off else .linking) ∧
        (∀ f, c.u 0 1 ≠ 0 → ¬change → laneUse c f = (t.fabLane f).use → (u.fabLane f).state = (t.fabLane f).state))) ∧
    (Ready .fabricNodes c rest s →
      let first := c.u 0 1
      let n := c.u 1 1
      let manager := t.fabric.role = .manager
      let counted := 0 < n ∧ n ≤ 32 ∧ first + n ≤ 64
      (¬manager → exec .fabricNodes s = .next (answer c none .refusedState 0 [] t)) ∧
      (manager → 63 < first → exec .fabricNodes s = .next (answer c none .badParam 0 [] t)) ∧
      (manager → first ≤ 63 → ¬counted → exec .fabricNodes s = .next (answer c none .badParam 1 [] t)) ∧
      (manager → first ≤ 63 → counted → ∃ bs, exec .fabricNodes s = .next (answer c none .ok 0 bs t) ∧
        bs.length = 8 * n ∧ ∀ i, i < n → (bs.drop (8 * i)).take 8 = nodeEntry t (first + i))) ∧
    (Ready .fabricTunnel c rest s →
      let target := c.u 0 1 % 64
      let answers := fun (st : Status) (off : Nat) => exec .fabricTunnel s = .next (answer c none st off [] t)
      let aimed := t.fabric.role = .manager ∧ target ≠ 0
      (¬aimed → answers .badParam 0) ∧ (aimed → c.u 12 2 = 0x0C04 → answers .badParam 12) ∧
      (aimed → c.u 12 2 ≠ 0x0C04 → 440 < c.u 16 2 → answers .badParam 16) ∧
      (aimed → c.u 12 2 ≠ 0x0C04 → c.u 16 2 ≤ 440 → hasPath t target = false → answers .notReady 0) ∧
      (∀ (p : PortId) (n : Fin 16), aimed → c.u 12 2 ≠ 0x0C04 → c.u 16 2 ≤ 440 → hasPath t target = true →
        c.source = .slot p n →
        let sent := sendFragments (downTo t target) target (.tunnelCmd p.val (c.u 2 2)) (c.payload.drop 8) t
        let data := tunnelPlanData c p t
        exec .fabricTunnel s = .next (await c none
          (.tunnel p.val target (c.u 2 2) (now t + t.params.tunnelTimeout * Config.msUnits))
          (if data = [] then sent else sendFragments (downTo t target) target (.tunnelData p.val (c.u 2 2)) data sent))))

/-- The mailbox tunnel and the fabric commands: the claims above, together. -/
def Obligations.TunnelAndFabricCommands : Prop :=
  Claim.MailboxTunnel ∧ Claim.FabricCommands

/-- EPOCH_BOUNDARY (01 R23; 02 R26; 03 R41, R43, R46, R47, R49, R50). While the engines run: the epoch index becomes that of the
due boundary, whose record takes the flags of the stream's fit and rate comparison as they stood before it. Its index is the
one that the epoch generator holds for it, and is not extrapolated; without one it is the last two boundaries' distance
once more, or one period at the declared rate after the only placed boundary, marked extrapolated; without any it awaits a
header of a stream that delivers or has delivered, and is not placed of a stream that has not. While no flip waits the flips
stay, condition 304 with t_k reaches each sequencer whose program takes it, and a running stream's fitted rate is compared
with its declared one. A flip whose epoch has come empties and unlocks the flip register, and its bank has the items from that
epoch on; one of a later epoch stays. Without a due boundary, or while the engines do not run, nothing changes. -/
def Claim.EpochBoundaries : Prop :=
  ∀ s : State,
    let mark := fun (k : Nat) (i : Fin 16) (x : Nat) (e : Bool) => EpochRec.mk k true x e (s.bound i).rateBad (s.bound i).fitBad
    (∀ k, engines s = true → boundaryDue s = some k → ∃ t, exec .epochBoundary s = .next t ∧ t.plans.epoch = some k ∧
      (∀ (i : Fin 16), (∀ e ∈ (t.bound i).next, k < e.1) ∧
        (∀ x, writtenIndex (s.bound i) k = some x → (t.bound i).hist = mark k i x false :: (s.bound i).hist) ∧
        (∀ x1 x2, writtenIndex (s.bound i) k = none → 2 ≤ k → placedAt (s.bound i) (k - 1) = some x1 →
          placedAt (s.bound i) (k - 2) = some x2 → x2 ≤ x1 →
          (t.bound i).hist = mark k i (2 * x1 - x2) true :: (s.bound i).hist) ∧
        (∀ x1, writtenIndex (s.bound i) k = none → 1 ≤ k → placedAt (s.bound i) (k - 1) = some x1 →
          (k = 1 ∨ placedAt (s.bound i) (k - 2) = none) →
          (t.bound i).hist = mark k i (x1 + epochSamples s ((planNow s).stream i.val).declared) true :: (s.bound i).hist) ∧
        (writtenIndex (s.bound i) k = none → (k = 0 ∨ placedAt (s.bound i) (k - 1) = none) →
          (t.bound i).hist = (s.bound i).hist ∧
          ((s.stream i).last.isSome = true ∨ (s.stream i).delivering = true → ∃ a, (t.bound i).await = (s.bound i).await ++ [a] ∧
            a.k = k ∧ a.time = boundaryTime s k + vget s.params.streamOffset i * Config.nsUnits / 1000) ∧
          ((s.stream i).last = none → (s.stream i).delivering = false → (t.bound i).await = (s.bound i).await))) ∧
      (s.plans.flip = none → t.plans.flips = s.plans.flips ∧
        (∀ (i : Fin 16) g, firmware s = true → (s.bound i).fit = some g → ((planNow s).stream i.val).run = true →
          ((t.bound i).rateBad = true ↔ 200 * (((planNow s).stream i.val).declared * 2 ^ 32) <
            (max g.rate (((planNow s).stream i.val).declared * 2 ^ 32) -
              min g.rate (((planNow s).stream i.val).declared * 2 ^ 32)) * 10 ^ 6)) ∧
        ∀ (q : Fin 16) b, (s.seqr q).run ≠ .stopped →
          programFor s (s.seqr q) { cond := 304, time := boundaryTime s k, anchor := none } = some b →
          ((planIn s b).seqOf q.val).names 304 = true → (∀ x, (s.seqr q).lastTaken = some x → x ≤ boundaryTime s k) →
          (s.seqr q).queue.length + (s.seqr q).released.length < 16384 →
          (t.seqr q).queue = (s.seqr q).queue ++ [{ cond := 304, time := boundaryTime s k, anchor := none }]) ∧
      ∀ target b, s.plans.flip = some (target, b) →
        (target ≤ k → t.plans.flip = none ∧ t.plans.locked = false ∧ t.plans.flips = (k, b) :: s.plans.flips ∧
          (t.bank b).k0 = k ∧ t.plans.flipping = some (b, bankNow s)) ∧
        (k < target → t.plans.flip = some (target, b) ∧ t.plans.flips = s.plans.flips)) ∧
    (boundaryDue s = none ∨ engines s = false → exec .epochBoundary s = .next s)

/-- What surrounds a flip (03 R38, R39, R41, R46, R47, R50, 15 R309). One millisecond before its boundary and not earlier the flip
register locks and a schedule's window closes. The firmware writes the index that the fit gives for the coming boundary, or
for the one after it where that is written, before the cycle of its t_k and not in it or later, and fits anew from its
headers: a line within 4 ns of every stamp, or the best one, which raises fault record 0x0206 and is marked from the next
boundary. Once the flip has reached every source the new bank is ACTIVE, the old one DRAINING unless it is the same, and an
event of code 0x8001 is posted; before that nothing happens. A draining bank without work left is LOADED at generation 0. -/
def Claim.FlipsComplete : Prop :=
  ∀ s : State,
    let shut := fun k => decide (boundaryTime s k ≤ now s + Config.msUnits)
    exec .commitWindowClose s = .next { s with
      plans := { s.plans with locked := s.plans.locked || s.plans.flip.any (fun f => shut f.1) }
      evt := { s.evt with closed := s.evt.closed || s.evt.pending.any (fun f => shut f.epoch) } } ∧
    (∀ (i : Fin 16) f, firmware s = true → (s.bound i).fit = some f →
      (now s < boundaryTime s (writeTarget s (s.bound i)) → ∃ t, exec (.boundaryIndexWrite i) s = .next t ∧
        writtenIndex (t.bound i) (writeTarget s (s.bound i)) = some (fitIndex f (boundaryTime s (writeTarget s (s.bound i)))) ∧
        ∀ k, k ≠ writeTarget s (s.bound i) → writtenIndex (t.bound i) k = writtenIndex (s.bound i) k) ∧
      (boundaryTime s (writeTarget s (s.bound i)) ≤ now s → exec (.boundaryIndexWrite i) s = .next s)) ∧
    (∀ i : Fin 16, (s.bound i).fit = none ∨ firmware s = false → exec (.boundaryIndexWrite i) s = .next s) ∧
    (∀ i : Fin 16, ∃ t, exec (.fitRefresh i) s = .next t ∧ (∀ j, j ≠ i → t.bound j = s.bound j) ∧
      (t.bound i).hist = (s.bound i).hist ∧ (firmware s = false → t = s) ∧
      (firmware s = true → (∃ p ∈ (s.bound i).points, ∃ q ∈ (s.bound i).points, p.1 < q.1 ∧ p.2 < q.2) →
        ∃ f, (t.bound i).fit = some f ∧
          ((t.bound i).fitBad = false → 0 < f.rate ∧
            ∀ p ∈ (s.bound i).points, fitError f p ≤ 4 * Config.nsUnits * f.rate) ∧
          ((t.bound i).fitBad = true → bestFit (s.bound i).points = some f ∧
            ((s.bound i).fitBad = false → t.dev.faultCount = satAdd s.dev.faultCount 1)))) ∧
    (∀ new old, firmware s = true → s.plans.flipping = some (new, old) → (∀ i, (s.bound i).flipAt = none) →
      ∃ t, exec .planFlip s = .next t ∧ (t.bank new).state = .active ∧ t.plans.flipping = none ∧
        t.plans.activeSince = (s.bank new).k0 ∧ (∀ o, old = some o → o ≠ new → (t.bank o).state = .draining) ∧
        t.host.evSeq = s.host.evSeq + 1) ∧
    ((s.plans.flipping = none ∨ firmware s = false ∨ ∃ i, (s.bound i).flipAt.isSome = true) → exec .planFlip s = .next s) ∧
    (∀ b : Fin 2,
      (firmware s = true → (s.bank b).state = .draining → bankWork s b = false →
        exec (.bankDrainDone b) s = .next (s.modBank b fun k => { k with state := .loaded, gen := 0 })) ∧
      (firmware s = false ∨ (s.bank b).state ≠ .draining ∨ bankWork s b = true → exec (.bankDrainDone b) s = .next s))

/-- Epoch boundaries and plan flips: the claims above, together. -/
def Obligations.Epochs : Prop :=
  Claim.EpochBoundaries ∧ Claim.FlipsComplete

/-- PTP messages (14 R277, R279 to R281, R284, R287). At a port whose domain is SLAVE or UNCALIBRATED with its link up, a two-step
Sync waits with its receive stamp, and a one-step Sync or the Follow_Up of the waiting one completes it: the domain is SLAVE, and
of a domain that neither governs nor may acquire station time the offset is t2 - t1 less the mean path delay, with t2 the stamp at
the ball less the port's latency and t1 with the corrections. Where the source governs or is the first and no bank is in use,
station time steps to domain A's at the first acquisition and above STEP_THRESHOLD; else an offset above
LOCK_THRESHOLD is slewed. A Delay_Resp to the outstanding Delay_Req gives the mean path delay. A master answers a
Delay_Req under its own number with its stamp, correctionField and requester, and sends Sync and Announce; a slave sends Delay_Req and keeps its
stamp. In another state, at a link that is down, or of another sequence number, nothing changes. That the transmit latency is
subtracted is the model's reading (log entry 67: DEDUCED). -/
def Claim.PtpMessages : Prop :=
  ∀ (d : Fin 2) (s : State),
    let x := s.domain d
    let p := portOf s d
    (∀ seq two origin corr rx, slaveUp s d = false → exec (.ptpSync d seq two origin corr rx) s = .next s) ∧
    (∀ seq origin corr rx, slaveUp s d = true → exec (.ptpSync d seq true origin corr rx) s = .next (s.modDomain d fun x =>
      { x with lastSync := now s, syncWait := some { seq := seq, rx := rxStamp s p rx, corr := corr } })) ∧
    (let complete := fun (i : Instr) (t1 t2 : Int) =>
      let off := t2 - t1 - x.meanPathDelay
      (∃ t, exec i s = .next t ∧ (t.domain d).t1 = some t1 ∧ (t.domain d).portState = .slave ∧ (t.domain d).syncWait = none) ∧
      (s.time.valid = true → governing s ≠ some d → ∃ t, exec i s = .next t ∧ (t.domain d).t2 = t2 ∧
        (t.domain d).offset = off ∧ t.time.raw = s.time.raw) ∧
      (s.time.valid = false → anyBankBusy s = false → mayGovern s d = true → d = 0 → ∃ t, exec i s = .next t ∧
        now t = ((now s : Int) - off).toNat ∧ t.time.valid = true) ∧
      (s.time.valid = true → governing s = some 0 → d = 0 →
        (mayStep off s = true → ∃ t, exec i s = .next t ∧ now t = ((now s : Int) - off).toNat) ∧
        (mayStep off s = false → ∃ t, exec i s = .next t ∧ t.time.raw = s.time.raw ∧
          (s.params.lockThreshold * Config.nsUnits < off.natAbs → t.time.slew = some (off * 2 ^ 24))))
     (∀ seq origin corr rx, slaveUp s d = true →
        complete (.ptpSync d seq false origin corr rx) ((origin : Int) + corr) (rxStamp s p rx)) ∧
      ∀ w origin corr, slaveUp s d = true → x.syncWait = some w →
        complete (.followUp d w.seq origin corr) ((origin : Int) + w.corr + corr) w.rx) ∧
    (∀ seq origin corr, slaveUp s d = false ∨ x.syncWait = none ∨ (∃ w, x.syncWait = some w ∧ w.seq ≠ seq) →
      exec (.followUp d seq origin corr) s = .next s) ∧
    (∀ seq receive corr,
      (∀ t3 t1, slaveUp s d = true → x.delayReq = some (seq, t3) → x.t1 = some t1 →
        exec (.delayResp d seq receive corr) s = .next (s.modDomain d fun x =>
          { x with meanPathDelay := ((x.t2 - t1) + (((receive : Int) - corr) - t3)) / 2, delayReq := none })) ∧
      (slaveUp s d = false ∨ x.t1 = none ∨ (∀ t3, x.delayReq ≠ some (seq, t3)) →
        exec (.delayResp d seq receive corr) s = .next s)) ∧
    (∀ source seq corr rx,
      (engines s = true → domUp s d = true → x.portState = .master → exec (.delayReq d ⟨source, seq, corr⟩ rx) s =
        .next (emitOut (.ptp p.val { kind := 9, domain := x.number, transport := x.transport, vlan := x.vlan,
                                     source := portIdentity s d, seq := seq, time := (rxStamp s p rx).toNat,
                                     correction := corr, dataset := none, requester := some source }) s)) ∧
      (engines s = false ∨ domUp s d = false ∨ x.portState ≠ .master → exec (.delayReq d ⟨source, seq, corr⟩ rx) s = .next s)) ∧
    (engines s = true → domUp s d = true →
      (x.portState = .master →
        exec (.ptpMessageSend d .sync) s = .next (emitOut (.ptp p.val (ptpOf s d 0 x.txSeq (txStamp s p (now s)).toNat 0))
          (s.modDomain d fun x => { x with txSeq := (x.txSeq + 1) % 65536 })) ∧
        exec (.ptpMessageSend d .announce) s = .next (emitOut (.ptp p.val
          { ptpOf s d 11 x.txSeq 0 0 with dataset := some (ownData s d) })
          (s.modDomain d fun x => { x with txSeq := (x.txSeq + 1) % 65536 }))) ∧
      (x.portState = .slave ∨ x.portState = .uncalibrated →
        exec (.ptpMessageSend d .delayReq) s = .next (emitOut (.ptp p.val (ptpOf s d 1 x.txSeq 0 0)) (s.modDomain d fun x =>
          { x with txSeq := (x.txSeq + 1) % 65536, delayReq := some (x.txSeq, txStamp s p (now s)) })))) ∧
    (∀ kind, sendsPtp s d kind = false → exec (.ptpMessageSend d kind) s = .next s)

/-- Domains (14 R278, R279, R281, R283). An Announce at a port whose instance runs is noted with its sender, and the best of the masters
that qualify decides: the instance is MASTER where it may be and its own dataset is better, PASSIVE where its
clockClass is at most 127, and else follows, UNCALIBRATED at a new master and unchanged at the one it follows. One from the device
itself, of 255 steps, or at a link that is down is ignored. Three announce intervals without one lose the domain and raise its flag; an
instance that may be master then is, the other listens; so of both domains in one evaluation. Three Sync intervals without a Sync
end OK. A port that goes down makes its domains FAULTY, one that comes up makes them listen, and either ends OK; the other port's
domains stay. The algorithm's details are those of IEEE 1588-2019 (log entry 71: PRESUMED). -/
def Claim.PtpDomains : Prop :=
  ∀ s : State,
    (∀ (d : Fin 2) source g, let x := s.domain d
      let n := noteForeign d source g s
      let taken := engines s = true ∧ domUp s d = true ∧ x.portState ≠ .initializing ∧ x.portState ≠ .disabled ∧
        source / 2 ^ 16 ≠ clockIdentity (portOf s d) ∧ g.steps < 255
      (¬ taken → exec (.announce d ⟨source, g⟩) s = .next s) ∧
      (taken → ∃ t, exec (.announce d ⟨source, g⟩) s = .next t ∧
        (∃ m ∈ (t.domain d).foreign, m.source = source ∧ m.gm = g ∧ m.seen.head? = some (now s)) ∧
        (bestForeign n d = none → (t.domain d).portState = x.portState ∧ (t.domain d).parent = x.parent) ∧
        ∀ m, bestForeign n d = some m →
          (x.masterCapable = true → betterThan (ownData s d, portIdentity s d) (m.gm, m.source) = true →
            (t.domain d).portState = .master ∧ (t.domain d).parent = none ∧ (t.domain d).ok = false) ∧
          (x.masterCapable = false ∨ betterThan (ownData s d, portIdentity s d) (m.gm, m.source) = false →
            (t.domain d).parent = some m.source ∧ (t.domain d).gm = some m.gm ∧
            (t.domain d).portState =
              if x.masterCapable = true ∧ ownClass s ≤ 127 then .passive
              else if x.parent = some m.source ∧ (x.portState = .slave ∨ x.portState = .uncalibrated) then x.portState
              else .uncalibrated))) ∧
    (∀ e : Fin 2, ∃ t, exec (.announceTimeout e) s = .next t ∧ ∀ d : Fin 2,
      let x := s.domain d
      let due := domUp s d = true ∧ (x.parent.isSome = true ∨ (x.masterCapable = true ∧ x.portState = .listening)) ∧
        x.lastAnnounce + 3 * logInterval x.logAnnounce ≤ now s
      (due → (t.domain d).gm = none ∧ (t.domain d).parent = none ∧ (t.domain d).ok = false ∧
        (x.parent.isSome = true → (t.domain d).lost = true ∧ t.time.flags.now.getLsbD (1 + d.val) = true) ∧
        (t.domain d).portState = if x.masterCapable then .master else .listening) ∧
      (¬ due → t.domain d = x)) ∧
    (∀ e : Fin 2, ∃ t, exec (.syncTimeout e) s = .next t ∧ ∀ d : Fin 2,
      let x := s.domain d
      let due := x.ok = true ∧ x.lastSync + 3 * logInterval x.logSync ≤ now s
      (due → t.domain d = { x with ok := false, okSince := now s, good := 0 }) ∧ (¬ due → t.domain d = x)) ∧
    (∀ p : Fin 2, (engines s = false ∨ locked s 6 = false → exec (.ethLinkChange p true) s = .next s) ∧
      ∀ up, (up = true → engines s = true ∧ locked s 6 = true) → ∃ t, exec (.ethLinkChange p up) s = .next t ∧
        vget t.time.ethUp p = up ∧ (∀ q, q ≠ p → vget t.time.ethUp q = vget s.time.ethUp q) ∧
        ∀ d, (portOf s d = p → (t.domain d).ok = false ∧ (t.domain d).parent = none ∧ (t.domain d).foreign = [] ∧
            (t.domain d).portState = if up then .listening else .faulty) ∧
          (portOf s d ≠ p → t.domain d = s.domain d))

/-- PTP messages and domains: the claims above, together. -/
def Obligations.PtpMessagesAndDomains : Prop :=
  Claim.PtpMessages ∧ Claim.PtpDomains

/-- PPS_IN, slews and steps (14 R283, R284, R286, R287, R291). An edge more than 100 us from its second is rejected and counted while
PPS_OK. Another is dated and counted in its run of at most four; it takes the step that TIME_SET has left for it, unless a bank is
in use; at the fourth it acquires PPS_OK and, with no bank in use and no PTP domain OK, aligns the nanoseconds; while
PPS_IN governs it steps an offset above STEP_THRESHOLD where that may be, and slews another; else it changes no more. Two missing edges end PPS_OK.
A slew that has come to 0 ends with a time-status record; the interval issues one and begins anew where it ended.
Domain A takes over again when REVERT_HOLD has run. Without its cause each of them changes nothing. -/
def Claim.PpsAndSlews : Prop :=
  ∀ s : State,
    let run := if ppsFollows s then min 4 (s.time.ppsRun + 1) else 1
    let due := s.time.lastRecord + s.params.recordInterval * (Config.secUnits / 10)
    (engines s = false → exec .ppsEdge s = .next s) ∧
    (engines s = true → s.time.ppsOk = true → 100 * Config.usUnits < (ppsError s).natAbs → exec .ppsEdge s =
      .next { s with time := { s.time with ppsRejects := satAdd s.time.ppsRejects 1, flags := s.time.flags.raise 4 } }) ∧
    (engines s = true → (s.time.ppsOk = false ∨ (ppsError s).natAbs ≤ 100 * Config.usUnits) → ∃ t, exec .ppsEdge s = .next t ∧
      t.time.lastPps = some (now t) ∧ t.time.ppsMissing = 0 ∧ t.time.ppsRun = run ∧ t.time.setAtPps = none ∧
      (∀ t0, s.time.setAtPps = some t0 →
        (anyBankBusy s = false → now t = t0 ∧ t.time.valid = true ∧ t.time.flags = s.time.flags.raise 5) ∧
        (anyBankBusy s = true → t.time.raw = s.time.raw)) ∧
      (s.time.setAtPps = none →
        (s.time.ppsOk = false → run = 4 → t.time.ppsOk = true ∧
          ((s.domain 0).ok = false → (s.domain 1).ok = false → anyBankBusy s = false →
            now t = (if ppsError s = 0 then now s else ppsAligned s) ∧ t.time.valid = true) ∧
          (anyBankBusy s = true → t.time.raw = s.time.raw)) ∧
        (s.time.ppsOk = true → s.time.source = .pps →
          (mayStep (ppsError s) s = true → now t = ((now s : Int) - ppsError s).toNat) ∧
          (mayStep (ppsError s) s = false → t.time.raw = s.time.raw ∧ t.time.slew = some (ppsError s * 2 ^ 24))) ∧
        ((s.time.ppsOk = true ∨ run ≠ 4) → s.time.source ≠ .pps →
          t = { s with time := { s.time with lastPps := some (now s), ppsMissing := 0, ppsRun := run } }))) ∧
    (∀ t0, s.time.ppsOk = true → s.time.lastPps = some t0 → t0 + 2 * Config.secUnits < now s → ∃ t, exec .ppsMissing s = .next t ∧
      t.time.ppsOk = false ∧ t.time.ppsRun = 0 ∧ t.time.flags.now.getLsbD 3 = true ∧ t.time.source ≠ .pps) ∧
    ((s.time.ppsOk = false ∨ s.time.lastPps = none ∨ ∃ t0, s.time.lastPps = some t0 ∧ now s ≤ t0 + 2 * Config.secUnits) →
      exec .ppsMissing s = .next s) ∧
    (s.time.slew = some 0 → exec .slewEnd s = .next (timeRecord
      { s with time := { s.time with slew := none, slewing := false, slewFresh := false } })) ∧
    (s.time.slew ≠ some 0 → exec .slewEnd s = .next s) ∧
    (firmware s = true → engines s = true → due ≤ now s →
      exec .timeRecordInterval s = .next (timeRecord { s with time := { s.time with lastRecord := due } })) ∧
    (firmware s = false ∨ engines s = false ∨ now s < due → exec .timeRecordInterval s = .next s) ∧
    (s.time.source = .domainB → (s.domain 0).ok = true → (s.domain 1).ok = true → s.time.force = .none → s.time.order ≤ 1 →
      s.time.revertive = true →
      ((s.domain 0).okSince + s.time.revertHoldS * Config.secUnits ≤ now s →
        ∃ t, exec .revertHoldExpiry s = .next t ∧ t.time.source = .domainA ∧ t.time.switches = satAdd s.time.switches 1 ∧
          t.time.flags = s.time.flags.raise 0 ∧ t.time.raw = s.time.raw) ∧
      (now s < (s.domain 0).okSince + s.time.revertHoldS * Config.secUnits → exec .revertHoldExpiry s = .next s)) ∧
    (s.time.source ≠ .domainB ∨ (s.domain 0).ok = false → exec .revertHoldExpiry s = .next s)

/-- The transparent clock and other PTP traffic (14 R277, R278, R289). With both links up, a message that resides at most 5 us leaves on
the other port: a Sync or Delay_Req with its residence, from stamp to stamp, in correctionField, its UDP checksum 0 over IPv4 and
following the field over IPv6, another message unchanged. A Sync or Delay_Req of the device due there in the same
cycle goes first, and the message waits for it. It is dropped and counted where the other link is down, the queue is full or it would
reside longer; with the clock disabled or its own link down it is not taken. A message of no domain counts while the link is up. -/
def Claim.TransparentClock : Prop :=
  ∀ (p : Fin 2) (s : State),
    (∀ m rx full, let residence := txStamp s (1 - p) (now s) - rxStamp s p rx
      (engines s = true → vget s.time.ethUp p = true → s.time.tcEnable = true →
        (vget s.time.ethUp (1 - p) = true → full = false → residence ≤ 5 * Config.usUnits →
          (1 < m.kind → exec (.tcForward p m rx ⟨full, none⟩) s = .next (emitOut (.tcForward (1 - p).val m) s)) ∧
          (m.kind ≤ 1 → ∃ k, exec (.tcForward p m rx ⟨full, none⟩) s = .next (emitOut (.tcForward (1 - p).val
              { m with correction := m.correction + residence, checksum := k }) s) ∧
            (m.transport = 1 → k = 0) ∧ (m.transport = 0 → k = m.checksum) ∧
            (m.transport = 2 → k = fixChecksum m.checksum (toLeInt 8 m.correction).reverse
              (toLeInt 8 (m.correction + residence)).reverse)) ∧
          (∀ d kind, kind ≠ .announce → portOf s d = 1 - p → sendsPtp s d kind = true →
            residence + ownWireTime (s.domain d) ≤ 5 * Config.usUnits →
            exec (.tcForward p m rx ⟨full, some (d, kind)⟩) s = .next (emitOut (.tcForward (1 - p).val
              (m.aged (residence + ownWireTime (s.domain d)))) (sendPtp d kind s)))) ∧
        (vget s.time.ethUp (1 - p) = false ∨ full = true ∨ 5 * Config.usUnits < residence →
          exec (.tcForward p m rx ⟨full, none⟩) s =
            .next { s with time := { s.time with tcDropped := satAdd s.time.tcDropped 1 } })) ∧
      (engines s = false ∨ vget s.time.ethUp p = false ∨ s.time.tcEnable = false →
        exec (.tcForward p m rx ⟨full, none⟩) s = .next s)) ∧
    (engines s = true → vget s.time.ethUp p = true → exec (.ptpMessageIgnored p) s = .next { s with time := { s.time with
      ptpIgnored := vmod s.time.ptpIgnored p fun x => satAdd x 1 } }) ∧
    (engines s = false ∨ vget s.time.ethUp p = false → exec (.ptpMessageIgnored p) s = .next s)

/-- Time starts (14 R290, 15 R308; 01 R18). At its time an armed start fires: without a period it is spent, a periodic one stays armed
for its next period point. A start of a Vent sends it one start, or merges with those on their way where the crossing holds 7; one of a
frame-clock gate gates each output of its mask on, from the grid's next rising edge and unless it was gated off in this cycle, or
off, letting the period in progress finish, and no other output. One that is not armed, or not due, does nothing. -/
def Claim.TimeStarts : Prop :=
  ∀ (i : Fin 8) (s : State),
    let x := vget s.time.starts i
    (x.armed = true → x.start + x.fired * x.period ≤ now s → ∃ t, exec (.timeStartFire i) s = .next t ∧
      vget t.time.starts i = { x with armed := decide (x.period ≠ 0), fired := x.fired + 1 } ∧
      (∀ j, j ≠ i → vget t.time.starts j = vget s.time.starts j) ∧
      (∀ v : Fin 2, x.target = 1 + v.val →
        (vget (vget s.vent.units v).starts 0 < 7 → t.down = s.down ∧
          vget (vget t.vent.units v).starts 0 = vget (vget s.vent.units v).starts 0 + 1) ∧
        (7 ≤ vget (vget s.vent.units v).starts 0 → t.vent = s.vent ∧
          vget t.down.rowMerges 4 = satAdd (vget s.down.rowMerges 4) 1)) ∧
      ∀ o : Fin 8, let f := vget (settleFco s o).evt.outputs o
        (x.target = 3 → vget t.evt.outputs o =
          if bit o.val x.mask.toNat = false then vget s.evt.outputs o
          else if f.lastOff = some s.time.tclk ∨ f.on = true then f else { f with on := true, since := gateFrom s f }) ∧
        (x.target = 4 → vget t.evt.outputs o =
          if bit o.val x.mask.toNat = false then vget s.evt.outputs o
          else { f with on := false, lastOff := some s.time.tclk })) ∧
    (x.armed = false ∨ now s < x.start + x.fired * x.period → exec (.timeStartFire i) s = .next s)

/-- The time commands (14 R279, R283, R287, R290, R292). PTP_CONFIG, its fields checked, sets up a domain that does not govern and starts it
listening, and is BUSY for one that does. TIME_SOURCE sets order, revert hold and force, and refuses a force to a source that
is not OK. TIME_SET is refused while a bank is in use, checks its time, steps at once, or at the next edge where PPS_OK. TIME_START checks its
fields, disarms with CANCEL, a firing due in that cycle first, arms a start that is not armed, and is BUSY for one that is. TC_CONFIG
enables or disables the transparent clock. -/
def Claim.TimeCommands : Prop :=
  ∀ (c : Cmd) (rest : List Cmd) (s : State),
    let t := taken c rest s
    let say := fun st n bytes (u : State) => answer c (some 11) st n bytes u
    (Ready .ptpConfig c rest s →
      (∀ o, ptpBad c t = some o → exec .ptpConfig s = .next (say .badParam o [] t)) ∧
      (∀ d : Fin 2, c.u 0 1 = d.val → ptpBad c t = none →
        (governing t = some d → exec .ptpConfig s = .next (say .busyRunning 0 [] t)) ∧
        (governing t ≠ some d → ∃ u, exec .ptpConfig s = .next (say .ok 0 [] u) ∧
          (∀ e, e ≠ d → u.domain e = t.domain e) ∧ (u.domain d).number = c.u 1 1 ∧
          (u.domain d).port = c.u 2 1 ∧ (u.domain d).transport = c.u 3 1 ∧ (u.domain d).masterCapable = bit 0 (c.u 4 1) ∧
          (u.domain d).priority1 = c.u 5 1 ∧ (u.domain d).priority2 = c.u 6 1 ∧ (u.domain d).logSync = c.int 7 1 ∧
          (u.domain d).logDelayReq = c.int 8 1 ∧ (u.domain d).logAnnounce = c.int 9 1 ∧ (u.domain d).vlan = c.u 10 2 ∧
          (u.domain d).portState = .listening ∧ (u.domain d).ok = false ∧ (u.domain d).foreign = []))) ∧
    (Ready .timeSource c rest s → let f := TimeSource.ofCode (c.u 2 1)
      (3 < c.u 0 1 → exec .timeSource s = .next (say .badParam 0 [] t)) ∧
      (c.u 0 1 ≤ 3 → 3 < c.u 2 1 → exec .timeSource s = .next (say .badParam 2 [] t)) ∧
      (c.u 0 1 ≤ 3 → c.u 2 1 ≤ 3 → (c.u 4 4 = 0 ∨ 3600 < c.u 4 4) → exec .timeSource s = .next (say .badParam 4 [] t)) ∧
      (c.u 0 1 ≤ 3 → c.u 2 1 ≤ 3 → 1 ≤ c.u 4 4 → c.u 4 4 ≤ 3600 →
        (f ≠ .none → okOf t f = false → exec .timeSource s = .next (say .refusedState 0 [] t)) ∧
        (f = .none ∨ okOf t f = true → ∃ u, exec .timeSource s = .next (say .ok 0 [] u) ∧ u.time.order = c.u 0 1 ∧
          u.time.revertHoldS = c.u 4 4 ∧ u.time.revertive = bit 0 (c.u 1 1) ∧ u.time.force = f ∧
          (f ≠ .none → u.time.source = f) ∧ u.time.raw = t.time.raw))) ∧
    (Ready .timeSet c rest s →
      (anyBankBusy t = true → exec .timeSet s = .next (say .refusedState 0 [] t)) ∧
      (anyBankBusy t = false → c.badTime 4 = true → exec .timeSet s = .next (say .badParam 4 [] t)) ∧
      (anyBankBusy t = false → c.badTime 4 = false → bit 0 (c.u 0 1) = true →
        (t.time.ppsOk = true → exec .timeSet s = .next (say .ok 0 (timeBytes (c.time 4))
          { t with time := { t.time with setAtPps := some (c.time 4) } })) ∧
        (t.time.ppsOk = false → exec .timeSet s = .next (say .notReady 0 [] t))) ∧
      (anyBankBusy t = false → c.badTime 4 = false → bit 0 (c.u 0 1) = false → ∃ u,
        exec .timeSet s = .next (say .ok 0 (timeBytes (c.time 4)) u) ∧ now u = c.time 4 ∧ u.time.valid = true ∧
        u.time.flags = t.time.flags.raise 5)) ∧
    (Ready .timeStart c rest s →
      (∀ o, startBad c = some o → exec .timeStart s = .next (say .badParam o [] t)) ∧
      (∀ i : Fin 8, c.u 0 1 = i.val → startBad c = none → let x := vget t.time.starts i
        (bit 0 (c.u 1 1) = true → exec .timeStart s = .next (say .ok 0 [] (modStart i (fun x => { x with armed := false })
          (if x.armed = true ∧ x.next ≤ now t then fireStart (now t) i t else t)))) ∧
        (bit 0 (c.u 1 1) = false → x.armed = true → exec .timeStart s = .next (say .busyRunning 0 [] t)) ∧
        (bit 0 (c.u 1 1) = false → x.armed = false → exec .timeStart s = .next (say .ok 0 []
          (modStart i (fun _ => { armed := true, start := c.time 8, period := c.u 4 4 * Config.usUnits, target := c.u 2 1,
                                  mask := BitVec.ofNat 8 (c.u 3 1), fired := 0 }) t))))) ∧
    (Ready .tcConfig c rest s → exec .tcConfig s = .next (say .ok 0 []
      { t with time := { t.time with tcEnable := bit 0 (c.u 0 1) } }))

/-- PPS_IN, slews, the transparent clock, time starts and the time commands: the claims above, together. -/
def Obligations.StationTime : Prop :=
  Claim.PpsAndSlews ∧ Claim.TransparentClock ∧ Claim.TimeStarts ∧ Claim.TimeCommands

/-- Event inputs (15 R294 to R296, R299 to R304; 07 R138; 21 R418). An edge of the selected polarity outside the hold-off of an enabled
input takes the next EVENT_SEQ and enters the FIFO of 256, or is lost there; one inside the hold-off or of the other polarity
is suppressed; while PLL_T is unlocked each is lost; a disabled input takes none. The oldest stamp leaves the FIFO with
DCLK: it raises condition 272 + n at T_s less 256 units for each fine code and less the latency that held at its edge, for
each sequencer whose program takes it, raises flag 3 where EVT0 or EVT1 had no loop calibration, and joins the starts or the stops of a pair
or is recorded at once. Without a stamp, or DCLK, nothing happens. -/
def Claim.EventInputs : Prop :=
  ∀ (i : Fin 16) (s : State),
    let x := vget s.evt.inputs i
    let lose := fun x : EvtIn => { x with lost := satAdd x.lost 1, flags := x.flags.raise 1 }
    (∀ falling taps,
      (engines s = false ∨ x.enabled = false → exec (.evtEdge i falling taps) s = .next s) ∧
      (engines s = true → x.enabled = true → locked s 2 = false → exec (.evtEdge i falling taps) s = .next (s.modIn i lose)) ∧
      (engines s = true → x.enabled = true → locked s 2 = true →
        (selectedEdge x.polarity falling = true → (∀ t, x.last = some t → t + x.holdoff ≤ s.time.tclk) →
          (x.fifo.length < 256 → ∃ t e, exec (.evtEdge i falling taps) s = .next t ∧ (vget t.evt.inputs i).fifo = x.fifo ++ [e] ∧
            e.ts = now s ∧ e.taps = taps ∧ e.falling = falling ∧ e.latencyPs = x.latencyPs ∧ e.seq = x.seq + 1 ∧
            e.loop = loopCal s i ∧ (vget t.evt.inputs i).seq = x.seq + 1 ∧ (vget t.evt.inputs i).last = some s.time.tclk ∧
            (vget t.evt.inputs i).peak = max x.peak (x.fifo.length + 1) ∧
            ∀ j, j ≠ i → vget t.evt.inputs j = vget s.evt.inputs j) ∧
          (256 ≤ x.fifo.length → exec (.evtEdge i falling taps) s = .next (s.modIn i fun x =>
            lose { x with last := some s.time.tclk, seq := x.seq + 1 }))) ∧
        ((selectedEdge x.polarity falling = false ∨ ∃ t, x.last = some t ∧ s.time.tclk < t + x.holdoff) →
          exec (.evtEdge i falling taps) s = .next (s.modIn i fun x =>
            { x with suppressed := satAdd x.suppressed 1, flags := x.flags.raise 0 })))) ∧
    (x.fifo = [] ∨ dclk s = false → exec (.stampTaken i) s = .next s) ∧
    ∀ e rest, dclk s = true → x.fifo = e :: rest →
      let at_ := e.ts - fineCode s i e * 256 - (e.latencyPs * 65536 + 500) / 1000
      let st : Stamp := { time := at_, falling := e.falling, loop := e.loop, seq := e.seq }
      let v : Event := { cond := 272 + i.val, time := at_, anchor := none }
      ∃ t, exec (.stampTaken i) s = .next t ∧ (vget t.evt.inputs i).fifo = rest ∧
        (vget t.evt.inputs i).flags = (if i.val < 2 ∧ e.loop = false then x.flags.raise 3 else x.flags) ∧
        (∀ p, x.pair = some p → (vget t.evt.inputs i).pair = some { p with starts := p.starts ++ [st] }) ∧
        (∀ j p, x.pair = none → startOf s i = some j → (vget s.evt.inputs j).pair = some p →
          (vget t.evt.inputs j).pair = some { p with stops := p.stops ++ [st] }) ∧
        (∀ (q : Fin 16) b, (s.seqr q).run ≠ .stopped → programFor s (s.seqr q) v = some b →
          ((planIn s b).seqOf q.val).names (272 + i.val) = true → (∀ y, (s.seqr q).lastTaken = some y → y ≤ at_) →
          (s.seqr q).queue.length + (s.seqr q).released.length < 16384 → (t.seqr q).queue = (s.seqr q).queue ++ [v]) ∧
        (x.pair = none → startOf s i = none → ∃ u, t = emit (edgeRecord u i st) u ∧ u.evt = t.evt ∧ u.records = s.records)

/-- Interval pairs (15 R302, R303). Once its window has passed, and no stamp up to then stands in either FIFO, the earliest start takes
the nearest unpaired stop inside the window: an INTERVAL record of the rounded difference with COINCIDENT, ORDER and
loop calibration; without one it is an EDGE record and raises flag 2. Before that no start is decided. Stops that
no start can take any more leave as EDGE records. Where there are none of these, and nothing to decide, the pair stays as it is;
an input that starts no pair decides nothing. -/
def Claim.IntervalPairs : Prop :=
  ∀ (i : Fin 16) (s : State),
    let x := vget s.evt.inputs i
    (x.pair = none → exec (.pairDecide i) s = .next s) ∧
    ∀ p, x.pair = some p →
      let w := p.window * 2 * Config.nsUnits
      let stale := fun q : Pair => (staleStops ((now s : Int) - w) q).filter fun y => !stampsDue s i (y.time + w)
      let set := fun (q : Pair) => s.modIn i fun y => { y with pair := some q }
      let kept := fun (q : Pair) => { q with stops := q.stops.filter fun y => !(stale q).contains y }
      let early := fun a : Stamp =>
        now s < a.time + w ∨ stampsDue s i (a.time + w) = true ∨ stampsDue s p.stop (a.time + w) = true
      (p.starts = [] → ∃ t, exec (.pairDecide i) s = .next t ∧ (vget t.evt.inputs i).pair = some (kept p) ∧
        (stale p = [] → t = s)) ∧
      ∀ a, a ∈ p.starts → (∀ y ∈ p.starts, y ≠ a → a.time < y.time) →
        (early a → ∃ t, exec (.pairDecide i) s = .next t ∧ (vget t.evt.inputs i).pair = some (kept p) ∧ (stale p = [] → t = s)) ∧
        (¬ early a →
          (nearestStop a.time w p.stops = none → let q := { p with starts := p.starts.erase a }
            ∃ t, exec (.pairDecide i) s = .next t ∧ (vget t.evt.inputs i).pair = some (kept q) ∧
              (stale q = [] → (vget t.evt.inputs i).flags = x.flags.raise 2 ∧
                ∃ u, t = emit (edgeRecord (set q) i a) u ∧ u.records = s.records)) ∧
          (∀ b, nearestStop a.time w p.stops = some b →
            let q := { p with starts := p.starts.erase a, stops := p.stops.erase b }
            let d := intervalOf ((b.time : Int) - a.time)
            b ∈ p.stops ∧ ((b.time : Int) - a.time).natAbs ≤ w ∧
              (∀ y ∈ p.stops, ((b.time : Int) - a.time).natAbs ≤ ((y.time : Int) - a.time).natAbs) ∧
            ∃ t, exec (.pairDecide i) s = .next t ∧ (vget t.evt.inputs i).pair = some (kept q) ∧
              (stale q = [] → t = emit (stampRecord (set q) 1 i a p.stop.val
                (atBit 9 d.2.2 + atBit 10 d.2.1 + atBit 11 (a.loop && b.loop)) d.1) (set q))))

/-- DLLs, tables, levels and phase steps (15 R298, R299, R305 to R308, R311). A DLL's loss is a fault; that of DLL_F raises also flag 1
of every output. A relock while the engines run restores calibration, or the outputs, which go on at their first whole period with the steps
that are left. A table rebuild follows each input's nearest sensor. A step that is due, with DLL_F
locked, moves PHASE by one unit of its circle of FCO_DIV x 1,024 towards what is left; no other does. An output gated on from
reset on is high in the first half of each period of its grid from PHASE on, and one that has begun none and is off is low.
A loss of a DLL that is lost, and a relock while the engines stand, change nothing. -/
def Claim.DllsAndPhaseSteps : Prop :=
  ∀ s : State,
    (s.evt.dllT = true → ∃ t, exec (.dllUnlock false) s = .next t ∧ t.evt.dllT = false ∧ t.evt.dllF = s.evt.dllF ∧
      t.evt.outputs = s.evt.outputs ∧ t.dev.faultCount = satAdd s.dev.faultCount 1) ∧
    (s.evt.dllT = false → exec (.dllUnlock false) s = .next s) ∧
    (s.evt.dllF = true → ∃ t, exec (.dllUnlock true) s = .next t ∧ t.evt.dllF = false ∧ t.evt.dllT = s.evt.dllT ∧
      (∀ o, vget t.evt.outputs o = { vget (settleFco s o).evt.outputs o with flags := (vget s.evt.outputs o).flags.raise 1 }) ∧
      t.dev.faultCount = satAdd s.dev.faultCount 1) ∧
    (s.evt.dllF = false → exec (.dllUnlock true) s = .next s) ∧
    (engines s = true → exec (.dllRelock false) s = .next { s with evt := { s.evt with dllT := true } } ∧
      (s.evt.dllF = false → ∃ t, exec (.dllRelock true) s = .next t ∧ t.evt.dllF = true ∧ t.evt.dllT = s.evt.dllT ∧
        ∀ o, let f := vget s.evt.outputs o
          vget t.evt.outputs o = { f with since := gateFrom s f, stepBase := s.time.elapsed, stepsDone := 0 }) ∧
      (s.evt.dllF = true → exec (.dllRelock true) s = .next s)) ∧
    (∀ frame, engines s = false → exec (.dllRelock frame) s = .next s) ∧
    (firmware s = true → ∃ t, exec .tdcTableRebuild s = .next t ∧ ∀ i : Fin 16, vget t.evt.inputs i =
      { vget s.evt.inputs i with tableTemp := vget s.dev.sensors (Config.nearestSensor i.val) }) ∧
    (firmware s = false → exec .tdcTableRebuild s = .next s) ∧
    ∀ o : Fin 8, let f := vget s.evt.outputs o
      (s.evt.dllF = true → stepDue s f = true → 0 < f.stepsLeft → ∃ t, exec (.fcoPhaseStep o) s = .next t ∧
        t.out = .fcoStep o.val true :: s.out ∧ (vget t.evt.outputs o).stepsLeft = f.stepsLeft - 1 ∧
        (vget t.evt.outputs o).stepsDone = f.stepsDone + 1 ∧ (vget t.evt.outputs o).phase = (f.phase + 1) % (f.div * 1024)) ∧
      (s.evt.dllF = true → stepDue s f = true → f.stepsLeft < 0 → ∃ t, exec (.fcoPhaseStep o) s = .next t ∧
        t.out = .fcoStep o.val false :: s.out ∧ (vget t.evt.outputs o).stepsLeft = f.stepsLeft + 1 ∧
        (vget t.evt.outputs o).stepsDone = f.stepsDone + 1 ∧
        (vget t.evt.outputs o).phase = (f.phase + f.div * 1024 - 1) % (f.div * 1024)) ∧
      (f.stepsLeft = 0 ∨ s.evt.dllF = false ∨ stepDue s f = false → exec (.fcoPhaseStep o) s = .next s) ∧
      (s.dev.powered = true → s.dev.state ≠ .boot → s.dev.state ≠ .suspended → s.evt.dllF = true → 1 ≤ f.div →
        f.since = 0 → f.cycle = none →
        (f.on = true → fcoLevel s o = decide (f.phase * 5 ≤ gridNow s ∧
          (gridNow s - f.phase * 5) % (f.div * 1024 * 5) < f.div * 1024 * 5 / 2)) ∧
        (f.on = false → fcoLevel s o = false))

/-- The commands of the event inputs and frame-clock outputs (15 R300, R302, R303, R306, R308, R309, R312; 03 R51 to R53). EVT_CONFIG, its
fields checked, is BUSY where it would change polarity, hysteresis or hold-off of an enabled input, or a pair of which an
input is enabled; else the input takes its settings and keeps its FIFO and EVENT_SEQ, a pair that stays keeps its stamps, a new
one begins with none. FCO_CONFIG checks its fields, is BUSY for another divider of an output that is gated on, and sets a new one with PHASE 0.
FCO_GATE gates its mask on or off. FCO_STEP, with an epoch and its fields checked, schedules the steps for the boundary
it names, or as STEP_LATE one commit period later with flag 0 of each output it covers; one schedule waits at a time, and CANCEL
drops it until its window has closed. -/
def Claim.EventCommands : Prop :=
  ∀ (c : Cmd) (rest : List Cmd) (s : State),
    let t := taken c rest s
    let say := fun st n bytes (u : State) => answer c (some 12) st n bytes u
    (Ready .evtConfig c rest s →
      (∀ o, evtBad c t = some o → exec .evtConfig s = .next (say .badParam o [] t)) ∧
      ∀ i : Fin 16, c.u 0 1 = i.val → evtBad c t = none →
        let x := vget t.evt.inputs i
        let pair : Option (Fin 16 × Nat) := if c.u 5 1 = 1 then (unit 16 (c.u 4 1)).map fun j => (j, c.u 10 2) else none
        let change := x.pair.map (fun p => (p.stop, p.window)) ≠ pair
        let busy := (x.enabled = true ∧ (x.polarity.val ≠ c.u 2 1 ∨ x.hyst.val ≠ c.u 3 1 ∨ x.holdoff ≠ c.u 6 2)) ∨
          (change ∧ (x.enabled = true ∨ (∃ p, x.pair = some p ∧ (vget t.evt.inputs p.stop).enabled = true) ∨
            ∃ p, pair = some p ∧ (vget t.evt.inputs p.1).enabled = true))
        (busy → exec .evtConfig s = .next (say .busyRunning 0 [] t)) ∧
        (¬ busy → ∃ u, exec .evtConfig s = .next (say .ok 0 [] u) ∧
          let y := vget u.evt.inputs i
          y.enabled = decide (c.u 1 1 = 1) ∧ y.polarity.val = c.u 2 1 ∧ y.hyst.val = c.u 3 1 ∧ y.holdoff = c.u 6 2 ∧
          y.latencyPs = c.u 8 2 ∧ y.fifo = x.fifo ∧ y.seq = x.seq ∧ y.last = x.last ∧ (¬ change → y.pair = x.pair) ∧
          (change → y.pair = pair.map fun p => { stop := p.1, window := p.2, starts := [], stops := [] }) ∧
          ∀ j, j ≠ i → (∀ p, x.pair = some p → p.stop ≠ j) → vget u.evt.inputs j = vget t.evt.inputs j)) ∧
    (Ready .fcoConfig c rest s →
      (8 ≤ c.u 0 1 → exec .fcoConfig s = .next (say .badParam 0 [] t)) ∧
      ∀ o : Fin 8, c.u 0 1 = o.val → let f := vget t.evt.outputs o
        ((c.u 2 2 = 0 ∨ 4096 < c.u 2 2) → exec .fcoConfig s = .next (say .badParam 2 [] t)) ∧
        (1 ≤ c.u 2 2 → c.u 2 2 ≤ 4096 →
          (f.on = true → f.div ≠ c.u 2 2 → exec .fcoConfig s = .next (say .busyRunning 0 [] t)) ∧
          (f.on = false → f.div ≠ c.u 2 2 → exec .fcoConfig s = .next (say .ok 0 []
            ((settleFco t o).modFco o fun f => { f with div := c.u 2 2, phase := 0 }))) ∧
          (f.div = c.u 2 2 → exec .fcoConfig s = .next (say .ok 0 [] (settleFco t o))))) ∧
    (Ready .fcoGate c rest s → ∃ u, exec .fcoGate s = .next (say .ok 0 [] u) ∧
      ∀ o : Fin 8, let f := vget (settleFco t o).evt.outputs o
        (bit o.val (c.u 0 1) = false → vget u.evt.outputs o = vget t.evt.outputs o) ∧
        (bit o.val (c.u 0 1) = true → bit 0 (c.u 1 1) = false →
          vget u.evt.outputs o = { f with on := false, lastOff := some t.time.tclk }) ∧
        (bit o.val (c.u 0 1) = true → bit 0 (c.u 1 1) = true → vget u.evt.outputs o =
          if f.lastOff = some t.time.tclk ∨ f.on = true then f else { f with on := true, since := gateFrom t f })) ∧
    (Ready .fcoStep c rest s → bit 0 (c.u 0 1) = true →
      (t.evt.pending = none → t.plans.epoch = none → exec .fcoStep s = .next (say .notReady 0 [] t)) ∧
      (t.evt.pending = none → t.plans.epoch ≠ none → exec .fcoStep s = .next (say .refusedState 0 [] t)) ∧
      (t.evt.pending ≠ none → t.evt.closed = true → exec .fcoStep s = .next (say .refusedState 0 [] t)) ∧
      (t.evt.pending ≠ none → t.evt.closed = false → exec .fcoStep s = .next (say .ok 0
        (timeBytes c.recorded ++ toLe 4 0 ++ toLe 8 Config.noEpoch) { t with evt := { t.evt with pending := none } }))) ∧
    (Ready .fcoStep c rest s → bit 0 (c.u 0 1) = false →
      (t.plans.epoch = none → exec .fcoStep s = .next (say .notReady 0 [] t)) ∧
      ∀ e, t.plans.epoch = some e →
        (∀ o, stepBad c = some o → exec .fcoStep s = .next (say .badParam o [] t)) ∧
        (stepBad c = none → c.u 8 8 ≤ e → exec .fcoStep s = .next (say .badParam 8 [] t)) ∧
        (stepBad c = none → e < c.u 8 8 → t.evt.pending ≠ none → exec .fcoStep s = .next (say .refusedState 0 [] t)) ∧
        (stepBad c = none → e < c.u 8 8 → t.evt.pending = none →
          let late := boundaryTime t (c.u 8 8) < c.recorded + Config.msUnits
          let eff := if late then c.u 8 8 + commitPeriod t else c.u 8 8
          ∃ u, exec .fcoStep s = .next (say (if late then .stepLate else .ok) 0
              (timeBytes c.recorded ++ toLe 4 0 ++ toLe 8 eff) u) ∧
            u.evt.pending = some { epoch := eff, steps := (List.range 8).map (stepOf c) } ∧
            u.evt.closed = decide (boundaryTime t eff < now t + Config.msUnits) ∧
            ∀ o : Fin 8, let f := vget t.evt.outputs o
              vget u.evt.outputs o = { f with flags := if late ∧ (stepOf c o.val).1 ≠ 0 then f.flags.raise 0 else f.flags }))

/-- Event inputs, interval pairs, DLLs, frame clocks and their commands: the claims above, together. -/
def Obligations.EventsAndFrameClocks : Prop :=
  Claim.EventInputs ∧ Claim.IntervalPairs ∧ Claim.DllsAndPhaseSteps ∧ Claim.EventCommands

/-- Housekeeping sequences (17 R339 to R347). A start that is on its way begins the sequence of an enabled converter that stands, is
latched by one that runs and lost behind a latched one; without one on its way nothing happens. A conversion's code, held
between 0 and 16,383, enters the sum, and one held at an end marks its entry and raises OVR_SEEN; the last of an entry gives its rounded and
shifted value, and that of the last entry ends the sequence: it counts, and a latched start begins the next. A conversion of a joint entry is
of both converters, and its values raise flag 1 and a fault where they differ by more than the tolerance. No conversion is made
while the converter waits out an over-range input, and when the wait ends the next two conversions are marked. -/
def Claim.Housekeeping : Prop :=
  ∀ (v : Fin 2) (s : State),
    let x := ventOf s v
    (∀ src, let k : Fin 3 := match src with | .timeStart => 0 | .line => 1 | .command => 2
      (engines s = false ∨ vget x.starts k = 0 → exec (.ventStart v src) s = .next s) ∧
      (engines s = true → 0 < vget x.starts k → ∃ t, exec (.ventStart v src) s = .next t ∧
        vget (ventOf t v).starts k = vget x.starts k - 1 ∧
        (x.enabled = true →
          (x.run = none → ∃ r, (ventOf t v).run = some r ∧ r = { HkRun.begin (now s) x.entries with begun := r.begun } ∧
            (ventOf t v).latched = x.latched ∧ (v = 0 → x.urgent = none → x.ovrInput = none → r.begun = true) ∧
            (x.urgent.isSome = true → r.begun = false)) ∧
          (∀ r, x.run = some r → r.begun = true → (ventOf t v).run = x.run ∧
            (x.latched = false → (ventOf t v).latched = true ∧ (ventOf t v).trigLost = x.trigLost) ∧
            (x.latched = true → (ventOf t v).trigLost = satAdd x.trigLost 1 ∧ (ventOf t v).flags = x.flags.raise 2))) ∧
        (x.enabled = false → (ventOf t v).run.isSome = x.run.isSome ∧ (ventOf t v).latched = x.latched))) ∧
    (∀ code codeB, engines s = false ∨ mustWait s v = true ∨ (x.urgent = none ∧ x.run = none) →
      exec (.ventConversion v code codeB) s = .next s) ∧
    (∀ r e code codeB, engines s = true → mustWait s v = false → x.urgent = none → x.run = some r → r.entries[r.entry]? = some e →
      e.joint = false → (v = 0 ∨ inJoint s = false) →
      let held := (convert code).1
      let beyond := (convert code).2
      held = (min (max code 0) 16383).toNat ∧ (beyond = true ↔ code < 0 ∨ 16383 < code) ∧
      ∃ t, exec (.ventConversion v code codeB) s = .next t ∧ (ventOf t v).marks = x.marks - 1 ∧
        (ventOf t v).ovrInput = (if beyond then some e.input else x.ovrInput) ∧
        (ventOf t v).flags = (if beyond then x.flags.raise 0 else x.flags) ∧
        let u : HkSum := { done := r.sumA.done + 1, sum := r.sumA.sum + held, ovr := r.sumA.ovr || beyond,
                           recovering := r.sumA.recovering || decide (0 < x.marks) }
        (r.sumA.done + 1 < 2 ^ e.avg → (ventOf t v).run = some { r with sumA := u }) ∧
        (2 ^ e.avg ≤ r.sumA.done + 1 →
          (r.entry + 1 < r.entries.length → (ventOf t v).run = some { r with
            entry := r.entry + 1, sumA := HkSum.zero, sumB := HkSum.zero
            outs := r.outs ++ [{ input := e.input, ventB := decide (v = 1), ovr := u.ovr, recovering := u.recovering, plaus := false,
                                 value := hkValue e.shift u.sum }] }) ∧
          (r.entries.length ≤ r.entry + 1 → (ventOf t v).sequences = x.sequences + 1 ∧ (ventOf t v).latched = false ∧
            (x.latched = false → (ventOf t v).run = none) ∧
            (x.latched = true → ∃ n, (ventOf t v).run = some n ∧ n = { HkRun.begin (now s) x.entries with begun := n.begun })))) ∧
    (∀ r e code codeB, engines s = true → inJoint s = true → mustWait s 0 = false → mustWait s 1 = false →
      (ventOf s 0).run = some r → r.entries[r.entry]? = some e →
      exec (.ventConversion 1 code codeB) s = .next s ∧
      ∃ t, exec (.ventConversion 0 code codeB) s = .next t ∧
        (r.sumA.done + 1 < 2 ^ e.avg → ((ventOf t 0).run.map fun q => (q.sumA.sum, q.sumB.sum, q.sumA.done, q.entry)) =
          some (r.sumA.sum + (convert code).1, r.sumB.sum + (convert codeB).1, r.sumA.done + 1, r.entry)) ∧
        (2 ^ e.avg ≤ r.sumA.done + 1 →
          let va := hkValue e.shift (r.sumA.sum + (convert code).1)
          let vb := hkValue e.shift (r.sumB.sum + (convert codeB).1)
          let fail := s.vent.plausTol < ((va : Int) - vb).natAbs
          (¬ fail → t.dev.faultCount = s.dev.faultCount) ∧
          (fail → t.dev.faultCount = satAdd s.dev.faultCount 1 ∧ (ventOf t 0).flags.now.getLsbD 1 = true) ∧
          (r.entry + 1 < r.entries.length → ((ventOf t 0).run.map fun q => (q.entry, q.outs.map fun o => (o.value, o.ventB, o.plaus))) =
            some (r.entry + 1, (r.outs.map fun o => (o.value, o.ventB, o.plaus)) ++
              [(va, false, decide fail), (vb, true, decide fail)])))) ∧
    (engines s = true → mustWait s v = true → ∃ t, exec (.ovrRecoveryEnd v) s = .next t ∧ (ventOf t v).ovrInput = none ∧
      (ventOf t v).marks = 2) ∧
    (engines s = false ∨ mustWait s v = false → exec (.ovrRecoveryEnd v) s = .next s)

/-- Urgent requests (17 R338, R344, R345, R348; 21 R423). A conversion of a host urgent read enters its sum, and the last answers HK_READ with the value,
OVR and RECOVERING and ends the read. A thermal check keeps the hottest trimmed sensor, each sensor's temperature and the run of
checks at 130 deg C; it is a fault to fall below -55, to reach 115, to exceed 125 deg C, once until 5 deg C inside,
and to be at 130 deg C three times in a row, which leads to FAULT. Behind a host urgent read of Vent A the check waits. It needs engines and
firmware. -/
def Claim.UrgentRequests : Prop :=
  ∀ s : State,
    (∀ (v : Fin 2) e u code codeB, engines s = true → mustWait s v = false → (ventOf s v).urgent = some (e, u) →
      let beyond := (convert code).2
      let n : HkSum := { done := u.done + 1, sum := u.sum + (convert code).1, ovr := u.ovr || beyond,
                         recovering := u.recovering || decide (0 < (ventOf s v).marks) }
      (n.done < 2 ^ e.avg → ∃ t, exec (.ventConversion v code codeB) s = .next t ∧ (ventOf t v).urgent = some (e, n) ∧
        (ventOf t v).run = (ventOf s v).run) ∧
      (2 ^ e.avg ≤ n.done → ∃ t, exec (.ventConversion v code codeB) s = .next t ∧ (ventOf t v).urgent = none ∧
        ∀ d, s.vent.thermal = none → s.host.deferred.find? (fun d => match d.wait with
            | .hkRead k .. => k = v
            | _ => false) = some d →
          let bytes := word (hkValue e.shift n.sum) ++ word (atBit 0 n.ovr + atBit 1 n.recovering)
          ∃ w, t = beginSampling v (finished d { status := .ok, detail := 0, payload := bytes } w) ∧
            w.host.deferred = s.host.deferred.erase d)) ∧
    ∀ sensors : Vector Int 4,
      (engines s = false ∨ firmware s = false → exec (.thermalCheck sensors) s = .next s) ∧
      (engines s = true → firmware s = true → (ventOf s 0).urgent.isSome = true →
        exec (.thermalCheck sensors) s = .next { s with vent := { s.vent with thermal := some sensors } }) ∧
      (engines s = true → firmware s = true → (ventOf s 0).urgent = none → ∃ t, exec (.thermalCheck sensors) s = .next t ∧
        let temp := fun i : Fin 4 => sensorTemp (convert (vget sensors i)).1 (vget s.dev.fuses.sensorTrims i)
        let a := (hottest ((List.finRange 4).map fun i => (i.val, temp i))).2
        let hot := if 130 * 256 ≤ a then s.dev.hotChecks + 1 else 0
        t.dev.tempMax = BitVec.ofInt 16 a ∧ (∀ i, vget t.dev.sensors i = BitVec.ofInt 16 (temp i)) ∧ t.dev.hotChecks = hot ∧
        (hot = 3 → t.dev.state = .fault) ∧ (hot ≠ 3 → t.dev.state = s.dev.state) ∧
        t.dev.faultCount = satAdd s.dev.faultCount ((if a < -55 * 256 ∧ vget s.dev.crossed 0 = false then 1 else 0) +
          (if 115 * 256 ≤ a ∧ vget s.dev.crossed 1 = false then 1 else 0) +
          (if 125 * 256 < a ∧ vget s.dev.crossed 2 = false then 1 else 0) + if hot = 3 then 1 else 0) ∧
        (vget t.dev.crossed 1 = true ↔ 115 * 256 ≤ a ∨ (vget s.dev.crossed 1 = true ∧ 110 * 256 < a)) ∧
        (vget t.dev.crossed 2 = true ↔ 125 * 256 < a ∨ (vget s.dev.crossed 2 = true ∧ 120 * 256 < a)))

/-- The housekeeping commands (17 R341, R342, R344, R345, R347, R348; 01 R18). HK_CONFIG checks its fields, is BUSY where it would change the
sequence of an enabled converter or the plausibility settings while Vent A is enabled, and else sets them; a latched start is
discarded with ENABLE 0. HK_START sends a start to an enabled converter, or merges it with seven that are on their way, and is refused for a disabled one.
HK_READ checks its fields, is BUSY behind another, and else makes an urgent read, which aborts the conversion in progress and
answers when its last conversion is done. -/
def Claim.HousekeepingCommands : Prop :=
  ∀ (c : Cmd) (rest : List Cmd) (s : State),
    let t := taken c rest s
    (Ready .hkConfig c rest s →
      (∀ o, hkBad c = some o → exec .hkConfig s = .next (answer c (some 14) .badParam o [] t)) ∧
      ∀ v : Fin 2, c.u 0 1 = v.val → hkBad c = none →
        let x := ventOf t v
        let busy := (x.enabled = true ∧ x.entries ≠ hkEntries c) ∨
          ((ventOf t 0).enabled = true ∧ (t.vent.plausInput ≠ c.u 3 1 ∨ t.vent.plausTol ≠ c.u 4 2))
        (busy → exec .hkConfig s = .next (answer c (some 14) .busyRunning 0 [] t)) ∧
        (¬ busy → ∃ u, exec .hkConfig s = .next (answer c (some 14) .ok 0 [] u) ∧
          ventOf u v = { x with entries := hkEntries c, enabled := decide (c.u 1 1 = 1),
                                latched := x.latched && decide (c.u 1 1 = 1) } ∧
          (∀ w, w ≠ v → ventOf u w = ventOf t w) ∧ u.vent.plausInput = c.u 3 1 ∧ u.vent.plausTol = c.u 4 2)) ∧
    (Ready .hkStart c rest s →
      (2 ≤ c.u 0 1 → exec .hkStart s = .next (answer c (some 14) .badParam 0 [] t)) ∧
      ∀ v : Fin 2, c.u 0 1 = v.val →
        ((ventOf t v).enabled = false → exec .hkStart s = .next (answer c (some 14) .refusedState 0 [] t)) ∧
        ((ventOf t v).enabled = true → vget (ventOf t v).starts 2 < 7 → exec .hkStart s = .next (answer c (some 14) .ok 0 []
          (t.modVent v fun x => { x with starts := vmod x.starts 2 (· + 1) }))) ∧
        ((ventOf t v).enabled = true → 7 ≤ vget (ventOf t v).starts 2 → exec .hkStart s = .next (answer c (some 14) .ok 0 []
          { t with down := { t.down with rowMerges := vmod t.down.rowMerges 4 fun x => satAdd x 1 } }))) ∧
    (Ready .hkRead c rest s →
      (2 ≤ c.u 0 1 → exec .hkRead s = .next (answer c none .badParam 0 [] t)) ∧
      ∀ v : Fin 2, c.u 0 1 = v.val →
        (23 < c.u 1 1 → exec .hkRead s = .next (answer c none .badParam 1 [] t)) ∧
        (c.u 1 1 ≤ 23 → 8 < c.u 2 1 → exec .hkRead s = .next (answer c none .badParam 2 [] t)) ∧
        (c.u 1 1 ≤ 23 → c.u 2 1 ≤ 8 → 8 < c.u 3 1 → exec .hkRead s = .next (answer c none .badParam 3 [] t)) ∧
        (c.u 1 1 ≤ 23 → c.u 2 1 ≤ 8 → c.u 3 1 ≤ 8 →
          ((ventOf t v).urgent.isSome = true → exec .hkRead s = .next (answer c none .busyRunning 0 [] t)) ∧
          ((ventOf t v).urgent = none → ∃ u, exec .hkRead s = .next (await c none (.hkRead v (c.u 1 1) (c.u 2 1) (c.u 3 1)) u) ∧
            (ventOf u v).urgent = some ({ input := c.u 1 1, joint := false, avg := c.u 2 1, shift := c.u 3 1 }, HkSum.zero) ∧
            (ventOf u v).run = (ventOf t v).run ∧
            (inJoint t = false → (ventOf t v).run.isSome = true → mustWait t v = false →
              (ventOf u v).aborts = satAdd (ventOf t v).aborts 1) ∧
            (inJoint t = true → mustWait t 0 = false → mustWait t 1 = false → ∀ w,
              (ventOf u w).aborts = satAdd (ventOf t w).aborts 1))))

/-- Housekeeping conversions, urgent requests and commands: the claims above, together. -/
def Obligations.Housekeeping : Prop :=
  Claim.Housekeeping ∧ Claim.UrgentRequests ∧ Claim.HousekeepingCommands

/-- Reset inputs and power (21 R406 to R409, R411, R423; 15 R300). PORST_N, power and the thermal trip put the device into reset: plans,
parameters, station time, mailboxes, records and fault count stand at their reset values and each EVT_LATENCY at its fuse, while fuses,
hosts' memories and CXL memories stay; the trip sets its latch, which only the loss of power clears. WRST_N holds the
device SUSPENDED with near memory and PLL_T and DLL_T kept, and station time where TREF has been present, else 0 and invalid; while PORST_N or
the trip holds it, it only is sampled. PORST_N's release samples the straps; the release of the last of the two starts the boot at
step 1, warm after WRST_N. An input that is at that level already, or finds no power, changes nothing. -/
def Obligations.ResetInputs : Prop :=
  ∀ s : State,
    let clean := fun t : State => t.plans = Plans.reset ∧ t.params = Params.reset ∧ t.host = HostShared.reset ∧
      t.ports = State.reset.ports ∧ t.records = Records.reset ∧ t.geyser = Geyser.reset ∧ t.fabric = Fabric.reset ∧
      t.dev.faultCount = 0 ∧ (∀ i, (vget t.evt.inputs i).latencyPs = vget s.dev.fuses.evtLatency i) ∧ t.dev.fuses = s.dev.fuses ∧
      t.hostMem = s.hostMem ∧ t.down.cxl = s.down.cxl ∧ t.pending = s.pending
    (s.dev.powered = true → s.dev.porstN = true → ∃ t, exec .porstNAssert s = .next t ∧ clean t ∧ t.dev.porstN = false ∧
      t.dev.tripHold = false ∧ t.dev.tripLatch = s.dev.tripLatch ∧ now t = 0 ∧ t.time.valid = false) ∧
    (s.dev.powered = false ∨ s.dev.porstN = false → exec .porstNAssert s = .next s) ∧
    (s.dev.powered = true → s.dev.porstN = true → s.dev.tripHold = false → ∃ t, exec .wrstNAssert s = .next t ∧ clean t ∧
      t.dev.wrstN = false ∧ t.dev.state = .suspended ∧
      t.time.raw = (if s.dev.trefLost then 0 else s.time.raw) ∧ t.time.valid = (s.time.valid && !s.dev.trefLost) ∧
      t.down.near.data = s.down.near.data ∧ t.down.near.pasr = s.down.near.pasr ∧
      vget t.dev.plls 2 = vget s.dev.plls 2 ∧ t.evt.dllT = s.evt.dllT) ∧
    (s.dev.powered = false ∨ s.dev.porstN = false ∨ s.dev.tripHold = true → exec .wrstNAssert s =
      .next { s with dev := { s.dev with wrstN := false } }) ∧
    (∀ prov test i2c,
      (s.dev.powered = true → s.dev.porstN = false → exec (.porstNRelease prov test i2c) s =
        .next { s with dev := { s.dev with
          porstN := true, provEn := prov, testMode := test, i2cAddr := i2c
          state := if s.dev.wrstN then .boot else .suspended
          bootStep := if s.dev.wrstN then 1 else s.dev.bootStep
          bootWarm := if s.dev.wrstN then false else s.dev.bootWarm } }) ∧
      (s.dev.powered = false ∨ s.dev.porstN = true → exec (.porstNRelease prov test i2c) s = .next s)) ∧
    (s.dev.powered = true → s.dev.porstN = true → s.dev.state = .suspended → exec .wrstNRelease s =
      .next { s with dev := { s.dev with wrstN := true, state := .boot, bootStep := 1, bootWarm := true } }) ∧
    (s.dev.powered = false ∨ s.dev.porstN = false ∨ s.dev.state ≠ .suspended → exec .wrstNRelease s =
      .next { s with dev := { s.dev with wrstN := true } }) ∧
    (s.dev.powered = false → ∃ t, exec .powerUp s = .next t ∧ clean t ∧ t.dev.powered = true ∧ t.dev.porstN = false ∧
      t.dev.tripLatch = false) ∧
    (s.dev.powered = true → exec .powerUp s = .next s) ∧
    (s.dev.powered = true → s.dev.porstN = false → ∃ t, exec .powerDown s = .next t ∧ clean t ∧ t.dev.powered = false ∧
      t.dev.tripLatch = false) ∧
    (s.dev.powered = false ∨ s.dev.porstN = true → exec .powerDown s = .next s) ∧
    (s.dev.powered = true → ∃ t, exec .hwThermalTrip s = .next t ∧ clean t ∧ t.dev.tripLatch = true ∧ t.dev.tripHold = true ∧
      t.dev.porstN = s.dev.porstN) ∧
    (s.dev.powered = false → exec .hwThermalTrip s = .next s)

/-- The boot (21 R411 to R413, R416, R423, R424; 12 R247, R248, R251; 15 R297). Each step that ends well leads to the next: step 2 stops
the boot under PROV_EN or TEST_MODE; step 3 locks three PLLs and the DLLs and writes the fused set point; steps 5 and 6 boot the
image of a slot that the ROM accepts, the second with a fault record, or lead to FAULT where it refuses both; step 7 starts the firmware; step 8 trains
near memory, whose contents are those that self-refresh has kept, outside the segments of the mask, after WRST_N and nothing otherwise; step 9 locks the
rest; step 10 gives EVT0 and EVT1 their tables; step 12 is READY, raises the rollback fuses to the image's index, and posts that,
a thermal trip and a watchdog expiry that wait. Another step that fails leads to FAULT; step 8 leaves the failing channel
untrained. Only the step that runs can end, and none without power, in reset or in a trip. Fuses are programmed only in provisioning: a blown
bit stays blown and a programmed key stays. -/
def Obligations.BootSteps : Prop :=
  ∀ s : State,
    (∀ n r, s.dev.powered = false ∨ s.dev.porstN = false ∨ s.dev.tripHold = true ∨ s.dev.bootStep ≠ n ∨ n = 0 →
      exec (.bootStepDone n r) s = .next s) ∧
    (∀ f, provisioning s = true → ∃ t, exec (.fuseProgram f) s = .next t ∧
      t = { s with dev := { s.dev with fuses := programFuse f s.dev.fuses } } ∧
      (s.dev.fuses.rootKey ≠ 0 → t.dev.fuses.rootKey = s.dev.fuses.rootKey) ∧
      (s.dev.fuses.rollback ≤ 64 → s.dev.fuses.rollback ≤ t.dev.fuses.rollback ∧ t.dev.fuses.rollback ≤ 64) ∧
      (s.dev.fuses.sigRequired = true → t.dev.fuses.sigRequired = true) ∧
      ∀ i k, vget s.dev.fuses.planKeys i = some k → vget t.dev.fuses.planKeys i = some k) ∧
    (∀ f, provisioning s = false → exec (.fuseProgram f) s = .next s) ∧
    (s.dev.powered = true → s.dev.porstN = true → s.dev.tripHold = false →
      (∀ n, s.dev.bootStep = n → n = 1 ∨ n = 4 ∨ n = 11 →
        exec (.bootStepDone n .done) s = .next { s with dev := { s.dev with bootStep := n + 1 } }) ∧
      (s.dev.bootStep = 2 → exec (.bootStepDone 2 .done) s = .next { s with dev := { s.dev with
        bootStep := if s.dev.provEn || s.dev.testMode then 0 else 3 } }) ∧
      (s.dev.bootStep = 3 → ∃ t, exec (.bootStepDone 3 .done) s = .next t ∧ t.dev.bootStep = 4 ∧ t.evt.dllT = true ∧
        t.evt.dllF = true ∧ t.dev.coreSetpoint = s.dev.fuses.vddCore ∧ t.out = .voutCommand s.dev.fuses.vddCore :: s.out ∧
        ∀ i, locked t i = (locked s i || i = 1 || i = 2 || i = 4)) ∧
      (∀ n bs, s.dev.bootStep = n → n = 5 ∨ n = 6 →
        exec (.bootStepDone n .done) s = .next s ∧
        (slotCause s.dev.fuses bs = none → ∃ t, exec (.bootStepDone n (.image bs)) s = .next t ∧ t.dev.bootStep = 7 ∧
          t.dev.fwVersion = ofLe ((bs.drop 4).take 2) ∧ t.dev.fwRollback = ofLe ((bs.drop 6).take 1) ∧
          t.dev.faultCount = if n = 6 then satAdd s.dev.faultCount 1 else s.dev.faultCount)) ∧
      (∀ bs k, s.dev.bootStep = 5 → slotCause s.dev.fuses bs = some k → exec (.bootStepDone 5 (.image bs)) s =
        .next { s with dev := { s.dev with slotCause := vset s.dev.slotCause 0 (some k), bootStep := 6 } }) ∧
      (∀ bs k, s.dev.bootStep = 6 → slotCause s.dev.fuses bs = some k → ∃ t, exec (.bootStepDone 6 (.image bs)) s = .next t ∧
        t.dev.state = .fault ∧ vget t.dev.slotCause 1 = some k ∧ t.dev.faultCount = satAdd s.dev.faultCount 1) ∧
      (s.dev.bootStep = 7 → exec (.bootStepDone 7 .done) s =
        .next (drain { s with dev := { s.dev with bootStep := 8, fwRunning := true } })) ∧
      (s.dev.bootStep = 8 → ∃ t, exec (.bootStepDone 8 .done) s = .next t ∧ t.dev.bootStep = 9 ∧ locked t 3 = true ∧
        t.down.near.trained = 0xFFFF ∧ t.down.near.pasr = s.down.near.pasr ∧
        (s.dev.bootWarm = false → t.down.near.data = [] ∧ t.down.near.unallocated = 0) ∧
        (s.dev.bootWarm = true → t.down.near.unallocated = s.down.near.unallocated ||| s.down.near.pasr ∧
          ∀ c, c ∈ t.down.near.data ↔ c ∈ s.down.near.data ∧
            if s.down.near.held then ∀ i, i < 8 → bit i s.down.near.pasr.toNat = true →
              c.1 < (segmentSpan s i).1 ∨ (segmentSpan s i).2 ≤ c.1
            else nearSize s ≤ c.1)) ∧
      (s.dev.bootStep = 9 → ∃ t, exec (.bootStepDone 9 .done) s = .next t ∧ t.dev.bootStep = 10 ∧
        ∀ i, locked t i = (locked s i || i = 0 || i = 5 || i = 6)) ∧
      (s.dev.bootStep = 10 → ∃ t, exec (.bootStepDone 10 .done) s = .next t ∧ t.dev.bootStep = 11 ∧
        ∀ i : Fin 16, vget t.evt.inputs i =
          { vget s.evt.inputs i with bootTable := decide (i.val < 2), tableTemp := roomTemp }) ∧
      (s.dev.bootStep = 12 → ∃ t, exec (.bootStepDone 12 .done) s = .next t ∧ t.dev.state = .ready ∧ t.dev.bootStep = 0 ∧
        t.dev.aliveRun = true ∧ t.dev.serviced = Vector.replicate 2 true ∧ t.dev.tripNew = false ∧ t.dev.wdog = none ∧
        t.dev.fuses = { s.dev.fuses with rollback := max s.dev.fuses.rollback s.dev.fwRollback } ∧
        t.dev.faultCount = satAdd s.dev.faultCount ((if s.dev.fuses.rollback < s.dev.fwRollback then 1 else 0) +
          (if s.dev.tripNew then 1 else 0) + if s.dev.wdog.isSome then 1 else 0)) ∧
      (∀ n a b, s.dev.bootStep = n → n ≠ 0 → ∃ t, exec (.bootStepDone n (.failed a b)) s = .next t ∧
        t.dev.state = .fault ∧ t.dev.bootStep = 0 ∧
        t.dev.faultCount = (if n = 3 ∨ n = 8 ∨ n = 11 then satAdd s.dev.faultCount 1 else s.dev.faultCount) ∧
        (n = 8 → a < 16 → t.down.near.trained = BitVec.ofNat 16 (0xFFFF - 2 ^ a))))

/-- Watchdogs, ALIVE and PLLs (05 R102; 21 R415 to R421; 02 R36). While READY with the firmware running, an expiry stops it and leads to WATCHDOG, the third in
10 s for good, with a fault record. A good copy restarts it, READY, and posts the expiry; a bad one boots from step 5
without plans or delivery; neither elsewhere. ALIVE toggles only while READY with both cores serviced, and is low
otherwise. A locked PLL's loss unlocks it alone, marks the epoch's items where it is PLL_D, PLL_T or PLL_M, and is reported, as its relock is; streams resume
at the next epoch after PLL_D. While SUSPENDED neither is reported, and a TREF loss at PLL_T ends the validity of station time. Near
memory unrefreshed for over 16 ms forgets its contents and is a fault that leads to FAULT. -/
def Obligations.WatchdogsAndPlls : Prop :=
  ∀ s : State,
    (∀ (core : Fin 2) pc, let recent := s.dev.expiries.filter fun x => decide (now s < x + 10 * Config.secUnits)
      (s.dev.state = .ready → firmware s = true → ∃ t, exec (.watchdog core pc) s = .next t ∧
        t.dev.state = .watchdog ∧ firmware t = false ∧ t.dev.wdog = some (core, pc, now s) ∧ t.dev.expiries = now s :: recent ∧
        t.dev.limited = (s.dev.limited || decide (2 ≤ recent.length)) ∧
        t.dev.faultCount = if 2 ≤ recent.length then satAdd s.dev.faultCount 1 else s.dev.faultCount) ∧
      (s.dev.state ≠ .ready ∨ firmware s = false → exec (.watchdog core pc) s = .next s)) ∧
    (let waits := s.dev.state = .watchdog ∧ s.dev.limited = false ∧ firmware s = false ∧ s.dev.bootStep = 0
     (waits → (∃ u, exec (.watchdogRestartDone true) s = .next (drain u) ∧ u.dev.state = .ready ∧ firmware u = true ∧
          u.dev.serviced = Vector.replicate 2 true ∧ u.dev.wdog = none ∧
          u.dev.faultCount = if s.dev.wdog.isSome then satAdd s.dev.faultCount 1 else s.dev.faultCount) ∧
        ∃ t, exec (.watchdogRestartDone false) s = .next t ∧ t.dev.bootStep = 5 ∧ t.dev.state = .watchdog ∧
          (∀ b, (t.bank b).state = .empty) ∧ t.plans.flips = [] ∧ ∀ i, (t.stream i).delivering = false) ∧
     (¬ waits → ∀ good, exec (.watchdogRestartDone good) s = .next s)) ∧
    exec .aliveToggle s = .next { s with dev := { s.dev with aliveLevel :=
      (s.dev.aliveRun && s.dev.state = .ready && vget s.dev.serviced 0 && vget s.dev.serviced 1) && !s.dev.aliveLevel } } ∧
    (∀ p absent,
      (locked s p = false → exec (.pllUnlock p absent) s = .next s) ∧
      (locked s p = true → ∃ t, exec (.pllUnlock p absent) s = .next t ∧ locked t p = false ∧
        (∀ q, q ≠ p → locked t q = locked s q) ∧
        (s.dev.state ≠ .suspended → t.dev.trefLost = (if p = 2 then absent else s.dev.trefLost) ∧
          (p = 1 ∨ p = 2 ∨ p = 3 ∨ p = 5 → t.dev.faultCount = satAdd s.dev.faultCount 1 ∧ t.dev.state = s.dev.state) ∧
          (∀ k, p = 0 ∨ p = 2 ∨ p = 3 → s.plans.epoch = some k → k ∈ t.plans.invalid)) ∧
        (s.dev.state = .suspended → t.dev.faultCount = s.dev.faultCount ∧
          (p = 2 → absent = true → t.time.raw = 0 ∧ t.time.valid = false ∧ t.dev.trefLost = true) ∧
          (p ≠ 2 ∨ absent = false → t.time = s.time)))) ∧
    (∀ p, let able := locked s p = false ∧ s.dev.powered = true ∧ s.dev.porstN = true ∧ s.dev.state ≠ .boot
      (¬ able → exec (.pllRelock p) s = .next s) ∧
      (able → ∃ t, exec (.pllRelock p) s = .next t ∧ locked t p = true ∧ (∀ q, q ≠ p → locked t q = locked s q) ∧
        t.dev.faultCount = (if s.dev.state = .suspended then s.dev.faultCount else satAdd s.dev.faultCount 1) ∧
        (p = 2 → t.dev.trefLost = false) ∧
        (p = 0 → ∀ i, (t.stream i).resumeAt = some (match s.plans.epoch with | some k => k + 1 | none => 0)))) ∧
    (let lost := locked s 3 = false ∧ engines s = true ∧ (vget s.dev.plls 3).since + 16 * Config.msUnits < now s
     (lost → ∃ t, exec .nearmemLost s = .next t ∧ t.dev.state = .fault ∧ faultLow t = s.dev.powered ∧
        t.dev.faultCount = satAdd s.dev.faultCount 1 ∧ ∀ c, c ∈ t.down.near.data ↔ c ∈ s.down.near.data ∧ nearSize s ≤ c.1) ∧
     (¬ lost → exec .nearmemLost s = .next s))

/-- FAULT_N (21 R421) is high-impedance exactly when DEV_STATE is READY or the device is unpowered, and DEV_STATE's bit 4,
which both ports and the management target read, shows it driven low. -/
def Obligations.FaultPin : Prop :=
  ∀ s : State, (faultLow s = false ↔ (s.dev.state = .ready ∨ s.dev.powered = false)) ∧
    ∀ p, bit 4 (devStateWord p s) = faultLow s

/-- The thirteen status commands over units (19 R375, R377): LANE_STATUS, VIEW_STATUS, ZOOM_STATUS, GEYSER_STATUS, BASIN_STATUS,
CALDERA_STATUS, DISPLAY_STATUS, PORT_STATUS, DMA_STATUS, EVT_STATUS, FCO_STATUS, FABRIC_STATUS and HK_STATUS. Each answers its head
and one entry for each selected unit, in rising order; without CLEAR nothing else changes, but that FCO_STATUS first takes the edges that its
outputs have measured; with it, the entries are those from before, and every selected unit is cleared. One that selects no unit, a unit
that is not there, or more than 480 bytes answers BAD_PARAM 0, and a clear mask without CLEAR BAD_PARAM 12. -/
def Claim.StatusCommands : Prop :=
  ∀ (c : Cmd) (rest : List Cmd) (s : State),
    let sel := selected (c.u 0 8)
    let law := fun (i : Instr) (domain : Fin 16) (units size : Nat) (t : State) (head : List Byte) (entry : Nat → List Byte)
        (clear : Nat → Nat → State → State) => Ready i c rest s →
      let by_ := if bit 0 (c.u 8 1) then some domain else none
      let bytes := head ++ (sel.map entry).flatten
      ((sel = [] ∨ (∃ n ∈ sel, units ≤ n) ∨ 480 < head.length + size * sel.length) →
        exec i s = .next (answer c by_ .badParam 0 [] t)) ∧
      (sel ≠ [] → (∀ n ∈ sel, n < units) → head.length + size * sel.length ≤ 480 → bit 0 (c.u 8 1) = false →
        (c.u 12 4 = 0 → exec i s = .next (answer c none .ok 0 bytes t)) ∧
        (c.u 12 4 ≠ 0 → exec i s = .next (answer c none .badParam 12 [] t))) ∧
      (sel ≠ [] → (∀ n ∈ sel, n < units) → head.length + size * sel.length ≤ 480 → bit 0 (c.u 8 1) = true →
        exec i s = .next (answer c (some domain) .ok 0 bytes (sel.foldl (fun u n => clear n (c.u 12 4) u) t)))
    let t := taken c rest s
    let w := settleFcos t
    law .laneStatus 2 46 32 t [] (laneEntry t) laneClear ∧ law .viewStatus 3 64 32 t [] (viewEntry t) viewClear ∧
      law .zoomStatus 4 32 32 t [] (zoomEntry t) zoomClear ∧ law .geyserStatus 5 16 32 t [] (seqEntry t) seqClear ∧
      law .basinStatus 6 16 32 t [] (basinEntry t) basinClear ∧ law .calderaStatus 7 2 32 t [] (calderaEntry t) calderaClearStatus ∧
      law .displayStatus 7 2 32 t [] (displayEntry t) displayClear ∧ law .portStatus 9 4 32 t [] (portEntry t) portClear ∧
      law .dmaStatus 10 32 64 t [] (dmaStatusEntry t) dmaClear ∧
      law .evtStatus 12 16 32 t [] (evtEntry t) (fun n m s => match unit 16 n with
        | none => s
        | some i => s.modIn i fun x => { x with flags := x.flags.statusClear m, suppressed := 0, lost := 0, peak := 0 }) ∧
      law .fcoStatus 12 8 32 w [] (fcoEntry w) (fun n m s => match unit 8 n with
        | none => s
        | some i => s.modFco i fun f => { f with flags := f.flags.statusClear m }) ∧
      law .fabricStatus 13 12 32 t (fabricHead t) (fabricEntry t) fabricClear ∧
      law .hkStatus 14 2 32 t [] (hkEntryBytes t) (fun n m s => match unit 2 n with
        | none => s
        | some v => s.modVent v fun x => { x with flags := x.flags.statusClear m, trigLost := 0, aborts := 0 })

/-- The two status commands of a single unit (12 R254; 14 R293; 19 R375, R377): TIME_STATUS answers 72 bytes and NEARMEM_STATUS 32;
without CLEAR nothing else changes, and a clear mask is BAD_PARAM 4; with it, the named flags, every occurrence counter and the counters
of the unit are cleared, and neither station time nor near memory. -/
def Claim.SingleStatusCommands : Prop :=
  ∀ (c : Cmd) (rest : List Cmd) (s : State),
    let t := taken c rest s
    (Ready .timeStatus c rest s → (timeStatus t).length = 72 ∧
      (bit 0 (c.u 0 1) = false → c.u 4 4 = 0 → exec .timeStatus s = .next (answer c none .ok 0 (timeStatus t) t)) ∧
      (bit 0 (c.u 0 1) = false → c.u 4 4 ≠ 0 → exec .timeStatus s = .next (answer c none .badParam 4 [] t)) ∧
      (bit 0 (c.u 0 1) = true → exec .timeStatus s = .next (answer c (some 11) .ok 0 (timeStatus t)
        { t with time := { t.time with
          flags := { now := t.time.flags.now &&& ~~~ BitVec.ofNat 7 (c.u 4 4), occ := Vector.replicate 7 0 }
          tcDropped := 0, switches := 0, ppsRejects := 0 } }))) ∧
    (Ready .nearmemStatus c rest s → (nearStatus t).length = 32 ∧
      (bit 0 (c.u 0 1) = false → c.u 4 4 = 0 → exec .nearmemStatus s = .next (answer c none .ok 0 (nearStatus t) t)) ∧
      (bit 0 (c.u 0 1) = false → c.u 4 4 ≠ 0 → exec .nearmemStatus s = .next (answer c none .badParam 4 [] t)) ∧
      (bit 0 (c.u 0 1) = true → exec .nearmemStatus s = .next (answer c (some 9) .ok 0 (nearStatus t) (t.modNear fun n =>
        { n with
          flags := { now := n.flags.now &&& ~~~ BitVec.ofNat 4 (c.u 4 4), occ := Vector.replicate 4 0 }
          retries := 0, fails := 0 }))))

/-- What the clear of a unit clears (00 R9; 04 R83, 05 R105, 06 R117, 07 R152, 09 R185, 10 R209, R210, 12 R243, 13 R274, 16 R336): the
named flags and every occurrence counter, and the unit's counters that a read clears. -/
def Claim.StatusClears : Prop :=
  ∀ (mask : Nat) (s : State),
    let cleared := fun (n : Nat) (f g : Flags n) => g.now = f.now &&& ~~~ BitVec.ofNat n mask ∧ g.occ = Vector.replicate n 0
    (∀ l : Fin 32, let x := (laneClear l.val mask s).lane l
      cleared _ (s.lane l).flags x.flags ∧ x.syncErr = 0 ∧ x.rmDeleted = 0 ∧ x.misplaced = 0 ∧ x.unknown = 0) ∧
    (∀ v : Fin 64, let x := vget (viewClear v.val mask s).plains.views v
      cleared _ (vget s.plains.views v).flags x.flags ∧ x.satCount = 0 ∧ x.skipped = 0) ∧
    (∀ z : Fin 32, let x := (zoomClear z.val mask s).zoom z
      cleared _ (s.zoom z).flags x.flags ∧ x.zsatCount = 0) ∧
    (∀ q : Fin 16, let x := vget (seqClear q.val mask s).geyser.stats q
      cleared _ (vget s.geyser.stats q).flags x.flags ∧ x.trigHeld = 0 ∧ x.lateEvents = 0 ∧ x.notArmed = 0 ∧ x.queuePeak = 0) ∧
    (∀ i : Fin 16, let x := vget (basinClear i.val mask s).basin.streams i
      cleared _ (vget s.basin.streams i).flags x.flags ∧ x.gapTiles = 0 ∧ x.badCrc = 0 ∧ x.refused = 0) ∧
    (∀ c : Fin 2, let x := planeRt (calderaClearStatus c.val mask s) c
      cleared _ (planeRt s c).flags x.flags ∧ x.incDropped = 0 ∧ x.ticksMissed = 0 ∧ x.replaced = 0 ∧ x.excluded = 0) ∧
    (∀ o : Fin 2, let x := outRt (displayClear o.val mask s) o
      cleared _ (outRt s o).flags x.flags ∧ x.underrun = 0 ∧ x.late = 0 ∧ x.retrains = 0) ∧
    (∀ p : Fin 4, let x := downPort (portClear p.val mask s) p
      cleared _ (downPort s p).flags x.flags ∧ x.reqPeak = 0 ∧ x.latMax = 0 ∧ x.errors = 0 ∧ x.linkDowns = 0) ∧
    (∀ c : Fin 32, let x := (dmaClear c.val mask s).dma c
      cleared _ (s.dma c).flags x.flags ∧ x.withdrawn = 0 ∧ x.badCrc = 0 ∧ x.overrun = 0) ∧
    ∀ f : Fin 12, let t := fabricClear f.val mask s
      cleared _ (s.fabLane f).flags (t.fabLane f).flags ∧ (t.fabLane f).crcErr = 0 ∧ (t.fabLane f).fwdLate = 0 ∧
        (t.fabLane f).unknown = 0 ∧ (t.fabLane f).linkDowns = 0 ∧ cleared _ s.fabric.flags t.fabric.flags ∧
        t.fabric.nonmember = 0 ∧ t.fabric.fabGaps = 0 ∧ t.fabric.lateDecisions = 0

/-- What the clear of a unit leaves (00 R9; 19 R377): it touches no plan, mailbox, port, record path, parameter, memory or device
state and sends nothing, so only the flags and counters of its chapter can change. -/
def Claim.StatusClearsFrame : Prop :=
  ∀ r ∈ statusRows, ∀ (n mask : Nat) (s : State),
    let t := r.clear n mask s
    t.pending = s.pending ∧ t.dev = s.dev ∧ t.ports = s.ports ∧ t.host = s.host ∧ t.plans = s.plans ∧ t.params = s.params ∧
      t.time = s.time ∧ t.records = s.records ∧ t.hostMem = s.hostMem ∧ t.out = s.out ∧ t.free = s.free ∧
      t.down.cxl = s.down.cxl ∧ t.down.drives = s.down.drives ∧ t.down.near = s.down.near

/-- The status commands and what their clears leave: the claims above, together. -/
def Obligations.StatusCommands : Prop :=
  Claim.StatusCommands ∧ Claim.SingleStatusCommands ∧ Claim.StatusClears ∧ Claim.StatusClearsFrame

/-- No command touches the queue of those that wait. -/
def Claim.QueueKept : Prop := ∀ (c : Instr) (s t : State), exec c s = .next t → t.pending = s.pending

/-- Fuses (21 R411, R412): only FUSE_PROGRAM and the end of boot step 12 write them. -/
def Claim.FusesKept : Prop :=
  ∀ (c : Instr) (s t : State), exec c s = .next t → (∀ f, c ≠ .fuseProgram f) → (∀ r, c ≠ .bootStepDone 12 r) →
    t.dev.fuses = s.dev.fuses

/-- Power and reset inputs (21 R406 to R409, R423): only the events of those inputs change them. -/
def Claim.InputsKept : Prop :=
  ∀ (c : Instr) (s t : State), exec c s = .next t → c ≠ .powerUp → c ≠ .powerDown → c ≠ .porstNAssert → c ≠ .wrstNAssert →
    c ≠ .wrstNRelease → (∀ a b d, c ≠ .porstNRelease a b d) →
    t.dev.powered = s.dev.powered ∧ t.dev.porstN = s.dev.porstN ∧ t.dev.wrstN = s.dev.wrstN

/-- What has left the part stays in the trail: a command adds to its front (the trail is the model's, log entry 3: DESIGN CHOICE). -/
def Claim.TrailGrows : Prop := ∀ (c : Instr) (s t : State), exec c s = .next t → ∃ l, t.out = l ++ s.out

/-- Queue, fuses, reset inputs and the trail: the claims above, together. -/
def Obligations.KeptByEveryCommand : Prop :=
  Claim.QueueKept ∧ Claim.FusesKept ∧ Claim.InputsKept ∧ Claim.TrailGrows

/-- Station time (14 R276, R287; 21 R408, R409, R423): no command moves it but a step by PTP, PPS_IN or TIME_SET, a reset that
restarts it, and a TREF loss before or while the device is SUSPENDED; while a bank is in use no Sync, no edge and no TIME_SET moves it
either (03 R45). -/
def Obligations.StationTimeKept : Prop :=
  (∀ (c : Instr) (s t : State), exec c s = .next t → (∀ d q w o k r, c ≠ .ptpSync d q w o k r) →
    (∀ d q o k, c ≠ .followUp d q o k) → c ≠ .ppsEdge → c ≠ .timeSet → c ≠ .porstNAssert → c ≠ .hwThermalTrip →
    c ≠ .powerUp → c ≠ .powerDown → (c = .wrstNAssert → s.dev.trefLost = false) → (c = .pllUnlock 2 true → s.dev.state ≠ .suspended) →
    t.time.raw = s.time.raw) ∧
  (∀ (c : Instr) (s t : State), anyBankBusy s = true → exec c s = .next t →
    ((∃ d q w o k r, c = .ptpSync d q w o k r) ∨ (∃ d q o k, c = .followUp d q o k) ∨ c = .ppsEdge ∨ c = .timeSet) →
    t.time.raw = s.time.raw)

/-- Every byte memory keeps its canonical form over a step: addresses strictly rising, no zero listed; and so do the cells of
the density planes. -/
def Obligations.MemoriesStayCanonical : Prop := ∀ s t : State, s.memoriesWf → step s = .next t → t.memoriesWf

/-- The state right after reset (18 R350, R355, R358, R362; 19 R384, R388; 21 R408, R413): boot step 1 with FAULT_N low, both banks
EMPTY, no command waiting, every semaphore free, every slot FREE, no ring set up, station time 0 and invalid, and every
memory in canonical form. -/
def Obligations.ResetState : Prop :=
  let s := State.reset
  s.pending = [] ∧ s.dev.state = .boot ∧ s.dev.bootStep = 1 ∧ faultLow s = true ∧ (∀ b, (s.bank b).state = .empty) ∧
    s.host.serial = [] ∧ s.host.order = 0 ∧ s.host.tieToken = false ∧ (∀ i, semOwner s i = none) ∧
    (∀ p i, (slotOf p i s).state = .free) ∧ (∀ r : Fin 16, (vget s.records.rings r).isUp = false) ∧
    (∀ i : Fin 25, (vget s.records.paths i).seq = 0) ∧ now s = 0 ∧ s.time.valid = false ∧ s.params.epochPeriod = 1000 ∧
    s.params.epochOrigin = 0 ∧ s.params.recordInterval = 10 ∧ s.memoriesWf

/-- An empty queue (the model's choice, log entry 4: DESIGN CHOICE): a step is one edge of the timebase and changes nothing but station time,
and a part that is unpowered or held in reset does not even count. -/
def Obligations.IdleStep : Prop :=
  ∀ s : State, s.pending = [] →
    (∃ t, step s = .next t ∧ t = { s with time := t.time } ∧ t.time.domains = s.time.domains ∧ t.time.valid = s.time.valid ∧
      t.time.source = s.time.source ∧ t.time.starts = s.time.starts) ∧
    ((s.dev.powered = false ∨ s.dev.porstN = false ∨ s.dev.tripHold = true) → step s = .next s) ∧
    (timebaseRuns s = true → locked s 2 = true → s.time.slew = none → s.time.freqAdj = 0 →
      ∃ t, step s = .next t ∧ t.time.raw = s.time.raw + 2 * 2 ^ 40 ∧ t.time.tclk = s.time.tclk + 1)
end

