-- ==== Sys2Proof/Laws/Memory.lean ====
section
/-! SUPPORT. The byte memories: a write keeps the canonical form, stands where it was made, and leaves every other byte;
reading is byte by byte. -/

namespace Sys2Proof.Machine

theorem cellsOf_bounds {a : Nat} {bs : List Byte} {c : Host.Cell} (h : c ∈ cellsOf a bs) :
    a ≤ c.1 ∧ c.1 < a + bs.length ∧ c.2 ≠ 0 := by
  induction bs generalizing a with
  | nil => simp [cellsOf] at h
  | cons b t ih =>
    simp only [cellsOf] at h
    split at h
    · have := ih h; refine ⟨by omega, by simp only [List.length_cons]; omega, this.2.2⟩
    · rcases List.mem_cons.mp h with rfl | h
      · simp_all
      · have := ih h; simp only [List.length_cons]; refine ⟨by omega, by omega, this.2.2⟩

theorem cellsOf_wf (a : Nat) (bs : List Byte) : Memory.wf (cellsOf a bs) := by
  induction bs generalizing a with
  | nil => exact ⟨List.Pairwise.nil, fun c hc => by simp [cellsOf] at hc⟩
  | cons b t ih =>
    simp only [cellsOf]
    split
    · exact ih _
    · rename_i hb
      refine ⟨List.pairwise_cons.mpr ⟨fun c hc => ?_, (ih _).1⟩, fun c hc => ?_⟩
      · have := cellsOf_bounds hc; simp only; omega
      · exact (cellsOf_bounds (a := a) (bs := b :: t) (by simp only [cellsOf]; rw [if_neg hb]; exact hc)).2.2

theorem Memory.wf_nil : Memory.wf [] := ⟨List.Pairwise.nil, fun c hc => by simp at hc⟩

theorem Memory.wf_filter {m : Memory} (f : Host.Cell → Bool) (h : m.wf) : Memory.wf (m.filter f) :=
  ⟨h.1.filter f, fun c hc => h.2 c (List.mem_filter.mp hc).1⟩

/-- A write keeps the canonical form. -/
theorem memWrite_wf {m : Memory} (a : Nat) (bs : List Byte) (h : m.wf) : Memory.wf (memWrite m a bs) := by
  refine ⟨?_, fun c hc => ?_⟩
  · unfold memWrite
    refine List.pairwise_append.mpr ⟨List.pairwise_append.mpr ⟨h.1.filter _, (cellsOf_wf a bs).1, ?_⟩, h.1.filter _, ?_⟩
    · intro x hx y hy
      have := cellsOf_bounds hy
      have hx := (List.mem_filter.mp hx).2
      simp at hx
      omega
    · intro x hx y hy
      have hy := (List.mem_filter.mp hy).2
      simp at hy
      rcases List.mem_append.mp hx with hx | hx
      · have hx := (List.mem_filter.mp hx).2
        simp at hx
        omega
      · have := cellsOf_bounds hx
        omega
  · unfold memWrite at hc
    rcases List.mem_append.mp hc with hc | hc
    · rcases List.mem_append.mp hc with hc | hc
      · exact h.2 c (List.mem_filter.mp hc).1
      · exact (cellsOf_bounds hc).2.2
    · exact h.2 c (List.mem_filter.mp hc).1

theorem memGet_not_mem {m : Memory} {a : Nat} (h : ∀ c ∈ m, c.1 ≠ a) : memGet m a = 0 := by
  induction m with
  | nil => rfl
  | cons c t ih =>
    obtain ⟨k, b⟩ := c
    have hk : k ≠ a := h (k, b) (by simp)
    simp only [memGet, hk, if_false]
    exact ih fun c hc => h c (by simp [hc])

theorem memGet_append {m n : Memory} (a : Nat) (h : ∀ c ∈ m, c.1 ≠ a) : memGet (m ++ n) a = memGet n a := by
  induction m with
  | nil => rfl
  | cons c t ih =>
    obtain ⟨k, b⟩ := c
    have hk : k ≠ a := h (k, b) (by simp)
    simp only [List.cons_append, memGet, hk, if_false]
    exact ih fun c hc => h c (by simp [hc])

theorem memGet_append_right {m n : Memory} (a : Nat) (h : ∀ c ∈ n, c.1 ≠ a) : memGet (m ++ n) a = memGet m a := by
  induction m with
  | nil => exact memGet_not_mem h
  | cons c t ih =>
    obtain ⟨k, b⟩ := c
    simp only [List.cons_append, memGet]
    split
    · rfl
    · exact ih

theorem memGet_filter {m : Memory} {a : Nat} (f : Host.Cell → Bool) (h : ∀ b, f (a, b) = true) :
    memGet (m.filter f) a = memGet m a := by
  induction m with
  | nil => rfl
  | cons c t ih =>
    obtain ⟨k, b⟩ := c
    by_cases hk : k = a
    · subst hk; simp [h, memGet]
    · by_cases hf : f (k, b) = true
      · simp [hf, memGet, hk, ih]
      · simp [hf, memGet, hk, ih]

theorem memGet_cellsOf (a x : Nat) (bs : List Byte) :
    memGet (cellsOf a bs) x = if a ≤ x ∧ x < a + bs.length then bs.getD (x - a) 0 else 0 := by
  induction bs generalizing a with
  | nil => simp [cellsOf, memGet]
  | cons b t ih =>
    have key : memGet (cellsOf a (b :: t)) x = if x = a then b else memGet (cellsOf (a + 1) t) x := by
      simp only [cellsOf]
      split
      · rename_i hb
        split
        · rename_i hx
          subst hx
          rw [hb]
          exact memGet_not_mem fun c hc => by have := cellsOf_bounds hc; omega
        · rfl
      · simp only [memGet]
        by_cases hx : a = x
        · simp [hx]
        · simp [hx, Ne.symm hx]
    rw [key, ih]
    by_cases hx : x = a
    · subst hx; simp
    · rw [if_neg hx]
      by_cases h1 : a + 1 ≤ x ∧ x < a + 1 + t.length
      · rw [if_pos h1, if_pos (by simp only [List.length_cons]; omega)]
        have : x - a = (x - (a + 1)) + 1 := by omega
        rw [this, List.getD_cons_succ]
      · rw [if_neg h1, if_neg (by simp only [List.length_cons]; omega)]

/-- A byte reads as written where it was written, and as before elsewhere. -/
theorem memGet_memWrite (m : Memory) (a x : Nat) (bs : List Byte) :
    memGet (memWrite m a bs) x =
      if a ≤ x ∧ x < a + bs.length then bs.getD (x - a) 0 else memGet m x := by
  unfold memWrite
  by_cases h : a ≤ x ∧ x < a + bs.length
  · rw [if_pos h, memGet_append_right, memGet_append, memGet_cellsOf, if_pos h]
    · intro c hc; have := (List.mem_filter.mp hc).2; simp at this; omega
    · intro c hc; have := (List.mem_filter.mp hc).2; simp at this; omega
  · rw [if_neg h]
    by_cases hx : x < a
    · rw [memGet_append_right, memGet_append_right, memGet_filter]
      · intro b; simpa using hx
      · intro c hc; have := cellsOf_bounds hc; omega
      · intro c hc; have := (List.mem_filter.mp hc).2; simp at this; omega
    · rw [memGet_append, memGet_filter]
      · intro b; simp; omega
      · intro c hc
        rcases List.mem_append.mp hc with hc | hc
        · have := (List.mem_filter.mp hc).2; simp at this; omega
        · have := cellsOf_bounds hc; omega

theorem expand_eq (n a : Nat) (m : Memory) (h : m.Pairwise (fun c d => c.1 < d.1)) (ha : ∀ c ∈ m, a ≤ c.1) :
    expand n a m = (List.range n).map fun i => memGet m (a + i) := by
  induction n generalizing a m with
  | zero => simp [expand]
  | succ n ih =>
    rw [List.range_succ_eq_map, List.map_cons, List.map_map]
    cases m with
    | nil =>
      refine List.ext_getElem (by simp [expand]) fun i h1 h2 => ?_
      cases i <;> simp [expand, memGet, List.replicate_succ]
    | cons c t =>
      obtain ⟨k, b⟩ := c
      have hp := List.pairwise_cons.mp h
      have hk : a ≤ k := ha (k, b) (by simp)
      simp only [expand]
      split
      · rename_i hka
        subst hka
        rw [ih _ t hp.2 (fun c hc => by have := hp.1 c hc; simp only at this; omega)]
        rw [show memGet ((k, b) :: t) (k + 0) = b by simp [memGet]]
        refine congrArg (b :: ·) (List.map_congr_left fun i _ => ?_)
        simp only [Function.comp_apply, memGet, Nat.succ_eq_add_one]
        rw [if_neg (by omega), show k + (i + 1) = k + 1 + i by omega]
      · rename_i hka
        rw [ih _ ((k, b) :: t) h (fun c hc => by
          rcases List.mem_cons.mp hc with rfl | hc
          · simp only; omega
          · have := hp.1 c hc; simp only at this; omega)]
        rw [show memGet ((k, b) :: t) (a + 0) = 0 from memGet_not_mem fun c hc => by
          rcases List.mem_cons.mp hc with rfl | hc
          · simpa using hka
          · have := hp.1 c hc; simp only at this; omega]
        refine congrArg ((0 : Byte) :: ·) (List.map_congr_left fun i _ => ?_)
        simp only [Function.comp_apply, Nat.succ_eq_add_one]
        rw [show a + (i + 1) = a + 1 + i by omega]

/-- Reading bytes is reading each byte. -/
theorem memRead_eq {m : Memory} (a n : Nat) (h : m.wf) :
    memRead m a n = (List.range n).map fun i => memGet m (a + i) := by
  unfold memRead
  rw [expand_eq _ _ _ (h.1.filter _)]
  · refine List.map_congr_left fun i _ => memGet_filter _ fun b => ?_
    simp
  · intro c hc; have := (List.mem_filter.mp hc).2; simpa using this

@[simp] theorem toLe_length (n x : Nat) : (toLe n x).length = n := by
  induction n generalizing x with
  | zero => rfl
  | succ n ih => simp [toLe, ih]

/-- A number written in `n` bytes reads back modulo 2^(8n). -/
theorem ofLe_toLe (n x : Nat) : ofLe (toLe n x) = x % 256 ^ n := by
  induction n generalizing x with
  | zero => simp [toLe, ofLe, Nat.mod_one]
  | succ n ih =>
    simp only [toLe, ofLe, ih, BitVec.toNat_ofNat]
    have := Nat.mod_mul (x := x) (a := 256) (b := 256 ^ n)
    rw [Nat.pow_succ' (n := n)]
    simpa using this.symm

/-- Bytes just written read back. -/
theorem memRead_memWrite_same {m : Memory} (a : Nat) (bs : List Byte) (h : m.wf) :
    memRead (memWrite m a bs) a bs.length = bs := by
  rw [memRead_eq _ _ (memWrite_wf a bs h)]
  refine List.ext_getElem (by simp) fun i h1 h2 => ?_
  simp only [List.getElem_map, List.getElem_range, memGet_memWrite]
  rw [if_pos (by omega)]
  simp [List.getD_eq_getElem?_getD, h2]

/-- Bytes apart from those written read as before. -/
theorem memRead_memWrite_apart {m : Memory} (a b n : Nat) (bs : List Byte) (h : m.wf)
    (hd : b + n ≤ a ∨ a + bs.length ≤ b) : memRead (memWrite m a bs) b n = memRead m b n := by
  rw [memRead_eq _ _ (memWrite_wf a bs h), memRead_eq _ _ h]
  refine List.map_congr_left fun i hi => ?_
  have := List.mem_range.mp hi
  rw [memGet_memWrite, if_neg (by omega)]

end Sys2Proof.Machine
end

