-- ==== Sys2Proof/Laws/State.lean ====
section
/-! SUPPORT. One lemma per part of State per named update, and what an update's accessor reads afterwards, so that no
proof unfolds a record update. -/

namespace Sys2Proof.Machine

variable (s : State)

@[simp] theorem State.modPort_pending (p : PortId) (f : HostPort → HostPort) : (s.modPort p f).pending = s.pending := rfl
@[simp] theorem State.modPort_free (p : PortId) (f : HostPort → HostPort) : (s.modPort p f).free = s.free := rfl
@[simp] theorem State.modPort_out (p : PortId) (f : HostPort → HostPort) : (s.modPort p f).out = s.out := rfl
@[simp] theorem State.modPort_dev (p : PortId) (f : HostPort → HostPort) : (s.modPort p f).dev = s.dev := rfl
@[simp] theorem State.modPort_host (p : PortId) (f : HostPort → HostPort) : (s.modPort p f).host = s.host := rfl
@[simp] theorem State.modPort_plans (p : PortId) (f : HostPort → HostPort) : (s.modPort p f).plans = s.plans := rfl
@[simp] theorem State.modPort_params (p : PortId) (f : HostPort → HostPort) : (s.modPort p f).params = s.params := rfl
@[simp] theorem State.modPort_time (p : PortId) (f : HostPort → HostPort) : (s.modPort p f).time = s.time := rfl
@[simp] theorem State.modPort_records (p : PortId) (f : HostPort → HostPort) : (s.modPort p f).records = s.records := rfl
@[simp] theorem State.modPort_lanes (p : PortId) (f : HostPort → HostPort) : (s.modPort p f).lanes = s.lanes := rfl
@[simp] theorem State.modPort_plains (p : PortId) (f : HostPort → HostPort) : (s.modPort p f).plains = s.plains := rfl
@[simp] theorem State.modPort_terrace (p : PortId) (f : HostPort → HostPort) : (s.modPort p f).terrace = s.terrace := rfl
@[simp] theorem State.modPort_pool (p : PortId) (f : HostPort → HostPort) : (s.modPort p f).pool = s.pool := rfl
@[simp] theorem State.modPort_geyser (p : PortId) (f : HostPort → HostPort) : (s.modPort p f).geyser = s.geyser := rfl
@[simp] theorem State.modPort_basin (p : PortId) (f : HostPort → HostPort) : (s.modPort p f).basin = s.basin := rfl
@[simp] theorem State.modPort_caldera (p : PortId) (f : HostPort → HostPort) : (s.modPort p f).caldera = s.caldera := rfl
@[simp] theorem State.modPort_down (p : PortId) (f : HostPort → HostPort) : (s.modPort p f).down = s.down := rfl
@[simp] theorem State.modPort_evt (p : PortId) (f : HostPort → HostPort) : (s.modPort p f).evt = s.evt := rfl
@[simp] theorem State.modPort_fabric (p : PortId) (f : HostPort → HostPort) : (s.modPort p f).fabric = s.fabric := rfl
@[simp] theorem State.modPort_vent (p : PortId) (f : HostPort → HostPort) : (s.modPort p f).vent = s.vent := rfl
@[simp] theorem State.modPort_hostMem (p : PortId) (f : HostPort → HostPort) : (s.modPort p f).hostMem = s.hostMem := rfl

@[simp] theorem State.modBank_pending (b : Fin 2) (f : Bank → Bank) : (s.modBank b f).pending = s.pending := rfl
@[simp] theorem State.modBank_free (b : Fin 2) (f : Bank → Bank) : (s.modBank b f).free = s.free := rfl
@[simp] theorem State.modBank_out (b : Fin 2) (f : Bank → Bank) : (s.modBank b f).out = s.out := rfl
@[simp] theorem State.modBank_dev (b : Fin 2) (f : Bank → Bank) : (s.modBank b f).dev = s.dev := rfl
@[simp] theorem State.modBank_ports (b : Fin 2) (f : Bank → Bank) : (s.modBank b f).ports = s.ports := rfl
@[simp] theorem State.modBank_host (b : Fin 2) (f : Bank → Bank) : (s.modBank b f).host = s.host := rfl
@[simp] theorem State.modBank_params (b : Fin 2) (f : Bank → Bank) : (s.modBank b f).params = s.params := rfl
@[simp] theorem State.modBank_time (b : Fin 2) (f : Bank → Bank) : (s.modBank b f).time = s.time := rfl
@[simp] theorem State.modBank_records (b : Fin 2) (f : Bank → Bank) : (s.modBank b f).records = s.records := rfl
@[simp] theorem State.modBank_lanes (b : Fin 2) (f : Bank → Bank) : (s.modBank b f).lanes = s.lanes := rfl
@[simp] theorem State.modBank_plains (b : Fin 2) (f : Bank → Bank) : (s.modBank b f).plains = s.plains := rfl
@[simp] theorem State.modBank_terrace (b : Fin 2) (f : Bank → Bank) : (s.modBank b f).terrace = s.terrace := rfl
@[simp] theorem State.modBank_pool (b : Fin 2) (f : Bank → Bank) : (s.modBank b f).pool = s.pool := rfl
@[simp] theorem State.modBank_geyser (b : Fin 2) (f : Bank → Bank) : (s.modBank b f).geyser = s.geyser := rfl
@[simp] theorem State.modBank_basin (b : Fin 2) (f : Bank → Bank) : (s.modBank b f).basin = s.basin := rfl
@[simp] theorem State.modBank_caldera (b : Fin 2) (f : Bank → Bank) : (s.modBank b f).caldera = s.caldera := rfl
@[simp] theorem State.modBank_down (b : Fin 2) (f : Bank → Bank) : (s.modBank b f).down = s.down := rfl
@[simp] theorem State.modBank_evt (b : Fin 2) (f : Bank → Bank) : (s.modBank b f).evt = s.evt := rfl
@[simp] theorem State.modBank_fabric (b : Fin 2) (f : Bank → Bank) : (s.modBank b f).fabric = s.fabric := rfl
@[simp] theorem State.modBank_vent (b : Fin 2) (f : Bank → Bank) : (s.modBank b f).vent = s.vent := rfl
@[simp] theorem State.modBank_hostMem (b : Fin 2) (f : Bank → Bank) : (s.modBank b f).hostMem = s.hostMem := rfl

@[simp] theorem State.modBound_pending (i : Fin 16) (f : Boundary → Boundary) : (s.modBound i f).pending = s.pending := rfl
@[simp] theorem State.modBound_free (i : Fin 16) (f : Boundary → Boundary) : (s.modBound i f).free = s.free := rfl
@[simp] theorem State.modBound_out (i : Fin 16) (f : Boundary → Boundary) : (s.modBound i f).out = s.out := rfl
@[simp] theorem State.modBound_dev (i : Fin 16) (f : Boundary → Boundary) : (s.modBound i f).dev = s.dev := rfl
@[simp] theorem State.modBound_ports (i : Fin 16) (f : Boundary → Boundary) : (s.modBound i f).ports = s.ports := rfl
@[simp] theorem State.modBound_host (i : Fin 16) (f : Boundary → Boundary) : (s.modBound i f).host = s.host := rfl
@[simp] theorem State.modBound_params (i : Fin 16) (f : Boundary → Boundary) : (s.modBound i f).params = s.params := rfl
@[simp] theorem State.modBound_time (i : Fin 16) (f : Boundary → Boundary) : (s.modBound i f).time = s.time := rfl
@[simp] theorem State.modBound_records (i : Fin 16) (f : Boundary → Boundary) : (s.modBound i f).records = s.records := rfl
@[simp] theorem State.modBound_lanes (i : Fin 16) (f : Boundary → Boundary) : (s.modBound i f).lanes = s.lanes := rfl
@[simp] theorem State.modBound_plains (i : Fin 16) (f : Boundary → Boundary) : (s.modBound i f).plains = s.plains := rfl
@[simp] theorem State.modBound_terrace (i : Fin 16) (f : Boundary → Boundary) : (s.modBound i f).terrace = s.terrace := rfl
@[simp] theorem State.modBound_pool (i : Fin 16) (f : Boundary → Boundary) : (s.modBound i f).pool = s.pool := rfl
@[simp] theorem State.modBound_geyser (i : Fin 16) (f : Boundary → Boundary) : (s.modBound i f).geyser = s.geyser := rfl
@[simp] theorem State.modBound_basin (i : Fin 16) (f : Boundary → Boundary) : (s.modBound i f).basin = s.basin := rfl
@[simp] theorem State.modBound_caldera (i : Fin 16) (f : Boundary → Boundary) : (s.modBound i f).caldera = s.caldera := rfl
@[simp] theorem State.modBound_down (i : Fin 16) (f : Boundary → Boundary) : (s.modBound i f).down = s.down := rfl
@[simp] theorem State.modBound_evt (i : Fin 16) (f : Boundary → Boundary) : (s.modBound i f).evt = s.evt := rfl
@[simp] theorem State.modBound_fabric (i : Fin 16) (f : Boundary → Boundary) : (s.modBound i f).fabric = s.fabric := rfl
@[simp] theorem State.modBound_vent (i : Fin 16) (f : Boundary → Boundary) : (s.modBound i f).vent = s.vent := rfl
@[simp] theorem State.modBound_hostMem (i : Fin 16) (f : Boundary → Boundary) : (s.modBound i f).hostMem = s.hostMem := rfl

@[simp] theorem State.modPath_pending (i : Fin 25) (f : RecPath → RecPath) : (s.modPath i f).pending = s.pending := rfl
@[simp] theorem State.modPath_free (i : Fin 25) (f : RecPath → RecPath) : (s.modPath i f).free = s.free := rfl
@[simp] theorem State.modPath_out (i : Fin 25) (f : RecPath → RecPath) : (s.modPath i f).out = s.out := rfl
@[simp] theorem State.modPath_dev (i : Fin 25) (f : RecPath → RecPath) : (s.modPath i f).dev = s.dev := rfl
@[simp] theorem State.modPath_ports (i : Fin 25) (f : RecPath → RecPath) : (s.modPath i f).ports = s.ports := rfl
@[simp] theorem State.modPath_host (i : Fin 25) (f : RecPath → RecPath) : (s.modPath i f).host = s.host := rfl
@[simp] theorem State.modPath_plans (i : Fin 25) (f : RecPath → RecPath) : (s.modPath i f).plans = s.plans := rfl
@[simp] theorem State.modPath_params (i : Fin 25) (f : RecPath → RecPath) : (s.modPath i f).params = s.params := rfl
@[simp] theorem State.modPath_time (i : Fin 25) (f : RecPath → RecPath) : (s.modPath i f).time = s.time := rfl
@[simp] theorem State.modPath_lanes (i : Fin 25) (f : RecPath → RecPath) : (s.modPath i f).lanes = s.lanes := rfl
@[simp] theorem State.modPath_plains (i : Fin 25) (f : RecPath → RecPath) : (s.modPath i f).plains = s.plains := rfl
@[simp] theorem State.modPath_terrace (i : Fin 25) (f : RecPath → RecPath) : (s.modPath i f).terrace = s.terrace := rfl
@[simp] theorem State.modPath_pool (i : Fin 25) (f : RecPath → RecPath) : (s.modPath i f).pool = s.pool := rfl
@[simp] theorem State.modPath_geyser (i : Fin 25) (f : RecPath → RecPath) : (s.modPath i f).geyser = s.geyser := rfl
@[simp] theorem State.modPath_basin (i : Fin 25) (f : RecPath → RecPath) : (s.modPath i f).basin = s.basin := rfl
@[simp] theorem State.modPath_caldera (i : Fin 25) (f : RecPath → RecPath) : (s.modPath i f).caldera = s.caldera := rfl
@[simp] theorem State.modPath_down (i : Fin 25) (f : RecPath → RecPath) : (s.modPath i f).down = s.down := rfl
@[simp] theorem State.modPath_evt (i : Fin 25) (f : RecPath → RecPath) : (s.modPath i f).evt = s.evt := rfl
@[simp] theorem State.modPath_fabric (i : Fin 25) (f : RecPath → RecPath) : (s.modPath i f).fabric = s.fabric := rfl
@[simp] theorem State.modPath_vent (i : Fin 25) (f : RecPath → RecPath) : (s.modPath i f).vent = s.vent := rfl
@[simp] theorem State.modPath_hostMem (i : Fin 25) (f : RecPath → RecPath) : (s.modPath i f).hostMem = s.hostMem := rfl

@[simp] theorem State.modRecRing_pending (i : Fin 16) (f : Ring → Ring) : (s.modRecRing i f).pending = s.pending := rfl
@[simp] theorem State.modRecRing_free (i : Fin 16) (f : Ring → Ring) : (s.modRecRing i f).free = s.free := rfl
@[simp] theorem State.modRecRing_out (i : Fin 16) (f : Ring → Ring) : (s.modRecRing i f).out = s.out := rfl
@[simp] theorem State.modRecRing_dev (i : Fin 16) (f : Ring → Ring) : (s.modRecRing i f).dev = s.dev := rfl
@[simp] theorem State.modRecRing_ports (i : Fin 16) (f : Ring → Ring) : (s.modRecRing i f).ports = s.ports := rfl
@[simp] theorem State.modRecRing_host (i : Fin 16) (f : Ring → Ring) : (s.modRecRing i f).host = s.host := rfl
@[simp] theorem State.modRecRing_plans (i : Fin 16) (f : Ring → Ring) : (s.modRecRing i f).plans = s.plans := rfl
@[simp] theorem State.modRecRing_params (i : Fin 16) (f : Ring → Ring) : (s.modRecRing i f).params = s.params := rfl
@[simp] theorem State.modRecRing_time (i : Fin 16) (f : Ring → Ring) : (s.modRecRing i f).time = s.time := rfl
@[simp] theorem State.modRecRing_lanes (i : Fin 16) (f : Ring → Ring) : (s.modRecRing i f).lanes = s.lanes := rfl
@[simp] theorem State.modRecRing_plains (i : Fin 16) (f : Ring → Ring) : (s.modRecRing i f).plains = s.plains := rfl
@[simp] theorem State.modRecRing_terrace (i : Fin 16) (f : Ring → Ring) : (s.modRecRing i f).terrace = s.terrace := rfl
@[simp] theorem State.modRecRing_pool (i : Fin 16) (f : Ring → Ring) : (s.modRecRing i f).pool = s.pool := rfl
@[simp] theorem State.modRecRing_geyser (i : Fin 16) (f : Ring → Ring) : (s.modRecRing i f).geyser = s.geyser := rfl
@[simp] theorem State.modRecRing_basin (i : Fin 16) (f : Ring → Ring) : (s.modRecRing i f).basin = s.basin := rfl
@[simp] theorem State.modRecRing_caldera (i : Fin 16) (f : Ring → Ring) : (s.modRecRing i f).caldera = s.caldera := rfl
@[simp] theorem State.modRecRing_down (i : Fin 16) (f : Ring → Ring) : (s.modRecRing i f).down = s.down := rfl
@[simp] theorem State.modRecRing_evt (i : Fin 16) (f : Ring → Ring) : (s.modRecRing i f).evt = s.evt := rfl
@[simp] theorem State.modRecRing_fabric (i : Fin 16) (f : Ring → Ring) : (s.modRecRing i f).fabric = s.fabric := rfl
@[simp] theorem State.modRecRing_vent (i : Fin 16) (f : Ring → Ring) : (s.modRecRing i f).vent = s.vent := rfl
@[simp] theorem State.modRecRing_hostMem (i : Fin 16) (f : Ring → Ring) : (s.modRecRing i f).hostMem = s.hostMem := rfl

@[simp] theorem State.modUdp_pending (i : Fin 8) (f : UdpDest → UdpDest) : (s.modUdp i f).pending = s.pending := rfl
@[simp] theorem State.modUdp_free (i : Fin 8) (f : UdpDest → UdpDest) : (s.modUdp i f).free = s.free := rfl
@[simp] theorem State.modUdp_out (i : Fin 8) (f : UdpDest → UdpDest) : (s.modUdp i f).out = s.out := rfl
@[simp] theorem State.modUdp_dev (i : Fin 8) (f : UdpDest → UdpDest) : (s.modUdp i f).dev = s.dev := rfl
@[simp] theorem State.modUdp_ports (i : Fin 8) (f : UdpDest → UdpDest) : (s.modUdp i f).ports = s.ports := rfl
@[simp] theorem State.modUdp_host (i : Fin 8) (f : UdpDest → UdpDest) : (s.modUdp i f).host = s.host := rfl
@[simp] theorem State.modUdp_plans (i : Fin 8) (f : UdpDest → UdpDest) : (s.modUdp i f).plans = s.plans := rfl
@[simp] theorem State.modUdp_params (i : Fin 8) (f : UdpDest → UdpDest) : (s.modUdp i f).params = s.params := rfl
@[simp] theorem State.modUdp_time (i : Fin 8) (f : UdpDest → UdpDest) : (s.modUdp i f).time = s.time := rfl
@[simp] theorem State.modUdp_lanes (i : Fin 8) (f : UdpDest → UdpDest) : (s.modUdp i f).lanes = s.lanes := rfl
@[simp] theorem State.modUdp_plains (i : Fin 8) (f : UdpDest → UdpDest) : (s.modUdp i f).plains = s.plains := rfl
@[simp] theorem State.modUdp_terrace (i : Fin 8) (f : UdpDest → UdpDest) : (s.modUdp i f).terrace = s.terrace := rfl
@[simp] theorem State.modUdp_pool (i : Fin 8) (f : UdpDest → UdpDest) : (s.modUdp i f).pool = s.pool := rfl
@[simp] theorem State.modUdp_geyser (i : Fin 8) (f : UdpDest → UdpDest) : (s.modUdp i f).geyser = s.geyser := rfl
@[simp] theorem State.modUdp_basin (i : Fin 8) (f : UdpDest → UdpDest) : (s.modUdp i f).basin = s.basin := rfl
@[simp] theorem State.modUdp_caldera (i : Fin 8) (f : UdpDest → UdpDest) : (s.modUdp i f).caldera = s.caldera := rfl
@[simp] theorem State.modUdp_down (i : Fin 8) (f : UdpDest → UdpDest) : (s.modUdp i f).down = s.down := rfl
@[simp] theorem State.modUdp_evt (i : Fin 8) (f : UdpDest → UdpDest) : (s.modUdp i f).evt = s.evt := rfl
@[simp] theorem State.modUdp_fabric (i : Fin 8) (f : UdpDest → UdpDest) : (s.modUdp i f).fabric = s.fabric := rfl
@[simp] theorem State.modUdp_vent (i : Fin 8) (f : UdpDest → UdpDest) : (s.modUdp i f).vent = s.vent := rfl
@[simp] theorem State.modUdp_hostMem (i : Fin 8) (f : UdpDest → UdpDest) : (s.modUdp i f).hostMem = s.hostMem := rfl

@[simp] theorem State.modLane_pending (i : Fin 32) (f : Lane → Lane) : (s.modLane i f).pending = s.pending := rfl
@[simp] theorem State.modLane_free (i : Fin 32) (f : Lane → Lane) : (s.modLane i f).free = s.free := rfl
@[simp] theorem State.modLane_out (i : Fin 32) (f : Lane → Lane) : (s.modLane i f).out = s.out := rfl
@[simp] theorem State.modLane_dev (i : Fin 32) (f : Lane → Lane) : (s.modLane i f).dev = s.dev := rfl
@[simp] theorem State.modLane_ports (i : Fin 32) (f : Lane → Lane) : (s.modLane i f).ports = s.ports := rfl
@[simp] theorem State.modLane_host (i : Fin 32) (f : Lane → Lane) : (s.modLane i f).host = s.host := rfl
@[simp] theorem State.modLane_plans (i : Fin 32) (f : Lane → Lane) : (s.modLane i f).plans = s.plans := rfl
@[simp] theorem State.modLane_params (i : Fin 32) (f : Lane → Lane) : (s.modLane i f).params = s.params := rfl
@[simp] theorem State.modLane_time (i : Fin 32) (f : Lane → Lane) : (s.modLane i f).time = s.time := rfl
@[simp] theorem State.modLane_records (i : Fin 32) (f : Lane → Lane) : (s.modLane i f).records = s.records := rfl
@[simp] theorem State.modLane_plains (i : Fin 32) (f : Lane → Lane) : (s.modLane i f).plains = s.plains := rfl
@[simp] theorem State.modLane_terrace (i : Fin 32) (f : Lane → Lane) : (s.modLane i f).terrace = s.terrace := rfl
@[simp] theorem State.modLane_pool (i : Fin 32) (f : Lane → Lane) : (s.modLane i f).pool = s.pool := rfl
@[simp] theorem State.modLane_geyser (i : Fin 32) (f : Lane → Lane) : (s.modLane i f).geyser = s.geyser := rfl
@[simp] theorem State.modLane_basin (i : Fin 32) (f : Lane → Lane) : (s.modLane i f).basin = s.basin := rfl
@[simp] theorem State.modLane_caldera (i : Fin 32) (f : Lane → Lane) : (s.modLane i f).caldera = s.caldera := rfl
@[simp] theorem State.modLane_down (i : Fin 32) (f : Lane → Lane) : (s.modLane i f).down = s.down := rfl
@[simp] theorem State.modLane_evt (i : Fin 32) (f : Lane → Lane) : (s.modLane i f).evt = s.evt := rfl
@[simp] theorem State.modLane_fabric (i : Fin 32) (f : Lane → Lane) : (s.modLane i f).fabric = s.fabric := rfl
@[simp] theorem State.modLane_vent (i : Fin 32) (f : Lane → Lane) : (s.modLane i f).vent = s.vent := rfl
@[simp] theorem State.modLane_hostMem (i : Fin 32) (f : Lane → Lane) : (s.modLane i f).hostMem = s.hostMem := rfl

@[simp] theorem State.modRx_pending (i : Fin 32) (f : LaneRx → LaneRx) : (s.modRx i f).pending = s.pending := rfl
@[simp] theorem State.modRx_free (i : Fin 32) (f : LaneRx → LaneRx) : (s.modRx i f).free = s.free := rfl
@[simp] theorem State.modRx_out (i : Fin 32) (f : LaneRx → LaneRx) : (s.modRx i f).out = s.out := rfl
@[simp] theorem State.modRx_dev (i : Fin 32) (f : LaneRx → LaneRx) : (s.modRx i f).dev = s.dev := rfl
@[simp] theorem State.modRx_ports (i : Fin 32) (f : LaneRx → LaneRx) : (s.modRx i f).ports = s.ports := rfl
@[simp] theorem State.modRx_host (i : Fin 32) (f : LaneRx → LaneRx) : (s.modRx i f).host = s.host := rfl
@[simp] theorem State.modRx_plans (i : Fin 32) (f : LaneRx → LaneRx) : (s.modRx i f).plans = s.plans := rfl
@[simp] theorem State.modRx_params (i : Fin 32) (f : LaneRx → LaneRx) : (s.modRx i f).params = s.params := rfl
@[simp] theorem State.modRx_time (i : Fin 32) (f : LaneRx → LaneRx) : (s.modRx i f).time = s.time := rfl
@[simp] theorem State.modRx_records (i : Fin 32) (f : LaneRx → LaneRx) : (s.modRx i f).records = s.records := rfl
@[simp] theorem State.modRx_plains (i : Fin 32) (f : LaneRx → LaneRx) : (s.modRx i f).plains = s.plains := rfl
@[simp] theorem State.modRx_terrace (i : Fin 32) (f : LaneRx → LaneRx) : (s.modRx i f).terrace = s.terrace := rfl
@[simp] theorem State.modRx_pool (i : Fin 32) (f : LaneRx → LaneRx) : (s.modRx i f).pool = s.pool := rfl
@[simp] theorem State.modRx_geyser (i : Fin 32) (f : LaneRx → LaneRx) : (s.modRx i f).geyser = s.geyser := rfl
@[simp] theorem State.modRx_basin (i : Fin 32) (f : LaneRx → LaneRx) : (s.modRx i f).basin = s.basin := rfl
@[simp] theorem State.modRx_caldera (i : Fin 32) (f : LaneRx → LaneRx) : (s.modRx i f).caldera = s.caldera := rfl
@[simp] theorem State.modRx_down (i : Fin 32) (f : LaneRx → LaneRx) : (s.modRx i f).down = s.down := rfl
@[simp] theorem State.modRx_evt (i : Fin 32) (f : LaneRx → LaneRx) : (s.modRx i f).evt = s.evt := rfl
@[simp] theorem State.modRx_fabric (i : Fin 32) (f : LaneRx → LaneRx) : (s.modRx i f).fabric = s.fabric := rfl
@[simp] theorem State.modRx_vent (i : Fin 32) (f : LaneRx → LaneRx) : (s.modRx i f).vent = s.vent := rfl
@[simp] theorem State.modRx_hostMem (i : Fin 32) (f : LaneRx → LaneRx) : (s.modRx i f).hostMem = s.hostMem := rfl

@[simp] theorem State.modStream_pending (i : Fin 16) (f : StreamRt → StreamRt) : (s.modStream i f).pending = s.pending := rfl
@[simp] theorem State.modStream_free (i : Fin 16) (f : StreamRt → StreamRt) : (s.modStream i f).free = s.free := rfl
@[simp] theorem State.modStream_out (i : Fin 16) (f : StreamRt → StreamRt) : (s.modStream i f).out = s.out := rfl
@[simp] theorem State.modStream_dev (i : Fin 16) (f : StreamRt → StreamRt) : (s.modStream i f).dev = s.dev := rfl
@[simp] theorem State.modStream_ports (i : Fin 16) (f : StreamRt → StreamRt) : (s.modStream i f).ports = s.ports := rfl
@[simp] theorem State.modStream_host (i : Fin 16) (f : StreamRt → StreamRt) : (s.modStream i f).host = s.host := rfl
@[simp] theorem State.modStream_plans (i : Fin 16) (f : StreamRt → StreamRt) : (s.modStream i f).plans = s.plans := rfl
@[simp] theorem State.modStream_params (i : Fin 16) (f : StreamRt → StreamRt) : (s.modStream i f).params = s.params := rfl
@[simp] theorem State.modStream_time (i : Fin 16) (f : StreamRt → StreamRt) : (s.modStream i f).time = s.time := rfl
@[simp] theorem State.modStream_records (i : Fin 16) (f : StreamRt → StreamRt) : (s.modStream i f).records = s.records := rfl
@[simp] theorem State.modStream_plains (i : Fin 16) (f : StreamRt → StreamRt) : (s.modStream i f).plains = s.plains := rfl
@[simp] theorem State.modStream_terrace (i : Fin 16) (f : StreamRt → StreamRt) : (s.modStream i f).terrace = s.terrace := rfl
@[simp] theorem State.modStream_pool (i : Fin 16) (f : StreamRt → StreamRt) : (s.modStream i f).pool = s.pool := rfl
@[simp] theorem State.modStream_geyser (i : Fin 16) (f : StreamRt → StreamRt) : (s.modStream i f).geyser = s.geyser := rfl
@[simp] theorem State.modStream_basin (i : Fin 16) (f : StreamRt → StreamRt) : (s.modStream i f).basin = s.basin := rfl
@[simp] theorem State.modStream_caldera (i : Fin 16) (f : StreamRt → StreamRt) : (s.modStream i f).caldera = s.caldera := rfl
@[simp] theorem State.modStream_down (i : Fin 16) (f : StreamRt → StreamRt) : (s.modStream i f).down = s.down := rfl
@[simp] theorem State.modStream_evt (i : Fin 16) (f : StreamRt → StreamRt) : (s.modStream i f).evt = s.evt := rfl
@[simp] theorem State.modStream_fabric (i : Fin 16) (f : StreamRt → StreamRt) : (s.modStream i f).fabric = s.fabric := rfl
@[simp] theorem State.modStream_vent (i : Fin 16) (f : StreamRt → StreamRt) : (s.modStream i f).vent = s.vent := rfl
@[simp] theorem State.modStream_hostMem (i : Fin 16) (f : StreamRt → StreamRt) : (s.modStream i f).hostMem = s.hostMem := rfl

@[simp] theorem State.modView_pending (i : Fin 64) (f : ViewRt → ViewRt) : (s.modView i f).pending = s.pending := rfl
@[simp] theorem State.modView_free (i : Fin 64) (f : ViewRt → ViewRt) : (s.modView i f).free = s.free := rfl
@[simp] theorem State.modView_out (i : Fin 64) (f : ViewRt → ViewRt) : (s.modView i f).out = s.out := rfl
@[simp] theorem State.modView_dev (i : Fin 64) (f : ViewRt → ViewRt) : (s.modView i f).dev = s.dev := rfl
@[simp] theorem State.modView_ports (i : Fin 64) (f : ViewRt → ViewRt) : (s.modView i f).ports = s.ports := rfl
@[simp] theorem State.modView_host (i : Fin 64) (f : ViewRt → ViewRt) : (s.modView i f).host = s.host := rfl
@[simp] theorem State.modView_plans (i : Fin 64) (f : ViewRt → ViewRt) : (s.modView i f).plans = s.plans := rfl
@[simp] theorem State.modView_params (i : Fin 64) (f : ViewRt → ViewRt) : (s.modView i f).params = s.params := rfl
@[simp] theorem State.modView_time (i : Fin 64) (f : ViewRt → ViewRt) : (s.modView i f).time = s.time := rfl
@[simp] theorem State.modView_records (i : Fin 64) (f : ViewRt → ViewRt) : (s.modView i f).records = s.records := rfl
@[simp] theorem State.modView_lanes (i : Fin 64) (f : ViewRt → ViewRt) : (s.modView i f).lanes = s.lanes := rfl
@[simp] theorem State.modView_terrace (i : Fin 64) (f : ViewRt → ViewRt) : (s.modView i f).terrace = s.terrace := rfl
@[simp] theorem State.modView_pool (i : Fin 64) (f : ViewRt → ViewRt) : (s.modView i f).pool = s.pool := rfl
@[simp] theorem State.modView_geyser (i : Fin 64) (f : ViewRt → ViewRt) : (s.modView i f).geyser = s.geyser := rfl
@[simp] theorem State.modView_basin (i : Fin 64) (f : ViewRt → ViewRt) : (s.modView i f).basin = s.basin := rfl
@[simp] theorem State.modView_caldera (i : Fin 64) (f : ViewRt → ViewRt) : (s.modView i f).caldera = s.caldera := rfl
@[simp] theorem State.modView_down (i : Fin 64) (f : ViewRt → ViewRt) : (s.modView i f).down = s.down := rfl
@[simp] theorem State.modView_evt (i : Fin 64) (f : ViewRt → ViewRt) : (s.modView i f).evt = s.evt := rfl
@[simp] theorem State.modView_fabric (i : Fin 64) (f : ViewRt → ViewRt) : (s.modView i f).fabric = s.fabric := rfl
@[simp] theorem State.modView_vent (i : Fin 64) (f : ViewRt → ViewRt) : (s.modView i f).vent = s.vent := rfl
@[simp] theorem State.modView_hostMem (i : Fin 64) (f : ViewRt → ViewRt) : (s.modView i f).hostMem = s.hostMem := rfl

@[simp] theorem State.modZoom_pending (i : Fin 32) (f : ZoomRt → ZoomRt) : (s.modZoom i f).pending = s.pending := rfl
@[simp] theorem State.modZoom_free (i : Fin 32) (f : ZoomRt → ZoomRt) : (s.modZoom i f).free = s.free := rfl
@[simp] theorem State.modZoom_out (i : Fin 32) (f : ZoomRt → ZoomRt) : (s.modZoom i f).out = s.out := rfl
@[simp] theorem State.modZoom_dev (i : Fin 32) (f : ZoomRt → ZoomRt) : (s.modZoom i f).dev = s.dev := rfl
@[simp] theorem State.modZoom_ports (i : Fin 32) (f : ZoomRt → ZoomRt) : (s.modZoom i f).ports = s.ports := rfl
@[simp] theorem State.modZoom_host (i : Fin 32) (f : ZoomRt → ZoomRt) : (s.modZoom i f).host = s.host := rfl
@[simp] theorem State.modZoom_plans (i : Fin 32) (f : ZoomRt → ZoomRt) : (s.modZoom i f).plans = s.plans := rfl
@[simp] theorem State.modZoom_params (i : Fin 32) (f : ZoomRt → ZoomRt) : (s.modZoom i f).params = s.params := rfl
@[simp] theorem State.modZoom_time (i : Fin 32) (f : ZoomRt → ZoomRt) : (s.modZoom i f).time = s.time := rfl
@[simp] theorem State.modZoom_records (i : Fin 32) (f : ZoomRt → ZoomRt) : (s.modZoom i f).records = s.records := rfl
@[simp] theorem State.modZoom_lanes (i : Fin 32) (f : ZoomRt → ZoomRt) : (s.modZoom i f).lanes = s.lanes := rfl
@[simp] theorem State.modZoom_plains (i : Fin 32) (f : ZoomRt → ZoomRt) : (s.modZoom i f).plains = s.plains := rfl
@[simp] theorem State.modZoom_pool (i : Fin 32) (f : ZoomRt → ZoomRt) : (s.modZoom i f).pool = s.pool := rfl
@[simp] theorem State.modZoom_geyser (i : Fin 32) (f : ZoomRt → ZoomRt) : (s.modZoom i f).geyser = s.geyser := rfl
@[simp] theorem State.modZoom_basin (i : Fin 32) (f : ZoomRt → ZoomRt) : (s.modZoom i f).basin = s.basin := rfl
@[simp] theorem State.modZoom_caldera (i : Fin 32) (f : ZoomRt → ZoomRt) : (s.modZoom i f).caldera = s.caldera := rfl
@[simp] theorem State.modZoom_down (i : Fin 32) (f : ZoomRt → ZoomRt) : (s.modZoom i f).down = s.down := rfl
@[simp] theorem State.modZoom_evt (i : Fin 32) (f : ZoomRt → ZoomRt) : (s.modZoom i f).evt = s.evt := rfl
@[simp] theorem State.modZoom_fabric (i : Fin 32) (f : ZoomRt → ZoomRt) : (s.modZoom i f).fabric = s.fabric := rfl
@[simp] theorem State.modZoom_vent (i : Fin 32) (f : ZoomRt → ZoomRt) : (s.modZoom i f).vent = s.vent := rfl
@[simp] theorem State.modZoom_hostMem (i : Fin 32) (f : ZoomRt → ZoomRt) : (s.modZoom i f).hostMem = s.hostMem := rfl

@[simp] theorem State.modPool_pending (i : Fin 64) (f : PoolRt → PoolRt) : (s.modPool i f).pending = s.pending := rfl
@[simp] theorem State.modPool_free (i : Fin 64) (f : PoolRt → PoolRt) : (s.modPool i f).free = s.free := rfl
@[simp] theorem State.modPool_out (i : Fin 64) (f : PoolRt → PoolRt) : (s.modPool i f).out = s.out := rfl
@[simp] theorem State.modPool_dev (i : Fin 64) (f : PoolRt → PoolRt) : (s.modPool i f).dev = s.dev := rfl
@[simp] theorem State.modPool_ports (i : Fin 64) (f : PoolRt → PoolRt) : (s.modPool i f).ports = s.ports := rfl
@[simp] theorem State.modPool_host (i : Fin 64) (f : PoolRt → PoolRt) : (s.modPool i f).host = s.host := rfl
@[simp] theorem State.modPool_plans (i : Fin 64) (f : PoolRt → PoolRt) : (s.modPool i f).plans = s.plans := rfl
@[simp] theorem State.modPool_params (i : Fin 64) (f : PoolRt → PoolRt) : (s.modPool i f).params = s.params := rfl
@[simp] theorem State.modPool_time (i : Fin 64) (f : PoolRt → PoolRt) : (s.modPool i f).time = s.time := rfl
@[simp] theorem State.modPool_records (i : Fin 64) (f : PoolRt → PoolRt) : (s.modPool i f).records = s.records := rfl
@[simp] theorem State.modPool_lanes (i : Fin 64) (f : PoolRt → PoolRt) : (s.modPool i f).lanes = s.lanes := rfl
@[simp] theorem State.modPool_plains (i : Fin 64) (f : PoolRt → PoolRt) : (s.modPool i f).plains = s.plains := rfl
@[simp] theorem State.modPool_terrace (i : Fin 64) (f : PoolRt → PoolRt) : (s.modPool i f).terrace = s.terrace := rfl
@[simp] theorem State.modPool_geyser (i : Fin 64) (f : PoolRt → PoolRt) : (s.modPool i f).geyser = s.geyser := rfl
@[simp] theorem State.modPool_basin (i : Fin 64) (f : PoolRt → PoolRt) : (s.modPool i f).basin = s.basin := rfl
@[simp] theorem State.modPool_caldera (i : Fin 64) (f : PoolRt → PoolRt) : (s.modPool i f).caldera = s.caldera := rfl
@[simp] theorem State.modPool_down (i : Fin 64) (f : PoolRt → PoolRt) : (s.modPool i f).down = s.down := rfl
@[simp] theorem State.modPool_evt (i : Fin 64) (f : PoolRt → PoolRt) : (s.modPool i f).evt = s.evt := rfl
@[simp] theorem State.modPool_fabric (i : Fin 64) (f : PoolRt → PoolRt) : (s.modPool i f).fabric = s.fabric := rfl
@[simp] theorem State.modPool_vent (i : Fin 64) (f : PoolRt → PoolRt) : (s.modPool i f).vent = s.vent := rfl
@[simp] theorem State.modPool_hostMem (i : Fin 64) (f : PoolRt → PoolRt) : (s.modPool i f).hostMem = s.hostMem := rfl

@[simp] theorem State.modSeq_pending (i : Fin 16) (f : Seq → Seq) : (s.modSeq i f).pending = s.pending := rfl
@[simp] theorem State.modSeq_free (i : Fin 16) (f : Seq → Seq) : (s.modSeq i f).free = s.free := rfl
@[simp] theorem State.modSeq_out (i : Fin 16) (f : Seq → Seq) : (s.modSeq i f).out = s.out := rfl
@[simp] theorem State.modSeq_dev (i : Fin 16) (f : Seq → Seq) : (s.modSeq i f).dev = s.dev := rfl
@[simp] theorem State.modSeq_ports (i : Fin 16) (f : Seq → Seq) : (s.modSeq i f).ports = s.ports := rfl
@[simp] theorem State.modSeq_host (i : Fin 16) (f : Seq → Seq) : (s.modSeq i f).host = s.host := rfl
@[simp] theorem State.modSeq_plans (i : Fin 16) (f : Seq → Seq) : (s.modSeq i f).plans = s.plans := rfl
@[simp] theorem State.modSeq_params (i : Fin 16) (f : Seq → Seq) : (s.modSeq i f).params = s.params := rfl
@[simp] theorem State.modSeq_time (i : Fin 16) (f : Seq → Seq) : (s.modSeq i f).time = s.time := rfl
@[simp] theorem State.modSeq_records (i : Fin 16) (f : Seq → Seq) : (s.modSeq i f).records = s.records := rfl
@[simp] theorem State.modSeq_lanes (i : Fin 16) (f : Seq → Seq) : (s.modSeq i f).lanes = s.lanes := rfl
@[simp] theorem State.modSeq_plains (i : Fin 16) (f : Seq → Seq) : (s.modSeq i f).plains = s.plains := rfl
@[simp] theorem State.modSeq_terrace (i : Fin 16) (f : Seq → Seq) : (s.modSeq i f).terrace = s.terrace := rfl
@[simp] theorem State.modSeq_pool (i : Fin 16) (f : Seq → Seq) : (s.modSeq i f).pool = s.pool := rfl
@[simp] theorem State.modSeq_basin (i : Fin 16) (f : Seq → Seq) : (s.modSeq i f).basin = s.basin := rfl
@[simp] theorem State.modSeq_caldera (i : Fin 16) (f : Seq → Seq) : (s.modSeq i f).caldera = s.caldera := rfl
@[simp] theorem State.modSeq_down (i : Fin 16) (f : Seq → Seq) : (s.modSeq i f).down = s.down := rfl
@[simp] theorem State.modSeq_evt (i : Fin 16) (f : Seq → Seq) : (s.modSeq i f).evt = s.evt := rfl
@[simp] theorem State.modSeq_fabric (i : Fin 16) (f : Seq → Seq) : (s.modSeq i f).fabric = s.fabric := rfl
@[simp] theorem State.modSeq_vent (i : Fin 16) (f : Seq → Seq) : (s.modSeq i f).vent = s.vent := rfl
@[simp] theorem State.modSeq_hostMem (i : Fin 16) (f : Seq → Seq) : (s.modSeq i f).hostMem = s.hostMem := rfl

@[simp] theorem State.modStat_pending (i : Fin 16) (f : SeqStat → SeqStat) : (s.modStat i f).pending = s.pending := rfl
@[simp] theorem State.modStat_free (i : Fin 16) (f : SeqStat → SeqStat) : (s.modStat i f).free = s.free := rfl
@[simp] theorem State.modStat_out (i : Fin 16) (f : SeqStat → SeqStat) : (s.modStat i f).out = s.out := rfl
@[simp] theorem State.modStat_dev (i : Fin 16) (f : SeqStat → SeqStat) : (s.modStat i f).dev = s.dev := rfl
@[simp] theorem State.modStat_ports (i : Fin 16) (f : SeqStat → SeqStat) : (s.modStat i f).ports = s.ports := rfl
@[simp] theorem State.modStat_host (i : Fin 16) (f : SeqStat → SeqStat) : (s.modStat i f).host = s.host := rfl
@[simp] theorem State.modStat_plans (i : Fin 16) (f : SeqStat → SeqStat) : (s.modStat i f).plans = s.plans := rfl
@[simp] theorem State.modStat_params (i : Fin 16) (f : SeqStat → SeqStat) : (s.modStat i f).params = s.params := rfl
@[simp] theorem State.modStat_time (i : Fin 16) (f : SeqStat → SeqStat) : (s.modStat i f).time = s.time := rfl
@[simp] theorem State.modStat_records (i : Fin 16) (f : SeqStat → SeqStat) : (s.modStat i f).records = s.records := rfl
@[simp] theorem State.modStat_lanes (i : Fin 16) (f : SeqStat → SeqStat) : (s.modStat i f).lanes = s.lanes := rfl
@[simp] theorem State.modStat_plains (i : Fin 16) (f : SeqStat → SeqStat) : (s.modStat i f).plains = s.plains := rfl
@[simp] theorem State.modStat_terrace (i : Fin 16) (f : SeqStat → SeqStat) : (s.modStat i f).terrace = s.terrace := rfl
@[simp] theorem State.modStat_pool (i : Fin 16) (f : SeqStat → SeqStat) : (s.modStat i f).pool = s.pool := rfl
@[simp] theorem State.modStat_basin (i : Fin 16) (f : SeqStat → SeqStat) : (s.modStat i f).basin = s.basin := rfl
@[simp] theorem State.modStat_caldera (i : Fin 16) (f : SeqStat → SeqStat) : (s.modStat i f).caldera = s.caldera := rfl
@[simp] theorem State.modStat_down (i : Fin 16) (f : SeqStat → SeqStat) : (s.modStat i f).down = s.down := rfl
@[simp] theorem State.modStat_evt (i : Fin 16) (f : SeqStat → SeqStat) : (s.modStat i f).evt = s.evt := rfl
@[simp] theorem State.modStat_fabric (i : Fin 16) (f : SeqStat → SeqStat) : (s.modStat i f).fabric = s.fabric := rfl
@[simp] theorem State.modStat_vent (i : Fin 16) (f : SeqStat → SeqStat) : (s.modStat i f).vent = s.vent := rfl
@[simp] theorem State.modStat_hostMem (i : Fin 16) (f : SeqStat → SeqStat) : (s.modStat i f).hostMem = s.hostMem := rfl

@[simp] theorem State.modBasin_pending (i : Fin 16) (f : BasinRt → BasinRt) : (s.modBasin i f).pending = s.pending := rfl
@[simp] theorem State.modBasin_free (i : Fin 16) (f : BasinRt → BasinRt) : (s.modBasin i f).free = s.free := rfl
@[simp] theorem State.modBasin_out (i : Fin 16) (f : BasinRt → BasinRt) : (s.modBasin i f).out = s.out := rfl
@[simp] theorem State.modBasin_dev (i : Fin 16) (f : BasinRt → BasinRt) : (s.modBasin i f).dev = s.dev := rfl
@[simp] theorem State.modBasin_ports (i : Fin 16) (f : BasinRt → BasinRt) : (s.modBasin i f).ports = s.ports := rfl
@[simp] theorem State.modBasin_host (i : Fin 16) (f : BasinRt → BasinRt) : (s.modBasin i f).host = s.host := rfl
@[simp] theorem State.modBasin_plans (i : Fin 16) (f : BasinRt → BasinRt) : (s.modBasin i f).plans = s.plans := rfl
@[simp] theorem State.modBasin_params (i : Fin 16) (f : BasinRt → BasinRt) : (s.modBasin i f).params = s.params := rfl
@[simp] theorem State.modBasin_time (i : Fin 16) (f : BasinRt → BasinRt) : (s.modBasin i f).time = s.time := rfl
@[simp] theorem State.modBasin_records (i : Fin 16) (f : BasinRt → BasinRt) : (s.modBasin i f).records = s.records := rfl
@[simp] theorem State.modBasin_lanes (i : Fin 16) (f : BasinRt → BasinRt) : (s.modBasin i f).lanes = s.lanes := rfl
@[simp] theorem State.modBasin_plains (i : Fin 16) (f : BasinRt → BasinRt) : (s.modBasin i f).plains = s.plains := rfl
@[simp] theorem State.modBasin_terrace (i : Fin 16) (f : BasinRt → BasinRt) : (s.modBasin i f).terrace = s.terrace := rfl
@[simp] theorem State.modBasin_pool (i : Fin 16) (f : BasinRt → BasinRt) : (s.modBasin i f).pool = s.pool := rfl
@[simp] theorem State.modBasin_geyser (i : Fin 16) (f : BasinRt → BasinRt) : (s.modBasin i f).geyser = s.geyser := rfl
@[simp] theorem State.modBasin_caldera (i : Fin 16) (f : BasinRt → BasinRt) : (s.modBasin i f).caldera = s.caldera := rfl
@[simp] theorem State.modBasin_down (i : Fin 16) (f : BasinRt → BasinRt) : (s.modBasin i f).down = s.down := rfl
@[simp] theorem State.modBasin_evt (i : Fin 16) (f : BasinRt → BasinRt) : (s.modBasin i f).evt = s.evt := rfl
@[simp] theorem State.modBasin_fabric (i : Fin 16) (f : BasinRt → BasinRt) : (s.modBasin i f).fabric = s.fabric := rfl
@[simp] theorem State.modBasin_vent (i : Fin 16) (f : BasinRt → BasinRt) : (s.modBasin i f).vent = s.vent := rfl
@[simp] theorem State.modBasin_hostMem (i : Fin 16) (f : BasinRt → BasinRt) : (s.modBasin i f).hostMem = s.hostMem := rfl

@[simp] theorem State.modArchive_pending (i : Fin 16) (f : ArchiveRt → ArchiveRt) : (s.modArchive i f).pending = s.pending := rfl
@[simp] theorem State.modArchive_free (i : Fin 16) (f : ArchiveRt → ArchiveRt) : (s.modArchive i f).free = s.free := rfl
@[simp] theorem State.modArchive_out (i : Fin 16) (f : ArchiveRt → ArchiveRt) : (s.modArchive i f).out = s.out := rfl
@[simp] theorem State.modArchive_dev (i : Fin 16) (f : ArchiveRt → ArchiveRt) : (s.modArchive i f).dev = s.dev := rfl
@[simp] theorem State.modArchive_ports (i : Fin 16) (f : ArchiveRt → ArchiveRt) : (s.modArchive i f).ports = s.ports := rfl
@[simp] theorem State.modArchive_host (i : Fin 16) (f : ArchiveRt → ArchiveRt) : (s.modArchive i f).host = s.host := rfl
@[simp] theorem State.modArchive_plans (i : Fin 16) (f : ArchiveRt → ArchiveRt) : (s.modArchive i f).plans = s.plans := rfl
@[simp] theorem State.modArchive_params (i : Fin 16) (f : ArchiveRt → ArchiveRt) : (s.modArchive i f).params = s.params := rfl
@[simp] theorem State.modArchive_time (i : Fin 16) (f : ArchiveRt → ArchiveRt) : (s.modArchive i f).time = s.time := rfl
@[simp] theorem State.modArchive_records (i : Fin 16) (f : ArchiveRt → ArchiveRt) : (s.modArchive i f).records = s.records := rfl
@[simp] theorem State.modArchive_lanes (i : Fin 16) (f : ArchiveRt → ArchiveRt) : (s.modArchive i f).lanes = s.lanes := rfl
@[simp] theorem State.modArchive_plains (i : Fin 16) (f : ArchiveRt → ArchiveRt) : (s.modArchive i f).plains = s.plains := rfl
@[simp] theorem State.modArchive_terrace (i : Fin 16) (f : ArchiveRt → ArchiveRt) : (s.modArchive i f).terrace = s.terrace := rfl
@[simp] theorem State.modArchive_pool (i : Fin 16) (f : ArchiveRt → ArchiveRt) : (s.modArchive i f).pool = s.pool := rfl
@[simp] theorem State.modArchive_geyser (i : Fin 16) (f : ArchiveRt → ArchiveRt) : (s.modArchive i f).geyser = s.geyser := rfl
@[simp] theorem State.modArchive_caldera (i : Fin 16) (f : ArchiveRt → ArchiveRt) : (s.modArchive i f).caldera = s.caldera := rfl
@[simp] theorem State.modArchive_down (i : Fin 16) (f : ArchiveRt → ArchiveRt) : (s.modArchive i f).down = s.down := rfl
@[simp] theorem State.modArchive_evt (i : Fin 16) (f : ArchiveRt → ArchiveRt) : (s.modArchive i f).evt = s.evt := rfl
@[simp] theorem State.modArchive_fabric (i : Fin 16) (f : ArchiveRt → ArchiveRt) : (s.modArchive i f).fabric = s.fabric := rfl
@[simp] theorem State.modArchive_vent (i : Fin 16) (f : ArchiveRt → ArchiveRt) : (s.modArchive i f).vent = s.vent := rfl
@[simp] theorem State.modArchive_hostMem (i : Fin 16) (f : ArchiveRt → ArchiveRt) : (s.modArchive i f).hostMem = s.hostMem := rfl

@[simp] theorem State.modPlane_pending (i : Fin 2) (f : PlaneRt → PlaneRt) : (s.modPlane i f).pending = s.pending := rfl
@[simp] theorem State.modPlane_free (i : Fin 2) (f : PlaneRt → PlaneRt) : (s.modPlane i f).free = s.free := rfl
@[simp] theorem State.modPlane_out (i : Fin 2) (f : PlaneRt → PlaneRt) : (s.modPlane i f).out = s.out := rfl
@[simp] theorem State.modPlane_dev (i : Fin 2) (f : PlaneRt → PlaneRt) : (s.modPlane i f).dev = s.dev := rfl
@[simp] theorem State.modPlane_ports (i : Fin 2) (f : PlaneRt → PlaneRt) : (s.modPlane i f).ports = s.ports := rfl
@[simp] theorem State.modPlane_host (i : Fin 2) (f : PlaneRt → PlaneRt) : (s.modPlane i f).host = s.host := rfl
@[simp] theorem State.modPlane_plans (i : Fin 2) (f : PlaneRt → PlaneRt) : (s.modPlane i f).plans = s.plans := rfl
@[simp] theorem State.modPlane_params (i : Fin 2) (f : PlaneRt → PlaneRt) : (s.modPlane i f).params = s.params := rfl
@[simp] theorem State.modPlane_time (i : Fin 2) (f : PlaneRt → PlaneRt) : (s.modPlane i f).time = s.time := rfl
@[simp] theorem State.modPlane_records (i : Fin 2) (f : PlaneRt → PlaneRt) : (s.modPlane i f).records = s.records := rfl
@[simp] theorem State.modPlane_lanes (i : Fin 2) (f : PlaneRt → PlaneRt) : (s.modPlane i f).lanes = s.lanes := rfl
@[simp] theorem State.modPlane_plains (i : Fin 2) (f : PlaneRt → PlaneRt) : (s.modPlane i f).plains = s.plains := rfl
@[simp] theorem State.modPlane_terrace (i : Fin 2) (f : PlaneRt → PlaneRt) : (s.modPlane i f).terrace = s.terrace := rfl
@[simp] theorem State.modPlane_pool (i : Fin 2) (f : PlaneRt → PlaneRt) : (s.modPlane i f).pool = s.pool := rfl
@[simp] theorem State.modPlane_geyser (i : Fin 2) (f : PlaneRt → PlaneRt) : (s.modPlane i f).geyser = s.geyser := rfl
@[simp] theorem State.modPlane_basin (i : Fin 2) (f : PlaneRt → PlaneRt) : (s.modPlane i f).basin = s.basin := rfl
@[simp] theorem State.modPlane_down (i : Fin 2) (f : PlaneRt → PlaneRt) : (s.modPlane i f).down = s.down := rfl
@[simp] theorem State.modPlane_evt (i : Fin 2) (f : PlaneRt → PlaneRt) : (s.modPlane i f).evt = s.evt := rfl
@[simp] theorem State.modPlane_fabric (i : Fin 2) (f : PlaneRt → PlaneRt) : (s.modPlane i f).fabric = s.fabric := rfl
@[simp] theorem State.modPlane_vent (i : Fin 2) (f : PlaneRt → PlaneRt) : (s.modPlane i f).vent = s.vent := rfl
@[simp] theorem State.modPlane_hostMem (i : Fin 2) (f : PlaneRt → PlaneRt) : (s.modPlane i f).hostMem = s.hostMem := rfl

@[simp] theorem State.modOutput_pending (i : Fin 2) (f : OutputRt → OutputRt) : (s.modOutput i f).pending = s.pending := rfl
@[simp] theorem State.modOutput_free (i : Fin 2) (f : OutputRt → OutputRt) : (s.modOutput i f).free = s.free := rfl
@[simp] theorem State.modOutput_out (i : Fin 2) (f : OutputRt → OutputRt) : (s.modOutput i f).out = s.out := rfl
@[simp] theorem State.modOutput_dev (i : Fin 2) (f : OutputRt → OutputRt) : (s.modOutput i f).dev = s.dev := rfl
@[simp] theorem State.modOutput_ports (i : Fin 2) (f : OutputRt → OutputRt) : (s.modOutput i f).ports = s.ports := rfl
@[simp] theorem State.modOutput_host (i : Fin 2) (f : OutputRt → OutputRt) : (s.modOutput i f).host = s.host := rfl
@[simp] theorem State.modOutput_plans (i : Fin 2) (f : OutputRt → OutputRt) : (s.modOutput i f).plans = s.plans := rfl
@[simp] theorem State.modOutput_params (i : Fin 2) (f : OutputRt → OutputRt) : (s.modOutput i f).params = s.params := rfl
@[simp] theorem State.modOutput_time (i : Fin 2) (f : OutputRt → OutputRt) : (s.modOutput i f).time = s.time := rfl
@[simp] theorem State.modOutput_records (i : Fin 2) (f : OutputRt → OutputRt) : (s.modOutput i f).records = s.records := rfl
@[simp] theorem State.modOutput_lanes (i : Fin 2) (f : OutputRt → OutputRt) : (s.modOutput i f).lanes = s.lanes := rfl
@[simp] theorem State.modOutput_plains (i : Fin 2) (f : OutputRt → OutputRt) : (s.modOutput i f).plains = s.plains := rfl
@[simp] theorem State.modOutput_terrace (i : Fin 2) (f : OutputRt → OutputRt) : (s.modOutput i f).terrace = s.terrace := rfl
@[simp] theorem State.modOutput_pool (i : Fin 2) (f : OutputRt → OutputRt) : (s.modOutput i f).pool = s.pool := rfl
@[simp] theorem State.modOutput_geyser (i : Fin 2) (f : OutputRt → OutputRt) : (s.modOutput i f).geyser = s.geyser := rfl
@[simp] theorem State.modOutput_basin (i : Fin 2) (f : OutputRt → OutputRt) : (s.modOutput i f).basin = s.basin := rfl
@[simp] theorem State.modOutput_down (i : Fin 2) (f : OutputRt → OutputRt) : (s.modOutput i f).down = s.down := rfl
@[simp] theorem State.modOutput_evt (i : Fin 2) (f : OutputRt → OutputRt) : (s.modOutput i f).evt = s.evt := rfl
@[simp] theorem State.modOutput_fabric (i : Fin 2) (f : OutputRt → OutputRt) : (s.modOutput i f).fabric = s.fabric := rfl
@[simp] theorem State.modOutput_vent (i : Fin 2) (f : OutputRt → OutputRt) : (s.modOutput i f).vent = s.vent := rfl
@[simp] theorem State.modOutput_hostMem (i : Fin 2) (f : OutputRt → OutputRt) : (s.modOutput i f).hostMem = s.hostMem := rfl

@[simp] theorem State.modDown_pending (i : Fin 4) (f : Port → Port) : (s.modDown i f).pending = s.pending := rfl
@[simp] theorem State.modDown_free (i : Fin 4) (f : Port → Port) : (s.modDown i f).free = s.free := rfl
@[simp] theorem State.modDown_out (i : Fin 4) (f : Port → Port) : (s.modDown i f).out = s.out := rfl
@[simp] theorem State.modDown_dev (i : Fin 4) (f : Port → Port) : (s.modDown i f).dev = s.dev := rfl
@[simp] theorem State.modDown_ports (i : Fin 4) (f : Port → Port) : (s.modDown i f).ports = s.ports := rfl
@[simp] theorem State.modDown_host (i : Fin 4) (f : Port → Port) : (s.modDown i f).host = s.host := rfl
@[simp] theorem State.modDown_plans (i : Fin 4) (f : Port → Port) : (s.modDown i f).plans = s.plans := rfl
@[simp] theorem State.modDown_params (i : Fin 4) (f : Port → Port) : (s.modDown i f).params = s.params := rfl
@[simp] theorem State.modDown_time (i : Fin 4) (f : Port → Port) : (s.modDown i f).time = s.time := rfl
@[simp] theorem State.modDown_records (i : Fin 4) (f : Port → Port) : (s.modDown i f).records = s.records := rfl
@[simp] theorem State.modDown_lanes (i : Fin 4) (f : Port → Port) : (s.modDown i f).lanes = s.lanes := rfl
@[simp] theorem State.modDown_plains (i : Fin 4) (f : Port → Port) : (s.modDown i f).plains = s.plains := rfl
@[simp] theorem State.modDown_terrace (i : Fin 4) (f : Port → Port) : (s.modDown i f).terrace = s.terrace := rfl
@[simp] theorem State.modDown_pool (i : Fin 4) (f : Port → Port) : (s.modDown i f).pool = s.pool := rfl
@[simp] theorem State.modDown_geyser (i : Fin 4) (f : Port → Port) : (s.modDown i f).geyser = s.geyser := rfl
@[simp] theorem State.modDown_basin (i : Fin 4) (f : Port → Port) : (s.modDown i f).basin = s.basin := rfl
@[simp] theorem State.modDown_caldera (i : Fin 4) (f : Port → Port) : (s.modDown i f).caldera = s.caldera := rfl
@[simp] theorem State.modDown_evt (i : Fin 4) (f : Port → Port) : (s.modDown i f).evt = s.evt := rfl
@[simp] theorem State.modDown_fabric (i : Fin 4) (f : Port → Port) : (s.modDown i f).fabric = s.fabric := rfl
@[simp] theorem State.modDown_vent (i : Fin 4) (f : Port → Port) : (s.modDown i f).vent = s.vent := rfl
@[simp] theorem State.modDown_hostMem (i : Fin 4) (f : Port → Port) : (s.modDown i f).hostMem = s.hostMem := rfl

@[simp] theorem State.modCxl_pending (i : Fin 8) (f : Memory → Memory) : (s.modCxl i f).pending = s.pending := rfl
@[simp] theorem State.modCxl_free (i : Fin 8) (f : Memory → Memory) : (s.modCxl i f).free = s.free := rfl
@[simp] theorem State.modCxl_out (i : Fin 8) (f : Memory → Memory) : (s.modCxl i f).out = s.out := rfl
@[simp] theorem State.modCxl_dev (i : Fin 8) (f : Memory → Memory) : (s.modCxl i f).dev = s.dev := rfl
@[simp] theorem State.modCxl_ports (i : Fin 8) (f : Memory → Memory) : (s.modCxl i f).ports = s.ports := rfl
@[simp] theorem State.modCxl_host (i : Fin 8) (f : Memory → Memory) : (s.modCxl i f).host = s.host := rfl
@[simp] theorem State.modCxl_plans (i : Fin 8) (f : Memory → Memory) : (s.modCxl i f).plans = s.plans := rfl
@[simp] theorem State.modCxl_params (i : Fin 8) (f : Memory → Memory) : (s.modCxl i f).params = s.params := rfl
@[simp] theorem State.modCxl_time (i : Fin 8) (f : Memory → Memory) : (s.modCxl i f).time = s.time := rfl
@[simp] theorem State.modCxl_records (i : Fin 8) (f : Memory → Memory) : (s.modCxl i f).records = s.records := rfl
@[simp] theorem State.modCxl_lanes (i : Fin 8) (f : Memory → Memory) : (s.modCxl i f).lanes = s.lanes := rfl
@[simp] theorem State.modCxl_plains (i : Fin 8) (f : Memory → Memory) : (s.modCxl i f).plains = s.plains := rfl
@[simp] theorem State.modCxl_terrace (i : Fin 8) (f : Memory → Memory) : (s.modCxl i f).terrace = s.terrace := rfl
@[simp] theorem State.modCxl_pool (i : Fin 8) (f : Memory → Memory) : (s.modCxl i f).pool = s.pool := rfl
@[simp] theorem State.modCxl_geyser (i : Fin 8) (f : Memory → Memory) : (s.modCxl i f).geyser = s.geyser := rfl
@[simp] theorem State.modCxl_basin (i : Fin 8) (f : Memory → Memory) : (s.modCxl i f).basin = s.basin := rfl
@[simp] theorem State.modCxl_caldera (i : Fin 8) (f : Memory → Memory) : (s.modCxl i f).caldera = s.caldera := rfl
@[simp] theorem State.modCxl_evt (i : Fin 8) (f : Memory → Memory) : (s.modCxl i f).evt = s.evt := rfl
@[simp] theorem State.modCxl_fabric (i : Fin 8) (f : Memory → Memory) : (s.modCxl i f).fabric = s.fabric := rfl
@[simp] theorem State.modCxl_vent (i : Fin 8) (f : Memory → Memory) : (s.modCxl i f).vent = s.vent := rfl
@[simp] theorem State.modCxl_hostMem (i : Fin 8) (f : Memory → Memory) : (s.modCxl i f).hostMem = s.hostMem := rfl

@[simp] theorem State.modDrive_pending (i : Fin 16) (f : Drive → Drive) : (s.modDrive i f).pending = s.pending := rfl
@[simp] theorem State.modDrive_free (i : Fin 16) (f : Drive → Drive) : (s.modDrive i f).free = s.free := rfl
@[simp] theorem State.modDrive_out (i : Fin 16) (f : Drive → Drive) : (s.modDrive i f).out = s.out := rfl
@[simp] theorem State.modDrive_dev (i : Fin 16) (f : Drive → Drive) : (s.modDrive i f).dev = s.dev := rfl
@[simp] theorem State.modDrive_ports (i : Fin 16) (f : Drive → Drive) : (s.modDrive i f).ports = s.ports := rfl
@[simp] theorem State.modDrive_host (i : Fin 16) (f : Drive → Drive) : (s.modDrive i f).host = s.host := rfl
@[simp] theorem State.modDrive_plans (i : Fin 16) (f : Drive → Drive) : (s.modDrive i f).plans = s.plans := rfl
@[simp] theorem State.modDrive_params (i : Fin 16) (f : Drive → Drive) : (s.modDrive i f).params = s.params := rfl
@[simp] theorem State.modDrive_time (i : Fin 16) (f : Drive → Drive) : (s.modDrive i f).time = s.time := rfl
@[simp] theorem State.modDrive_records (i : Fin 16) (f : Drive → Drive) : (s.modDrive i f).records = s.records := rfl
@[simp] theorem State.modDrive_lanes (i : Fin 16) (f : Drive → Drive) : (s.modDrive i f).lanes = s.lanes := rfl
@[simp] theorem State.modDrive_plains (i : Fin 16) (f : Drive → Drive) : (s.modDrive i f).plains = s.plains := rfl
@[simp] theorem State.modDrive_terrace (i : Fin 16) (f : Drive → Drive) : (s.modDrive i f).terrace = s.terrace := rfl
@[simp] theorem State.modDrive_pool (i : Fin 16) (f : Drive → Drive) : (s.modDrive i f).pool = s.pool := rfl
@[simp] theorem State.modDrive_geyser (i : Fin 16) (f : Drive → Drive) : (s.modDrive i f).geyser = s.geyser := rfl
@[simp] theorem State.modDrive_basin (i : Fin 16) (f : Drive → Drive) : (s.modDrive i f).basin = s.basin := rfl
@[simp] theorem State.modDrive_caldera (i : Fin 16) (f : Drive → Drive) : (s.modDrive i f).caldera = s.caldera := rfl
@[simp] theorem State.modDrive_evt (i : Fin 16) (f : Drive → Drive) : (s.modDrive i f).evt = s.evt := rfl
@[simp] theorem State.modDrive_fabric (i : Fin 16) (f : Drive → Drive) : (s.modDrive i f).fabric = s.fabric := rfl
@[simp] theorem State.modDrive_vent (i : Fin 16) (f : Drive → Drive) : (s.modDrive i f).vent = s.vent := rfl
@[simp] theorem State.modDrive_hostMem (i : Fin 16) (f : Drive → Drive) : (s.modDrive i f).hostMem = s.hostMem := rfl

@[simp] theorem State.modNear_pending (f : NearMem → NearMem) : (s.modNear f).pending = s.pending := rfl
@[simp] theorem State.modNear_free (f : NearMem → NearMem) : (s.modNear f).free = s.free := rfl
@[simp] theorem State.modNear_out (f : NearMem → NearMem) : (s.modNear f).out = s.out := rfl
@[simp] theorem State.modNear_dev (f : NearMem → NearMem) : (s.modNear f).dev = s.dev := rfl
@[simp] theorem State.modNear_ports (f : NearMem → NearMem) : (s.modNear f).ports = s.ports := rfl
@[simp] theorem State.modNear_host (f : NearMem → NearMem) : (s.modNear f).host = s.host := rfl
@[simp] theorem State.modNear_plans (f : NearMem → NearMem) : (s.modNear f).plans = s.plans := rfl
@[simp] theorem State.modNear_params (f : NearMem → NearMem) : (s.modNear f).params = s.params := rfl
@[simp] theorem State.modNear_time (f : NearMem → NearMem) : (s.modNear f).time = s.time := rfl
@[simp] theorem State.modNear_records (f : NearMem → NearMem) : (s.modNear f).records = s.records := rfl
@[simp] theorem State.modNear_lanes (f : NearMem → NearMem) : (s.modNear f).lanes = s.lanes := rfl
@[simp] theorem State.modNear_plains (f : NearMem → NearMem) : (s.modNear f).plains = s.plains := rfl
@[simp] theorem State.modNear_terrace (f : NearMem → NearMem) : (s.modNear f).terrace = s.terrace := rfl
@[simp] theorem State.modNear_pool (f : NearMem → NearMem) : (s.modNear f).pool = s.pool := rfl
@[simp] theorem State.modNear_geyser (f : NearMem → NearMem) : (s.modNear f).geyser = s.geyser := rfl
@[simp] theorem State.modNear_basin (f : NearMem → NearMem) : (s.modNear f).basin = s.basin := rfl
@[simp] theorem State.modNear_caldera (f : NearMem → NearMem) : (s.modNear f).caldera = s.caldera := rfl
@[simp] theorem State.modNear_evt (f : NearMem → NearMem) : (s.modNear f).evt = s.evt := rfl
@[simp] theorem State.modNear_fabric (f : NearMem → NearMem) : (s.modNear f).fabric = s.fabric := rfl
@[simp] theorem State.modNear_vent (f : NearMem → NearMem) : (s.modNear f).vent = s.vent := rfl
@[simp] theorem State.modNear_hostMem (f : NearMem → NearMem) : (s.modNear f).hostMem = s.hostMem := rfl

@[simp] theorem State.modDma_pending (i : Fin 32) (f : DmaCh → DmaCh) : (s.modDma i f).pending = s.pending := rfl
@[simp] theorem State.modDma_free (i : Fin 32) (f : DmaCh → DmaCh) : (s.modDma i f).free = s.free := rfl
@[simp] theorem State.modDma_out (i : Fin 32) (f : DmaCh → DmaCh) : (s.modDma i f).out = s.out := rfl
@[simp] theorem State.modDma_dev (i : Fin 32) (f : DmaCh → DmaCh) : (s.modDma i f).dev = s.dev := rfl
@[simp] theorem State.modDma_ports (i : Fin 32) (f : DmaCh → DmaCh) : (s.modDma i f).ports = s.ports := rfl
@[simp] theorem State.modDma_host (i : Fin 32) (f : DmaCh → DmaCh) : (s.modDma i f).host = s.host := rfl
@[simp] theorem State.modDma_plans (i : Fin 32) (f : DmaCh → DmaCh) : (s.modDma i f).plans = s.plans := rfl
@[simp] theorem State.modDma_params (i : Fin 32) (f : DmaCh → DmaCh) : (s.modDma i f).params = s.params := rfl
@[simp] theorem State.modDma_time (i : Fin 32) (f : DmaCh → DmaCh) : (s.modDma i f).time = s.time := rfl
@[simp] theorem State.modDma_records (i : Fin 32) (f : DmaCh → DmaCh) : (s.modDma i f).records = s.records := rfl
@[simp] theorem State.modDma_lanes (i : Fin 32) (f : DmaCh → DmaCh) : (s.modDma i f).lanes = s.lanes := rfl
@[simp] theorem State.modDma_plains (i : Fin 32) (f : DmaCh → DmaCh) : (s.modDma i f).plains = s.plains := rfl
@[simp] theorem State.modDma_terrace (i : Fin 32) (f : DmaCh → DmaCh) : (s.modDma i f).terrace = s.terrace := rfl
@[simp] theorem State.modDma_pool (i : Fin 32) (f : DmaCh → DmaCh) : (s.modDma i f).pool = s.pool := rfl
@[simp] theorem State.modDma_geyser (i : Fin 32) (f : DmaCh → DmaCh) : (s.modDma i f).geyser = s.geyser := rfl
@[simp] theorem State.modDma_basin (i : Fin 32) (f : DmaCh → DmaCh) : (s.modDma i f).basin = s.basin := rfl
@[simp] theorem State.modDma_caldera (i : Fin 32) (f : DmaCh → DmaCh) : (s.modDma i f).caldera = s.caldera := rfl
@[simp] theorem State.modDma_evt (i : Fin 32) (f : DmaCh → DmaCh) : (s.modDma i f).evt = s.evt := rfl
@[simp] theorem State.modDma_fabric (i : Fin 32) (f : DmaCh → DmaCh) : (s.modDma i f).fabric = s.fabric := rfl
@[simp] theorem State.modDma_vent (i : Fin 32) (f : DmaCh → DmaCh) : (s.modDma i f).vent = s.vent := rfl
@[simp] theorem State.modDma_hostMem (i : Fin 32) (f : DmaCh → DmaCh) : (s.modDma i f).hostMem = s.hostMem := rfl

@[simp] theorem State.modIn_pending (i : Fin 16) (f : EvtIn → EvtIn) : (s.modIn i f).pending = s.pending := rfl
@[simp] theorem State.modIn_free (i : Fin 16) (f : EvtIn → EvtIn) : (s.modIn i f).free = s.free := rfl
@[simp] theorem State.modIn_out (i : Fin 16) (f : EvtIn → EvtIn) : (s.modIn i f).out = s.out := rfl
@[simp] theorem State.modIn_dev (i : Fin 16) (f : EvtIn → EvtIn) : (s.modIn i f).dev = s.dev := rfl
@[simp] theorem State.modIn_ports (i : Fin 16) (f : EvtIn → EvtIn) : (s.modIn i f).ports = s.ports := rfl
@[simp] theorem State.modIn_host (i : Fin 16) (f : EvtIn → EvtIn) : (s.modIn i f).host = s.host := rfl
@[simp] theorem State.modIn_plans (i : Fin 16) (f : EvtIn → EvtIn) : (s.modIn i f).plans = s.plans := rfl
@[simp] theorem State.modIn_params (i : Fin 16) (f : EvtIn → EvtIn) : (s.modIn i f).params = s.params := rfl
@[simp] theorem State.modIn_time (i : Fin 16) (f : EvtIn → EvtIn) : (s.modIn i f).time = s.time := rfl
@[simp] theorem State.modIn_records (i : Fin 16) (f : EvtIn → EvtIn) : (s.modIn i f).records = s.records := rfl
@[simp] theorem State.modIn_lanes (i : Fin 16) (f : EvtIn → EvtIn) : (s.modIn i f).lanes = s.lanes := rfl
@[simp] theorem State.modIn_plains (i : Fin 16) (f : EvtIn → EvtIn) : (s.modIn i f).plains = s.plains := rfl
@[simp] theorem State.modIn_terrace (i : Fin 16) (f : EvtIn → EvtIn) : (s.modIn i f).terrace = s.terrace := rfl
@[simp] theorem State.modIn_pool (i : Fin 16) (f : EvtIn → EvtIn) : (s.modIn i f).pool = s.pool := rfl
@[simp] theorem State.modIn_geyser (i : Fin 16) (f : EvtIn → EvtIn) : (s.modIn i f).geyser = s.geyser := rfl
@[simp] theorem State.modIn_basin (i : Fin 16) (f : EvtIn → EvtIn) : (s.modIn i f).basin = s.basin := rfl
@[simp] theorem State.modIn_caldera (i : Fin 16) (f : EvtIn → EvtIn) : (s.modIn i f).caldera = s.caldera := rfl
@[simp] theorem State.modIn_down (i : Fin 16) (f : EvtIn → EvtIn) : (s.modIn i f).down = s.down := rfl
@[simp] theorem State.modIn_fabric (i : Fin 16) (f : EvtIn → EvtIn) : (s.modIn i f).fabric = s.fabric := rfl
@[simp] theorem State.modIn_vent (i : Fin 16) (f : EvtIn → EvtIn) : (s.modIn i f).vent = s.vent := rfl
@[simp] theorem State.modIn_hostMem (i : Fin 16) (f : EvtIn → EvtIn) : (s.modIn i f).hostMem = s.hostMem := rfl

@[simp] theorem State.modFco_pending (i : Fin 8) (f : Fco → Fco) : (s.modFco i f).pending = s.pending := rfl
@[simp] theorem State.modFco_free (i : Fin 8) (f : Fco → Fco) : (s.modFco i f).free = s.free := rfl
@[simp] theorem State.modFco_out (i : Fin 8) (f : Fco → Fco) : (s.modFco i f).out = s.out := rfl
@[simp] theorem State.modFco_dev (i : Fin 8) (f : Fco → Fco) : (s.modFco i f).dev = s.dev := rfl
@[simp] theorem State.modFco_ports (i : Fin 8) (f : Fco → Fco) : (s.modFco i f).ports = s.ports := rfl
@[simp] theorem State.modFco_host (i : Fin 8) (f : Fco → Fco) : (s.modFco i f).host = s.host := rfl
@[simp] theorem State.modFco_plans (i : Fin 8) (f : Fco → Fco) : (s.modFco i f).plans = s.plans := rfl
@[simp] theorem State.modFco_params (i : Fin 8) (f : Fco → Fco) : (s.modFco i f).params = s.params := rfl
@[simp] theorem State.modFco_time (i : Fin 8) (f : Fco → Fco) : (s.modFco i f).time = s.time := rfl
@[simp] theorem State.modFco_records (i : Fin 8) (f : Fco → Fco) : (s.modFco i f).records = s.records := rfl
@[simp] theorem State.modFco_lanes (i : Fin 8) (f : Fco → Fco) : (s.modFco i f).lanes = s.lanes := rfl
@[simp] theorem State.modFco_plains (i : Fin 8) (f : Fco → Fco) : (s.modFco i f).plains = s.plains := rfl
@[simp] theorem State.modFco_terrace (i : Fin 8) (f : Fco → Fco) : (s.modFco i f).terrace = s.terrace := rfl
@[simp] theorem State.modFco_pool (i : Fin 8) (f : Fco → Fco) : (s.modFco i f).pool = s.pool := rfl
@[simp] theorem State.modFco_geyser (i : Fin 8) (f : Fco → Fco) : (s.modFco i f).geyser = s.geyser := rfl
@[simp] theorem State.modFco_basin (i : Fin 8) (f : Fco → Fco) : (s.modFco i f).basin = s.basin := rfl
@[simp] theorem State.modFco_caldera (i : Fin 8) (f : Fco → Fco) : (s.modFco i f).caldera = s.caldera := rfl
@[simp] theorem State.modFco_down (i : Fin 8) (f : Fco → Fco) : (s.modFco i f).down = s.down := rfl
@[simp] theorem State.modFco_fabric (i : Fin 8) (f : Fco → Fco) : (s.modFco i f).fabric = s.fabric := rfl
@[simp] theorem State.modFco_vent (i : Fin 8) (f : Fco → Fco) : (s.modFco i f).vent = s.vent := rfl
@[simp] theorem State.modFco_hostMem (i : Fin 8) (f : Fco → Fco) : (s.modFco i f).hostMem = s.hostMem := rfl

@[simp] theorem State.modFabLane_pending (i : Fin 12) (f : FabLane → FabLane) : (s.modFabLane i f).pending = s.pending := rfl
@[simp] theorem State.modFabLane_free (i : Fin 12) (f : FabLane → FabLane) : (s.modFabLane i f).free = s.free := rfl
@[simp] theorem State.modFabLane_out (i : Fin 12) (f : FabLane → FabLane) : (s.modFabLane i f).out = s.out := rfl
@[simp] theorem State.modFabLane_dev (i : Fin 12) (f : FabLane → FabLane) : (s.modFabLane i f).dev = s.dev := rfl
@[simp] theorem State.modFabLane_ports (i : Fin 12) (f : FabLane → FabLane) : (s.modFabLane i f).ports = s.ports := rfl
@[simp] theorem State.modFabLane_host (i : Fin 12) (f : FabLane → FabLane) : (s.modFabLane i f).host = s.host := rfl
@[simp] theorem State.modFabLane_plans (i : Fin 12) (f : FabLane → FabLane) : (s.modFabLane i f).plans = s.plans := rfl
@[simp] theorem State.modFabLane_params (i : Fin 12) (f : FabLane → FabLane) : (s.modFabLane i f).params = s.params := rfl
@[simp] theorem State.modFabLane_time (i : Fin 12) (f : FabLane → FabLane) : (s.modFabLane i f).time = s.time := rfl
@[simp] theorem State.modFabLane_records (i : Fin 12) (f : FabLane → FabLane) : (s.modFabLane i f).records = s.records := rfl
@[simp] theorem State.modFabLane_lanes (i : Fin 12) (f : FabLane → FabLane) : (s.modFabLane i f).lanes = s.lanes := rfl
@[simp] theorem State.modFabLane_plains (i : Fin 12) (f : FabLane → FabLane) : (s.modFabLane i f).plains = s.plains := rfl
@[simp] theorem State.modFabLane_terrace (i : Fin 12) (f : FabLane → FabLane) : (s.modFabLane i f).terrace = s.terrace := rfl
@[simp] theorem State.modFabLane_pool (i : Fin 12) (f : FabLane → FabLane) : (s.modFabLane i f).pool = s.pool := rfl
@[simp] theorem State.modFabLane_geyser (i : Fin 12) (f : FabLane → FabLane) : (s.modFabLane i f).geyser = s.geyser := rfl
@[simp] theorem State.modFabLane_basin (i : Fin 12) (f : FabLane → FabLane) : (s.modFabLane i f).basin = s.basin := rfl
@[simp] theorem State.modFabLane_caldera (i : Fin 12) (f : FabLane → FabLane) : (s.modFabLane i f).caldera = s.caldera := rfl
@[simp] theorem State.modFabLane_down (i : Fin 12) (f : FabLane → FabLane) : (s.modFabLane i f).down = s.down := rfl
@[simp] theorem State.modFabLane_evt (i : Fin 12) (f : FabLane → FabLane) : (s.modFabLane i f).evt = s.evt := rfl
@[simp] theorem State.modFabLane_vent (i : Fin 12) (f : FabLane → FabLane) : (s.modFabLane i f).vent = s.vent := rfl
@[simp] theorem State.modFabLane_hostMem (i : Fin 12) (f : FabLane → FabLane) : (s.modFabLane i f).hostMem = s.hostMem := rfl

@[simp] theorem State.modNode_pending (i : Fin 64) (f : NodeRt → NodeRt) : (s.modNode i f).pending = s.pending := rfl
@[simp] theorem State.modNode_free (i : Fin 64) (f : NodeRt → NodeRt) : (s.modNode i f).free = s.free := rfl
@[simp] theorem State.modNode_out (i : Fin 64) (f : NodeRt → NodeRt) : (s.modNode i f).out = s.out := rfl
@[simp] theorem State.modNode_dev (i : Fin 64) (f : NodeRt → NodeRt) : (s.modNode i f).dev = s.dev := rfl
@[simp] theorem State.modNode_ports (i : Fin 64) (f : NodeRt → NodeRt) : (s.modNode i f).ports = s.ports := rfl
@[simp] theorem State.modNode_host (i : Fin 64) (f : NodeRt → NodeRt) : (s.modNode i f).host = s.host := rfl
@[simp] theorem State.modNode_plans (i : Fin 64) (f : NodeRt → NodeRt) : (s.modNode i f).plans = s.plans := rfl
@[simp] theorem State.modNode_params (i : Fin 64) (f : NodeRt → NodeRt) : (s.modNode i f).params = s.params := rfl
@[simp] theorem State.modNode_time (i : Fin 64) (f : NodeRt → NodeRt) : (s.modNode i f).time = s.time := rfl
@[simp] theorem State.modNode_records (i : Fin 64) (f : NodeRt → NodeRt) : (s.modNode i f).records = s.records := rfl
@[simp] theorem State.modNode_lanes (i : Fin 64) (f : NodeRt → NodeRt) : (s.modNode i f).lanes = s.lanes := rfl
@[simp] theorem State.modNode_plains (i : Fin 64) (f : NodeRt → NodeRt) : (s.modNode i f).plains = s.plains := rfl
@[simp] theorem State.modNode_terrace (i : Fin 64) (f : NodeRt → NodeRt) : (s.modNode i f).terrace = s.terrace := rfl
@[simp] theorem State.modNode_pool (i : Fin 64) (f : NodeRt → NodeRt) : (s.modNode i f).pool = s.pool := rfl
@[simp] theorem State.modNode_geyser (i : Fin 64) (f : NodeRt → NodeRt) : (s.modNode i f).geyser = s.geyser := rfl
@[simp] theorem State.modNode_basin (i : Fin 64) (f : NodeRt → NodeRt) : (s.modNode i f).basin = s.basin := rfl
@[simp] theorem State.modNode_caldera (i : Fin 64) (f : NodeRt → NodeRt) : (s.modNode i f).caldera = s.caldera := rfl
@[simp] theorem State.modNode_down (i : Fin 64) (f : NodeRt → NodeRt) : (s.modNode i f).down = s.down := rfl
@[simp] theorem State.modNode_evt (i : Fin 64) (f : NodeRt → NodeRt) : (s.modNode i f).evt = s.evt := rfl
@[simp] theorem State.modNode_vent (i : Fin 64) (f : NodeRt → NodeRt) : (s.modNode i f).vent = s.vent := rfl
@[simp] theorem State.modNode_hostMem (i : Fin 64) (f : NodeRt → NodeRt) : (s.modNode i f).hostMem = s.hostMem := rfl

@[simp] theorem State.modVent_pending (i : Fin 2) (f : Vent → Vent) : (s.modVent i f).pending = s.pending := rfl
@[simp] theorem State.modVent_free (i : Fin 2) (f : Vent → Vent) : (s.modVent i f).free = s.free := rfl
@[simp] theorem State.modVent_out (i : Fin 2) (f : Vent → Vent) : (s.modVent i f).out = s.out := rfl
@[simp] theorem State.modVent_dev (i : Fin 2) (f : Vent → Vent) : (s.modVent i f).dev = s.dev := rfl
@[simp] theorem State.modVent_ports (i : Fin 2) (f : Vent → Vent) : (s.modVent i f).ports = s.ports := rfl
@[simp] theorem State.modVent_host (i : Fin 2) (f : Vent → Vent) : (s.modVent i f).host = s.host := rfl
@[simp] theorem State.modVent_plans (i : Fin 2) (f : Vent → Vent) : (s.modVent i f).plans = s.plans := rfl
@[simp] theorem State.modVent_params (i : Fin 2) (f : Vent → Vent) : (s.modVent i f).params = s.params := rfl
@[simp] theorem State.modVent_time (i : Fin 2) (f : Vent → Vent) : (s.modVent i f).time = s.time := rfl
@[simp] theorem State.modVent_records (i : Fin 2) (f : Vent → Vent) : (s.modVent i f).records = s.records := rfl
@[simp] theorem State.modVent_lanes (i : Fin 2) (f : Vent → Vent) : (s.modVent i f).lanes = s.lanes := rfl
@[simp] theorem State.modVent_plains (i : Fin 2) (f : Vent → Vent) : (s.modVent i f).plains = s.plains := rfl
@[simp] theorem State.modVent_terrace (i : Fin 2) (f : Vent → Vent) : (s.modVent i f).terrace = s.terrace := rfl
@[simp] theorem State.modVent_pool (i : Fin 2) (f : Vent → Vent) : (s.modVent i f).pool = s.pool := rfl
@[simp] theorem State.modVent_geyser (i : Fin 2) (f : Vent → Vent) : (s.modVent i f).geyser = s.geyser := rfl
@[simp] theorem State.modVent_basin (i : Fin 2) (f : Vent → Vent) : (s.modVent i f).basin = s.basin := rfl
@[simp] theorem State.modVent_caldera (i : Fin 2) (f : Vent → Vent) : (s.modVent i f).caldera = s.caldera := rfl
@[simp] theorem State.modVent_down (i : Fin 2) (f : Vent → Vent) : (s.modVent i f).down = s.down := rfl
@[simp] theorem State.modVent_evt (i : Fin 2) (f : Vent → Vent) : (s.modVent i f).evt = s.evt := rfl
@[simp] theorem State.modVent_fabric (i : Fin 2) (f : Vent → Vent) : (s.modVent i f).fabric = s.fabric := rfl
@[simp] theorem State.modVent_hostMem (i : Fin 2) (f : Vent → Vent) : (s.modVent i f).hostMem = s.hostMem := rfl

@[simp] theorem State.modDomain_pending (i : Fin 2) (f : PtpDomain → PtpDomain) : (s.modDomain i f).pending = s.pending := rfl
@[simp] theorem State.modDomain_free (i : Fin 2) (f : PtpDomain → PtpDomain) : (s.modDomain i f).free = s.free := rfl
@[simp] theorem State.modDomain_out (i : Fin 2) (f : PtpDomain → PtpDomain) : (s.modDomain i f).out = s.out := rfl
@[simp] theorem State.modDomain_dev (i : Fin 2) (f : PtpDomain → PtpDomain) : (s.modDomain i f).dev = s.dev := rfl
@[simp] theorem State.modDomain_ports (i : Fin 2) (f : PtpDomain → PtpDomain) : (s.modDomain i f).ports = s.ports := rfl
@[simp] theorem State.modDomain_host (i : Fin 2) (f : PtpDomain → PtpDomain) : (s.modDomain i f).host = s.host := rfl
@[simp] theorem State.modDomain_plans (i : Fin 2) (f : PtpDomain → PtpDomain) : (s.modDomain i f).plans = s.plans := rfl
@[simp] theorem State.modDomain_params (i : Fin 2) (f : PtpDomain → PtpDomain) : (s.modDomain i f).params = s.params := rfl
@[simp] theorem State.modDomain_records (i : Fin 2) (f : PtpDomain → PtpDomain) : (s.modDomain i f).records = s.records := rfl
@[simp] theorem State.modDomain_lanes (i : Fin 2) (f : PtpDomain → PtpDomain) : (s.modDomain i f).lanes = s.lanes := rfl
@[simp] theorem State.modDomain_plains (i : Fin 2) (f : PtpDomain → PtpDomain) : (s.modDomain i f).plains = s.plains := rfl
@[simp] theorem State.modDomain_terrace (i : Fin 2) (f : PtpDomain → PtpDomain) : (s.modDomain i f).terrace = s.terrace := rfl
@[simp] theorem State.modDomain_pool (i : Fin 2) (f : PtpDomain → PtpDomain) : (s.modDomain i f).pool = s.pool := rfl
@[simp] theorem State.modDomain_geyser (i : Fin 2) (f : PtpDomain → PtpDomain) : (s.modDomain i f).geyser = s.geyser := rfl
@[simp] theorem State.modDomain_basin (i : Fin 2) (f : PtpDomain → PtpDomain) : (s.modDomain i f).basin = s.basin := rfl
@[simp] theorem State.modDomain_caldera (i : Fin 2) (f : PtpDomain → PtpDomain) : (s.modDomain i f).caldera = s.caldera := rfl
@[simp] theorem State.modDomain_down (i : Fin 2) (f : PtpDomain → PtpDomain) : (s.modDomain i f).down = s.down := rfl
@[simp] theorem State.modDomain_evt (i : Fin 2) (f : PtpDomain → PtpDomain) : (s.modDomain i f).evt = s.evt := rfl
@[simp] theorem State.modDomain_fabric (i : Fin 2) (f : PtpDomain → PtpDomain) : (s.modDomain i f).fabric = s.fabric := rfl
@[simp] theorem State.modDomain_vent (i : Fin 2) (f : PtpDomain → PtpDomain) : (s.modDomain i f).vent = s.vent := rfl
@[simp] theorem State.modDomain_hostMem (i : Fin 2) (f : PtpDomain → PtpDomain) : (s.modDomain i f).hostMem = s.hostMem := rfl

@[simp] theorem State.modHostMem_pending (p : PortId) (f : Memory → Memory) : (s.modHostMem p f).pending = s.pending := rfl
@[simp] theorem State.modHostMem_free (p : PortId) (f : Memory → Memory) : (s.modHostMem p f).free = s.free := rfl
@[simp] theorem State.modHostMem_out (p : PortId) (f : Memory → Memory) : (s.modHostMem p f).out = s.out := rfl
@[simp] theorem State.modHostMem_dev (p : PortId) (f : Memory → Memory) : (s.modHostMem p f).dev = s.dev := rfl
@[simp] theorem State.modHostMem_ports (p : PortId) (f : Memory → Memory) : (s.modHostMem p f).ports = s.ports := rfl
@[simp] theorem State.modHostMem_host (p : PortId) (f : Memory → Memory) : (s.modHostMem p f).host = s.host := rfl
@[simp] theorem State.modHostMem_plans (p : PortId) (f : Memory → Memory) : (s.modHostMem p f).plans = s.plans := rfl
@[simp] theorem State.modHostMem_params (p : PortId) (f : Memory → Memory) : (s.modHostMem p f).params = s.params := rfl
@[simp] theorem State.modHostMem_time (p : PortId) (f : Memory → Memory) : (s.modHostMem p f).time = s.time := rfl
@[simp] theorem State.modHostMem_records (p : PortId) (f : Memory → Memory) : (s.modHostMem p f).records = s.records := rfl
@[simp] theorem State.modHostMem_lanes (p : PortId) (f : Memory → Memory) : (s.modHostMem p f).lanes = s.lanes := rfl
@[simp] theorem State.modHostMem_plains (p : PortId) (f : Memory → Memory) : (s.modHostMem p f).plains = s.plains := rfl
@[simp] theorem State.modHostMem_terrace (p : PortId) (f : Memory → Memory) : (s.modHostMem p f).terrace = s.terrace := rfl
@[simp] theorem State.modHostMem_pool (p : PortId) (f : Memory → Memory) : (s.modHostMem p f).pool = s.pool := rfl
@[simp] theorem State.modHostMem_geyser (p : PortId) (f : Memory → Memory) : (s.modHostMem p f).geyser = s.geyser := rfl
@[simp] theorem State.modHostMem_basin (p : PortId) (f : Memory → Memory) : (s.modHostMem p f).basin = s.basin := rfl
@[simp] theorem State.modHostMem_caldera (p : PortId) (f : Memory → Memory) : (s.modHostMem p f).caldera = s.caldera := rfl
@[simp] theorem State.modHostMem_down (p : PortId) (f : Memory → Memory) : (s.modHostMem p f).down = s.down := rfl
@[simp] theorem State.modHostMem_evt (p : PortId) (f : Memory → Memory) : (s.modHostMem p f).evt = s.evt := rfl
@[simp] theorem State.modHostMem_fabric (p : PortId) (f : Memory → Memory) : (s.modHostMem p f).fabric = s.fabric := rfl
@[simp] theorem State.modHostMem_vent (p : PortId) (f : Memory → Memory) : (s.modHostMem p f).vent = s.vent := rfl

@[simp] theorem State.modPort_port_same (p : PortId) (f : HostPort → HostPort) : (s.modPort p f).port p = f (s.port p) :=
  vget_vmod_same ..
theorem State.modPort_port_ne (p : PortId) (f : HostPort → HostPort) (j : PortId) (h : p ≠ j) :
    (s.modPort p f).port j = s.port j := vget_vmod_ne _ _ _ _ h
@[simp] theorem State.modBank_bank_same (b : Fin 2) (f : Bank → Bank) : (s.modBank b f).bank b = f (s.bank b) :=
  vget_vmod_same ..
theorem State.modBank_bank_ne (b : Fin 2) (f : Bank → Bank) (j : Fin 2) (h : b ≠ j) :
    (s.modBank b f).bank j = s.bank j := vget_vmod_ne _ _ _ _ h
@[simp] theorem State.modBound_bound_same (i : Fin 16) (f : Boundary → Boundary) : (s.modBound i f).bound i = f (s.bound i) :=
  vget_vmod_same ..
theorem State.modBound_bound_ne (i : Fin 16) (f : Boundary → Boundary) (j : Fin 16) (h : i ≠ j) :
    (s.modBound i f).bound j = s.bound j := vget_vmod_ne _ _ _ _ h
@[simp] theorem State.modLane_lane_same (i : Fin 32) (f : Lane → Lane) : (s.modLane i f).lane i = f (s.lane i) :=
  vget_vmod_same ..
theorem State.modLane_lane_ne (i : Fin 32) (f : Lane → Lane) (j : Fin 32) (h : i ≠ j) :
    (s.modLane i f).lane j = s.lane j := vget_vmod_ne _ _ _ _ h
@[simp] theorem State.modRx_rx_same (i : Fin 32) (f : LaneRx → LaneRx) : (s.modRx i f).rx i = f (s.rx i) :=
  vget_vmod_same ..
theorem State.modRx_rx_ne (i : Fin 32) (f : LaneRx → LaneRx) (j : Fin 32) (h : i ≠ j) :
    (s.modRx i f).rx j = s.rx j := vget_vmod_ne _ _ _ _ h
@[simp] theorem State.modStream_stream_same (i : Fin 16) (f : StreamRt → StreamRt) : (s.modStream i f).stream i = f (s.stream i) :=
  vget_vmod_same ..
theorem State.modStream_stream_ne (i : Fin 16) (f : StreamRt → StreamRt) (j : Fin 16) (h : i ≠ j) :
    (s.modStream i f).stream j = s.stream j := vget_vmod_ne _ _ _ _ h
@[simp] theorem State.modView_view_same (i : Fin 64) (f : ViewRt → ViewRt) : (s.modView i f).view i = f (s.view i) :=
  vget_vmod_same ..
theorem State.modView_view_ne (i : Fin 64) (f : ViewRt → ViewRt) (j : Fin 64) (h : i ≠ j) :
    (s.modView i f).view j = s.view j := vget_vmod_ne _ _ _ _ h
@[simp] theorem State.modZoom_zoom_same (i : Fin 32) (f : ZoomRt → ZoomRt) : (s.modZoom i f).zoom i = f (s.zoom i) :=
  vget_vmod_same ..
theorem State.modZoom_zoom_ne (i : Fin 32) (f : ZoomRt → ZoomRt) (j : Fin 32) (h : i ≠ j) :
    (s.modZoom i f).zoom j = s.zoom j := vget_vmod_ne _ _ _ _ h
@[simp] theorem State.modSeq_seqr_same (i : Fin 16) (f : Seq → Seq) : (s.modSeq i f).seqr i = f (s.seqr i) :=
  vget_vmod_same ..
theorem State.modSeq_seqr_ne (i : Fin 16) (f : Seq → Seq) (j : Fin 16) (h : i ≠ j) :
    (s.modSeq i f).seqr j = s.seqr j := vget_vmod_ne _ _ _ _ h
@[simp] theorem State.modBasin_basinOf_same (i : Fin 16) (f : BasinRt → BasinRt) : (s.modBasin i f).basinOf i = f (s.basinOf i) :=
  vget_vmod_same ..
theorem State.modBasin_basinOf_ne (i : Fin 16) (f : BasinRt → BasinRt) (j : Fin 16) (h : i ≠ j) :
    (s.modBasin i f).basinOf j = s.basinOf j := vget_vmod_ne _ _ _ _ h
@[simp] theorem State.modDma_dma_same (i : Fin 32) (f : DmaCh → DmaCh) : (s.modDma i f).dma i = f (s.dma i) :=
  vget_vmod_same ..
theorem State.modDma_dma_ne (i : Fin 32) (f : DmaCh → DmaCh) (j : Fin 32) (h : i ≠ j) :
    (s.modDma i f).dma j = s.dma j := vget_vmod_ne _ _ _ _ h

end Sys2Proof.Machine
end

