-- ==== Sys2Proof/Laws/Ops.lean ====
section
/-! SUPPORT. What the operations that every chapter uses can change: the trail, free values, host flags, MSI-X messages and
event entries. -/

namespace Sys2Proof.Machine

variable (s : State)

@[simp] theorem emitOut_pending (o : Out) : (emitOut o s).pending = s.pending := by
  rfl
@[simp] theorem emitOut_free (o : Out) : (emitOut o s).free = s.free := by
  rfl
@[simp] theorem emitOut_dev (o : Out) : (emitOut o s).dev = s.dev := by
  rfl
@[simp] theorem emitOut_ports (o : Out) : (emitOut o s).ports = s.ports := by
  rfl
@[simp] theorem emitOut_host (o : Out) : (emitOut o s).host = s.host := by
  rfl
@[simp] theorem emitOut_plans (o : Out) : (emitOut o s).plans = s.plans := by
  rfl
@[simp] theorem emitOut_params (o : Out) : (emitOut o s).params = s.params := by
  rfl
@[simp] theorem emitOut_time (o : Out) : (emitOut o s).time = s.time := by
  rfl
@[simp] theorem emitOut_records (o : Out) : (emitOut o s).records = s.records := by
  rfl
@[simp] theorem emitOut_lanes (o : Out) : (emitOut o s).lanes = s.lanes := by
  rfl
@[simp] theorem emitOut_plains (o : Out) : (emitOut o s).plains = s.plains := by
  rfl
@[simp] theorem emitOut_terrace (o : Out) : (emitOut o s).terrace = s.terrace := by
  rfl
@[simp] theorem emitOut_pool (o : Out) : (emitOut o s).pool = s.pool := by
  rfl
@[simp] theorem emitOut_geyser (o : Out) : (emitOut o s).geyser = s.geyser := by
  rfl
@[simp] theorem emitOut_basin (o : Out) : (emitOut o s).basin = s.basin := by
  rfl
@[simp] theorem emitOut_caldera (o : Out) : (emitOut o s).caldera = s.caldera := by
  rfl
@[simp] theorem emitOut_down (o : Out) : (emitOut o s).down = s.down := by
  rfl
@[simp] theorem emitOut_evt (o : Out) : (emitOut o s).evt = s.evt := by
  rfl
@[simp] theorem emitOut_fabric (o : Out) : (emitOut o s).fabric = s.fabric := by
  rfl
@[simp] theorem emitOut_vent (o : Out) : (emitOut o s).vent = s.vent := by
  rfl
@[simp] theorem emitOut_hostMem (o : Out) : (emitOut o s).hostMem = s.hostMem := by
  rfl

@[simp] theorem emitOut_out (o : Out) : (emitOut o s).out = o :: s.out := rfl

@[simp] theorem fresh_pending : (fresh s).2.pending = s.pending := rfl
@[simp] theorem fresh_out : (fresh s).2.out = s.out := rfl
@[simp] theorem fresh_dev : (fresh s).2.dev = s.dev := rfl
@[simp] theorem fresh_ports : (fresh s).2.ports = s.ports := rfl
@[simp] theorem fresh_host : (fresh s).2.host = s.host := rfl
@[simp] theorem fresh_plans : (fresh s).2.plans = s.plans := rfl
@[simp] theorem fresh_params : (fresh s).2.params = s.params := rfl
@[simp] theorem fresh_time : (fresh s).2.time = s.time := rfl
@[simp] theorem fresh_records : (fresh s).2.records = s.records := rfl
@[simp] theorem fresh_lanes : (fresh s).2.lanes = s.lanes := rfl
@[simp] theorem fresh_plains : (fresh s).2.plains = s.plains := rfl
@[simp] theorem fresh_terrace : (fresh s).2.terrace = s.terrace := rfl
@[simp] theorem fresh_pool : (fresh s).2.pool = s.pool := rfl
@[simp] theorem fresh_geyser : (fresh s).2.geyser = s.geyser := rfl
@[simp] theorem fresh_basin : (fresh s).2.basin = s.basin := rfl
@[simp] theorem fresh_caldera : (fresh s).2.caldera = s.caldera := rfl
@[simp] theorem fresh_down : (fresh s).2.down = s.down := rfl
@[simp] theorem fresh_evt : (fresh s).2.evt = s.evt := rfl
@[simp] theorem fresh_fabric : (fresh s).2.fabric = s.fabric := rfl
@[simp] theorem fresh_vent : (fresh s).2.vent = s.vent := rfl
@[simp] theorem fresh_hostMem : (fresh s).2.hostMem = s.hostMem := rfl
@[simp] theorem fresh_free : (fresh s).2.free = s.free + 1 := rfl

@[simp] theorem raiseHost_pending (p : PortId) (f : HostFlag) : (raiseHost p f s).pending = s.pending := by
  rfl
@[simp] theorem raiseHost_free (p : PortId) (f : HostFlag) : (raiseHost p f s).free = s.free := by
  rfl
@[simp] theorem raiseHost_out (p : PortId) (f : HostFlag) : (raiseHost p f s).out = s.out := by
  rfl
@[simp] theorem raiseHost_dev (p : PortId) (f : HostFlag) : (raiseHost p f s).dev = s.dev := by
  rfl
@[simp] theorem raiseHost_host (p : PortId) (f : HostFlag) : (raiseHost p f s).host = s.host := by
  rfl
@[simp] theorem raiseHost_plans (p : PortId) (f : HostFlag) : (raiseHost p f s).plans = s.plans := by
  rfl
@[simp] theorem raiseHost_params (p : PortId) (f : HostFlag) : (raiseHost p f s).params = s.params := by
  rfl
@[simp] theorem raiseHost_time (p : PortId) (f : HostFlag) : (raiseHost p f s).time = s.time := by
  rfl
@[simp] theorem raiseHost_records (p : PortId) (f : HostFlag) : (raiseHost p f s).records = s.records := by
  rfl
@[simp] theorem raiseHost_lanes (p : PortId) (f : HostFlag) : (raiseHost p f s).lanes = s.lanes := by
  rfl
@[simp] theorem raiseHost_plains (p : PortId) (f : HostFlag) : (raiseHost p f s).plains = s.plains := by
  rfl
@[simp] theorem raiseHost_terrace (p : PortId) (f : HostFlag) : (raiseHost p f s).terrace = s.terrace := by
  rfl
@[simp] theorem raiseHost_pool (p : PortId) (f : HostFlag) : (raiseHost p f s).pool = s.pool := by
  rfl
@[simp] theorem raiseHost_geyser (p : PortId) (f : HostFlag) : (raiseHost p f s).geyser = s.geyser := by
  rfl
@[simp] theorem raiseHost_basin (p : PortId) (f : HostFlag) : (raiseHost p f s).basin = s.basin := by
  rfl
@[simp] theorem raiseHost_caldera (p : PortId) (f : HostFlag) : (raiseHost p f s).caldera = s.caldera := by
  rfl
@[simp] theorem raiseHost_down (p : PortId) (f : HostFlag) : (raiseHost p f s).down = s.down := by
  rfl
@[simp] theorem raiseHost_evt (p : PortId) (f : HostFlag) : (raiseHost p f s).evt = s.evt := by
  rfl
@[simp] theorem raiseHost_fabric (p : PortId) (f : HostFlag) : (raiseHost p f s).fabric = s.fabric := by
  rfl
@[simp] theorem raiseHost_vent (p : PortId) (f : HostFlag) : (raiseHost p f s).vent = s.vent := by
  rfl
@[simp] theorem raiseHost_hostMem (p : PortId) (f : HostFlag) : (raiseHost p f s).hostMem = s.hostMem := by
  rfl

@[simp] theorem sendMsix_pending (p : PortId) (v : Fin 32) : (sendMsix p v s).pending = s.pending := by
  unfold sendMsix; dsimp only; (repeat' split) <;> simp
@[simp] theorem sendMsix_free (p : PortId) (v : Fin 32) : (sendMsix p v s).free = s.free := by
  unfold sendMsix; dsimp only; (repeat' split) <;> simp
@[simp] theorem sendMsix_dev (p : PortId) (v : Fin 32) : (sendMsix p v s).dev = s.dev := by
  unfold sendMsix; dsimp only; (repeat' split) <;> simp
@[simp] theorem sendMsix_host (p : PortId) (v : Fin 32) : (sendMsix p v s).host = s.host := by
  unfold sendMsix; dsimp only; (repeat' split) <;> simp
@[simp] theorem sendMsix_plans (p : PortId) (v : Fin 32) : (sendMsix p v s).plans = s.plans := by
  unfold sendMsix; dsimp only; (repeat' split) <;> simp
@[simp] theorem sendMsix_params (p : PortId) (v : Fin 32) : (sendMsix p v s).params = s.params := by
  unfold sendMsix; dsimp only; (repeat' split) <;> simp
@[simp] theorem sendMsix_time (p : PortId) (v : Fin 32) : (sendMsix p v s).time = s.time := by
  unfold sendMsix; dsimp only; (repeat' split) <;> simp
@[simp] theorem sendMsix_records (p : PortId) (v : Fin 32) : (sendMsix p v s).records = s.records := by
  unfold sendMsix; dsimp only; (repeat' split) <;> simp
@[simp] theorem sendMsix_lanes (p : PortId) (v : Fin 32) : (sendMsix p v s).lanes = s.lanes := by
  unfold sendMsix; dsimp only; (repeat' split) <;> simp
@[simp] theorem sendMsix_plains (p : PortId) (v : Fin 32) : (sendMsix p v s).plains = s.plains := by
  unfold sendMsix; dsimp only; (repeat' split) <;> simp
@[simp] theorem sendMsix_terrace (p : PortId) (v : Fin 32) : (sendMsix p v s).terrace = s.terrace := by
  unfold sendMsix; dsimp only; (repeat' split) <;> simp
@[simp] theorem sendMsix_pool (p : PortId) (v : Fin 32) : (sendMsix p v s).pool = s.pool := by
  unfold sendMsix; dsimp only; (repeat' split) <;> simp
@[simp] theorem sendMsix_geyser (p : PortId) (v : Fin 32) : (sendMsix p v s).geyser = s.geyser := by
  unfold sendMsix; dsimp only; (repeat' split) <;> simp
@[simp] theorem sendMsix_basin (p : PortId) (v : Fin 32) : (sendMsix p v s).basin = s.basin := by
  unfold sendMsix; dsimp only; (repeat' split) <;> simp
@[simp] theorem sendMsix_caldera (p : PortId) (v : Fin 32) : (sendMsix p v s).caldera = s.caldera := by
  unfold sendMsix; dsimp only; (repeat' split) <;> simp
@[simp] theorem sendMsix_down (p : PortId) (v : Fin 32) : (sendMsix p v s).down = s.down := by
  unfold sendMsix; dsimp only; (repeat' split) <;> simp
@[simp] theorem sendMsix_evt (p : PortId) (v : Fin 32) : (sendMsix p v s).evt = s.evt := by
  unfold sendMsix; dsimp only; (repeat' split) <;> simp
@[simp] theorem sendMsix_fabric (p : PortId) (v : Fin 32) : (sendMsix p v s).fabric = s.fabric := by
  unfold sendMsix; dsimp only; (repeat' split) <;> simp
@[simp] theorem sendMsix_vent (p : PortId) (v : Fin 32) : (sendMsix p v s).vent = s.vent := by
  unfold sendMsix; dsimp only; (repeat' split) <;> simp
@[simp] theorem sendMsix_hostMem (p : PortId) (v : Fin 32) : (sendMsix p v s).hostMem = s.hostMem := by
  unfold sendMsix; dsimp only; (repeat' split) <;> simp

@[simp] theorem announce_pending (p : PortId) : (announce p s).pending = s.pending := by
  unfold announce; dsimp only; (repeat' split) <;> simp
@[simp] theorem announce_free (p : PortId) : (announce p s).free = s.free := by
  unfold announce; dsimp only; (repeat' split) <;> simp
@[simp] theorem announce_dev (p : PortId) : (announce p s).dev = s.dev := by
  unfold announce; dsimp only; (repeat' split) <;> simp
@[simp] theorem announce_host (p : PortId) : (announce p s).host = s.host := by
  unfold announce; dsimp only; (repeat' split) <;> simp
@[simp] theorem announce_plans (p : PortId) : (announce p s).plans = s.plans := by
  unfold announce; dsimp only; (repeat' split) <;> simp
@[simp] theorem announce_params (p : PortId) : (announce p s).params = s.params := by
  unfold announce; dsimp only; (repeat' split) <;> simp
@[simp] theorem announce_time (p : PortId) : (announce p s).time = s.time := by
  unfold announce; dsimp only; (repeat' split) <;> simp
@[simp] theorem announce_records (p : PortId) : (announce p s).records = s.records := by
  unfold announce; dsimp only; (repeat' split) <;> simp
@[simp] theorem announce_lanes (p : PortId) : (announce p s).lanes = s.lanes := by
  unfold announce; dsimp only; (repeat' split) <;> simp
@[simp] theorem announce_plains (p : PortId) : (announce p s).plains = s.plains := by
  unfold announce; dsimp only; (repeat' split) <;> simp
@[simp] theorem announce_terrace (p : PortId) : (announce p s).terrace = s.terrace := by
  unfold announce; dsimp only; (repeat' split) <;> simp
@[simp] theorem announce_pool (p : PortId) : (announce p s).pool = s.pool := by
  unfold announce; dsimp only; (repeat' split) <;> simp
@[simp] theorem announce_geyser (p : PortId) : (announce p s).geyser = s.geyser := by
  unfold announce; dsimp only; (repeat' split) <;> simp
@[simp] theorem announce_basin (p : PortId) : (announce p s).basin = s.basin := by
  unfold announce; dsimp only; (repeat' split) <;> simp
@[simp] theorem announce_caldera (p : PortId) : (announce p s).caldera = s.caldera := by
  unfold announce; dsimp only; (repeat' split) <;> simp
@[simp] theorem announce_down (p : PortId) : (announce p s).down = s.down := by
  unfold announce; dsimp only; (repeat' split) <;> simp
@[simp] theorem announce_evt (p : PortId) : (announce p s).evt = s.evt := by
  unfold announce; dsimp only; (repeat' split) <;> simp
@[simp] theorem announce_fabric (p : PortId) : (announce p s).fabric = s.fabric := by
  unfold announce; dsimp only; (repeat' split) <;> simp
@[simp] theorem announce_vent (p : PortId) : (announce p s).vent = s.vent := by
  unfold announce; dsimp only; (repeat' split) <;> simp
@[simp] theorem announce_hostMem (p : PortId) : (announce p s).hostMem = s.hostMem := by
  unfold announce; dsimp only; (repeat' split) <;> simp

@[simp] theorem writeEvent_pending (e : EvEntry) (p : PortId) : (writeEvent e p s).pending = s.pending := by
  unfold writeEvent; dsimp only; (repeat' split) <;> simp
@[simp] theorem writeEvent_free (e : EvEntry) (p : PortId) : (writeEvent e p s).free = s.free := by
  unfold writeEvent; dsimp only; (repeat' split) <;> simp
@[simp] theorem writeEvent_dev (e : EvEntry) (p : PortId) : (writeEvent e p s).dev = s.dev := by
  unfold writeEvent; dsimp only; (repeat' split) <;> simp
@[simp] theorem writeEvent_host (e : EvEntry) (p : PortId) : (writeEvent e p s).host = s.host := by
  unfold writeEvent; dsimp only; (repeat' split) <;> simp
@[simp] theorem writeEvent_plans (e : EvEntry) (p : PortId) : (writeEvent e p s).plans = s.plans := by
  unfold writeEvent; dsimp only; (repeat' split) <;> simp
@[simp] theorem writeEvent_params (e : EvEntry) (p : PortId) : (writeEvent e p s).params = s.params := by
  unfold writeEvent; dsimp only; (repeat' split) <;> simp
@[simp] theorem writeEvent_time (e : EvEntry) (p : PortId) : (writeEvent e p s).time = s.time := by
  unfold writeEvent; dsimp only; (repeat' split) <;> simp
@[simp] theorem writeEvent_records (e : EvEntry) (p : PortId) : (writeEvent e p s).records = s.records := by
  unfold writeEvent; dsimp only; (repeat' split) <;> simp
@[simp] theorem writeEvent_lanes (e : EvEntry) (p : PortId) : (writeEvent e p s).lanes = s.lanes := by
  unfold writeEvent; dsimp only; (repeat' split) <;> simp
@[simp] theorem writeEvent_plains (e : EvEntry) (p : PortId) : (writeEvent e p s).plains = s.plains := by
  unfold writeEvent; dsimp only; (repeat' split) <;> simp
@[simp] theorem writeEvent_terrace (e : EvEntry) (p : PortId) : (writeEvent e p s).terrace = s.terrace := by
  unfold writeEvent; dsimp only; (repeat' split) <;> simp
@[simp] theorem writeEvent_pool (e : EvEntry) (p : PortId) : (writeEvent e p s).pool = s.pool := by
  unfold writeEvent; dsimp only; (repeat' split) <;> simp
@[simp] theorem writeEvent_geyser (e : EvEntry) (p : PortId) : (writeEvent e p s).geyser = s.geyser := by
  unfold writeEvent; dsimp only; (repeat' split) <;> simp
@[simp] theorem writeEvent_basin (e : EvEntry) (p : PortId) : (writeEvent e p s).basin = s.basin := by
  unfold writeEvent; dsimp only; (repeat' split) <;> simp
@[simp] theorem writeEvent_caldera (e : EvEntry) (p : PortId) : (writeEvent e p s).caldera = s.caldera := by
  unfold writeEvent; dsimp only; (repeat' split) <;> simp
@[simp] theorem writeEvent_down (e : EvEntry) (p : PortId) : (writeEvent e p s).down = s.down := by
  unfold writeEvent; dsimp only; (repeat' split) <;> simp
@[simp] theorem writeEvent_evt (e : EvEntry) (p : PortId) : (writeEvent e p s).evt = s.evt := by
  unfold writeEvent; dsimp only; (repeat' split) <;> simp
@[simp] theorem writeEvent_fabric (e : EvEntry) (p : PortId) : (writeEvent e p s).fabric = s.fabric := by
  unfold writeEvent; dsimp only; (repeat' split) <;> simp
@[simp] theorem writeEvent_vent (e : EvEntry) (p : PortId) : (writeEvent e p s).vent = s.vent := by
  unfold writeEvent; dsimp only; (repeat' split) <;> simp
@[simp] theorem writeEvent_hostMem (e : EvEntry) (p : PortId) : (writeEvent e p s).hostMem = s.hostMem := by
  unfold writeEvent; dsimp only; (repeat' split) <;> simp

@[simp] theorem postEvent_pending (code sev : Nat) (domain : BitVec 5) (a0 a1 a2 : Nat) : (postEvent code sev domain a0 a1 a2 s).pending = s.pending := by
  simp [postEvent]
@[simp] theorem postEvent_free (code sev : Nat) (domain : BitVec 5) (a0 a1 a2 : Nat) : (postEvent code sev domain a0 a1 a2 s).free = s.free := by
  simp [postEvent]
@[simp] theorem postEvent_dev (code sev : Nat) (domain : BitVec 5) (a0 a1 a2 : Nat) : (postEvent code sev domain a0 a1 a2 s).dev = s.dev := by
  simp [postEvent]
@[simp] theorem postEvent_plans (code sev : Nat) (domain : BitVec 5) (a0 a1 a2 : Nat) : (postEvent code sev domain a0 a1 a2 s).plans = s.plans := by
  simp [postEvent]
@[simp] theorem postEvent_params (code sev : Nat) (domain : BitVec 5) (a0 a1 a2 : Nat) : (postEvent code sev domain a0 a1 a2 s).params = s.params := by
  simp [postEvent]
@[simp] theorem postEvent_time (code sev : Nat) (domain : BitVec 5) (a0 a1 a2 : Nat) : (postEvent code sev domain a0 a1 a2 s).time = s.time := by
  simp [postEvent]
@[simp] theorem postEvent_records (code sev : Nat) (domain : BitVec 5) (a0 a1 a2 : Nat) : (postEvent code sev domain a0 a1 a2 s).records = s.records := by
  simp [postEvent]
@[simp] theorem postEvent_lanes (code sev : Nat) (domain : BitVec 5) (a0 a1 a2 : Nat) : (postEvent code sev domain a0 a1 a2 s).lanes = s.lanes := by
  simp [postEvent]
@[simp] theorem postEvent_plains (code sev : Nat) (domain : BitVec 5) (a0 a1 a2 : Nat) : (postEvent code sev domain a0 a1 a2 s).plains = s.plains := by
  simp [postEvent]
@[simp] theorem postEvent_terrace (code sev : Nat) (domain : BitVec 5) (a0 a1 a2 : Nat) : (postEvent code sev domain a0 a1 a2 s).terrace = s.terrace := by
  simp [postEvent]
@[simp] theorem postEvent_pool (code sev : Nat) (domain : BitVec 5) (a0 a1 a2 : Nat) : (postEvent code sev domain a0 a1 a2 s).pool = s.pool := by
  simp [postEvent]
@[simp] theorem postEvent_geyser (code sev : Nat) (domain : BitVec 5) (a0 a1 a2 : Nat) : (postEvent code sev domain a0 a1 a2 s).geyser = s.geyser := by
  simp [postEvent]
@[simp] theorem postEvent_basin (code sev : Nat) (domain : BitVec 5) (a0 a1 a2 : Nat) : (postEvent code sev domain a0 a1 a2 s).basin = s.basin := by
  simp [postEvent]
@[simp] theorem postEvent_caldera (code sev : Nat) (domain : BitVec 5) (a0 a1 a2 : Nat) : (postEvent code sev domain a0 a1 a2 s).caldera = s.caldera := by
  simp [postEvent]
@[simp] theorem postEvent_down (code sev : Nat) (domain : BitVec 5) (a0 a1 a2 : Nat) : (postEvent code sev domain a0 a1 a2 s).down = s.down := by
  simp [postEvent]
@[simp] theorem postEvent_evt (code sev : Nat) (domain : BitVec 5) (a0 a1 a2 : Nat) : (postEvent code sev domain a0 a1 a2 s).evt = s.evt := by
  simp [postEvent]
@[simp] theorem postEvent_fabric (code sev : Nat) (domain : BitVec 5) (a0 a1 a2 : Nat) : (postEvent code sev domain a0 a1 a2 s).fabric = s.fabric := by
  simp [postEvent]
@[simp] theorem postEvent_vent (code sev : Nat) (domain : BitVec 5) (a0 a1 a2 : Nat) : (postEvent code sev domain a0 a1 a2 s).vent = s.vent := by
  simp [postEvent]
@[simp] theorem postEvent_hostMem (code sev : Nat) (domain : BitVec 5) (a0 a1 a2 : Nat) : (postEvent code sev domain a0 a1 a2 s).hostMem = s.hostMem := by
  simp [postEvent]

/-- Posting an event consumes one EV_SEQ and changes nothing else of what the two ports share (18 R368). -/
theorem postEvent_host (code sev : Nat) (domain : BitVec 5) (a0 a1 a2 : Nat) :
    (postEvent code sev domain a0 a1 a2 s).host = { s.host with evSeq := s.host.evSeq + 1 } := by
  simp [postEvent]

theorem emitOut_port (o : Out) (p : PortId) : (emitOut o s).port p = s.port p := rfl

/-! An MSI-X message or its pending bit touches nothing of a port but its pending bits (18 R370). -/

@[simp] theorem sendMsix_port_linkUp (p q : PortId) (v : Fin 32) :
    ((sendMsix p v s).port q).linkUp = (s.port q).linkUp := by
  unfold sendMsix
  dsimp only
  by_cases h : p = q
  · subst h; (repeat' split) <;> simp [emitOut_port]
  · (repeat' split) <;> simp [State.modPort_port_ne, h, emitOut_port]

@[simp] theorem sendMsix_port_maxPayload (p q : PortId) (v : Fin 32) :
    ((sendMsix p v s).port q).maxPayload = (s.port q).maxPayload := by
  unfold sendMsix
  dsimp only
  by_cases h : p = q
  · subst h; (repeat' split) <;> simp [emitOut_port]
  · (repeat' split) <;> simp [State.modPort_port_ne, h, emitOut_port]

@[simp] theorem sendMsix_port_msixEnable (p q : PortId) (v : Fin 32) :
    ((sendMsix p v s).port q).msixEnable = (s.port q).msixEnable := by
  unfold sendMsix
  dsimp only
  by_cases h : p = q
  · subst h; (repeat' split) <;> simp [emitOut_port]
  · (repeat' split) <;> simp [State.modPort_port_ne, h, emitOut_port]

@[simp] theorem sendMsix_port_funcMask (p q : PortId) (v : Fin 32) :
    ((sendMsix p v s).port q).funcMask = (s.port q).funcMask := by
  unfold sendMsix
  dsimp only
  by_cases h : p = q
  · subst h; (repeat' split) <;> simp [emitOut_port]
  · (repeat' split) <;> simp [State.modPort_port_ne, h, emitOut_port]

@[simp] theorem sendMsix_port_slots (p q : PortId) (v : Fin 32) :
    ((sendMsix p v s).port q).slots = (s.port q).slots := by
  unfold sendMsix
  dsimp only
  by_cases h : p = q
  · subst h; (repeat' split) <;> simp [emitOut_port]
  · (repeat' split) <;> simp [State.modPort_port_ne, h, emitOut_port]

@[simp] theorem sendMsix_port_flags (p q : PortId) (v : Fin 32) :
    ((sendMsix p v s).port q).flags = (s.port q).flags := by
  unfold sendMsix
  dsimp only
  by_cases h : p = q
  · subst h; (repeat' split) <;> simp [emitOut_port]
  · (repeat' split) <;> simp [State.modPort_port_ne, h, emitOut_port]

@[simp] theorem sendMsix_port_evHead (p q : PortId) (v : Fin 32) :
    ((sendMsix p v s).port q).evHead = (s.port q).evHead := by
  unfold sendMsix
  dsimp only
  by_cases h : p = q
  · subst h; (repeat' split) <;> simp [emitOut_port]
  · (repeat' split) <;> simp [State.modPort_port_ne, h, emitOut_port]

@[simp] theorem sendMsix_port_evTail (p q : PortId) (v : Fin 32) :
    ((sendMsix p v s).port q).evTail = (s.port q).evTail := by
  unfold sendMsix
  dsimp only
  by_cases h : p = q
  · subst h; (repeat' split) <;> simp [emitOut_port]
  · (repeat' split) <;> simp [State.modPort_port_ne, h, emitOut_port]

@[simp] theorem sendMsix_port_evLost (p q : PortId) (v : Fin 32) :
    ((sendMsix p v s).port q).evLost = (s.port q).evLost := by
  unfold sendMsix
  dsimp only
  by_cases h : p = q
  · subst h; (repeat' split) <;> simp [emitOut_port]
  · (repeat' split) <;> simp [State.modPort_port_ne, h, emitOut_port]

@[simp] theorem sendMsix_port_irqHoldoff (p q : PortId) (v : Fin 32) :
    ((sendMsix p v s).port q).irqHoldoff = (s.port q).irqHoldoff := by
  unfold sendMsix
  dsimp only
  by_cases h : p = q
  · subst h; (repeat' split) <;> simp [emitOut_port]
  · (repeat' split) <;> simp [State.modPort_port_ne, h, emitOut_port]

@[simp] theorem sendMsix_port_lastV0 (p q : PortId) (v : Fin 32) :
    ((sendMsix p v s).port q).lastV0 = (s.port q).lastV0 := by
  unfold sendMsix
  dsimp only
  by_cases h : p = q
  · subst h; (repeat' split) <;> simp [emitOut_port]
  · (repeat' split) <;> simp [State.modPort_port_ne, h, emitOut_port]

@[simp] theorem sendMsix_port_v0Waiting (p q : PortId) (v : Fin 32) :
    ((sendMsix p v s).port q).v0Waiting = (s.port q).v0Waiting := by
  unfold sendMsix
  dsimp only
  by_cases h : p = q
  · subst h; (repeat' split) <;> simp [emitOut_port]
  · (repeat' split) <;> simp [State.modPort_port_ne, h, emitOut_port]

@[simp] theorem sendMsix_port_ring (p q : PortId) (v : Fin 32) :
    ((sendMsix p v s).port q).ring = (s.port q).ring := by
  unfold sendMsix
  dsimp only
  by_cases h : p = q
  · subst h; (repeat' split) <;> simp [emitOut_port]
  · (repeat' split) <;> simp [State.modPort_port_ne, h, emitOut_port]

@[simp] theorem sendMsix_port_msix (p q : PortId) (v : Fin 32) :
    ((sendMsix p v s).port q).msix = (s.port q).msix := by
  unfold sendMsix
  dsimp only
  by_cases h : p = q
  · subst h; (repeat' split) <;> simp [emitOut_port]
  · (repeat' split) <;> simp [State.modPort_port_ne, h, emitOut_port]

@[simp] theorem sendMsix_port_lastRead (p q : PortId) (v : Fin 32) :
    ((sendMsix p v s).port q).lastRead = (s.port q).lastRead := by
  unfold sendMsix
  dsimp only
  by_cases h : p = q
  · subst h; (repeat' split) <;> simp [emitOut_port]
  · (repeat' split) <;> simp [State.modPort_port_ne, h, emitOut_port]

/-- Announcing an entry touches no slot, ring entry or flag of a port (18 R370). -/
theorem announce_slots (p q : PortId) : ((announce p s).port q).slots = (s.port q).slots := by
  unfold announce
  dsimp only
  by_cases h : p = q
  · subst h; (repeat' split) <;> simp
  · (repeat' split) <;> simp [State.modPort_port_ne, h]

/-- Writing an event entry touches no mailbox slot (18 R368). -/
theorem writeEvent_slots (e : EvEntry) (p q : PortId) : ((writeEvent e p s).port q).slots = (s.port q).slots := by
  unfold writeEvent
  dsimp only
  by_cases h : p = q
  · subst h; split <;> simp [raiseHost, announce_slots]
  · split <;> simp [raiseHost, announce_slots, State.modPort_port_ne, h]

/-- Posting an event touches no mailbox slot (18 R368). -/
theorem postEvent_slots (code sev : Nat) (domain : BitVec 5) (a0 a1 a2 : Nat) (q : PortId) :
    ((postEvent code sev domain a0 a1 a2 s).port q).slots = (s.port q).slots := by
  simp only [postEvent, writeEvent_slots]
  rfl

end Sys2Proof.Machine
end

