-- ==== Sys2Proof/Laws/Records.lean ====
section
/-! SUPPORT. What building and routing records, sending on the fabric, raising a fault and pulsing an event line can
change. -/

namespace Sys2Proof.Machine

variable (s : State)

/-- What every step of a fold keeps, the fold keeps. -/
theorem foldl_keep {α β γ : Type} (g : β → γ) (f : β → α → β) (h : ∀ b a, g (f b a) = g b) (l : List α) (b : β) :
    g (l.foldl f b) = g b := by
  induction l generalizing b with
  | nil => rfl
  | cons a t ih => rw [List.foldl_cons, ih, h]

/-- What every step of a fold keeps true, the fold keeps true. -/
theorem foldl_inv {α β : Type} (P : β → Prop) (f : β → α → β) (h : ∀ b a, P b → P (f b a)) (l : List α) (b : β)
    (hb : P b) : P (l.foldl f b) := by
  induction l generalizing b with
  | nil => exact hb
  | cons a t ih => exact ih _ (h _ _ hb)

@[simp] theorem dropOn_pending (i : Fin 25) : (dropOn i s).pending = s.pending := by
  rfl
@[simp] theorem dropOn_free (i : Fin 25) : (dropOn i s).free = s.free := by
  rfl
@[simp] theorem dropOn_out (i : Fin 25) : (dropOn i s).out = s.out := by
  rfl
@[simp] theorem dropOn_dev (i : Fin 25) : (dropOn i s).dev = s.dev := by
  rfl
@[simp] theorem dropOn_ports (i : Fin 25) : (dropOn i s).ports = s.ports := by
  rfl
@[simp] theorem dropOn_host (i : Fin 25) : (dropOn i s).host = s.host := by
  rfl
@[simp] theorem dropOn_plans (i : Fin 25) : (dropOn i s).plans = s.plans := by
  rfl
@[simp] theorem dropOn_params (i : Fin 25) : (dropOn i s).params = s.params := by
  rfl
@[simp] theorem dropOn_time (i : Fin 25) : (dropOn i s).time = s.time := by
  rfl
@[simp] theorem dropOn_lanes (i : Fin 25) : (dropOn i s).lanes = s.lanes := by
  rfl
@[simp] theorem dropOn_plains (i : Fin 25) : (dropOn i s).plains = s.plains := by
  rfl
@[simp] theorem dropOn_terrace (i : Fin 25) : (dropOn i s).terrace = s.terrace := by
  rfl
@[simp] theorem dropOn_pool (i : Fin 25) : (dropOn i s).pool = s.pool := by
  rfl
@[simp] theorem dropOn_geyser (i : Fin 25) : (dropOn i s).geyser = s.geyser := by
  rfl
@[simp] theorem dropOn_basin (i : Fin 25) : (dropOn i s).basin = s.basin := by
  rfl
@[simp] theorem dropOn_caldera (i : Fin 25) : (dropOn i s).caldera = s.caldera := by
  rfl
@[simp] theorem dropOn_down (i : Fin 25) : (dropOn i s).down = s.down := by
  rfl
@[simp] theorem dropOn_evt (i : Fin 25) : (dropOn i s).evt = s.evt := by
  rfl
@[simp] theorem dropOn_fabric (i : Fin 25) : (dropOn i s).fabric = s.fabric := by
  rfl
@[simp] theorem dropOn_vent (i : Fin 25) : (dropOn i s).vent = s.vent := by
  rfl
@[simp] theorem dropOn_hostMem (i : Fin 25) : (dropOn i s).hostMem = s.hostMem := by
  rfl

@[simp] theorem occupy_pending (i : Fin 25) (links : List (Fin 3)) (time bytes : Nat) : (occupy i links time bytes s).pending = s.pending := by
  rfl
@[simp] theorem occupy_free (i : Fin 25) (links : List (Fin 3)) (time bytes : Nat) : (occupy i links time bytes s).free = s.free := by
  rfl
@[simp] theorem occupy_out (i : Fin 25) (links : List (Fin 3)) (time bytes : Nat) : (occupy i links time bytes s).out = s.out := by
  rfl
@[simp] theorem occupy_dev (i : Fin 25) (links : List (Fin 3)) (time bytes : Nat) : (occupy i links time bytes s).dev = s.dev := by
  rfl
@[simp] theorem occupy_ports (i : Fin 25) (links : List (Fin 3)) (time bytes : Nat) : (occupy i links time bytes s).ports = s.ports := by
  rfl
@[simp] theorem occupy_host (i : Fin 25) (links : List (Fin 3)) (time bytes : Nat) : (occupy i links time bytes s).host = s.host := by
  rfl
@[simp] theorem occupy_plans (i : Fin 25) (links : List (Fin 3)) (time bytes : Nat) : (occupy i links time bytes s).plans = s.plans := by
  rfl
@[simp] theorem occupy_params (i : Fin 25) (links : List (Fin 3)) (time bytes : Nat) : (occupy i links time bytes s).params = s.params := by
  rfl
@[simp] theorem occupy_time (i : Fin 25) (links : List (Fin 3)) (time bytes : Nat) : (occupy i links time bytes s).time = s.time := by
  rfl
@[simp] theorem occupy_lanes (i : Fin 25) (links : List (Fin 3)) (time bytes : Nat) : (occupy i links time bytes s).lanes = s.lanes := by
  rfl
@[simp] theorem occupy_plains (i : Fin 25) (links : List (Fin 3)) (time bytes : Nat) : (occupy i links time bytes s).plains = s.plains := by
  rfl
@[simp] theorem occupy_terrace (i : Fin 25) (links : List (Fin 3)) (time bytes : Nat) : (occupy i links time bytes s).terrace = s.terrace := by
  rfl
@[simp] theorem occupy_pool (i : Fin 25) (links : List (Fin 3)) (time bytes : Nat) : (occupy i links time bytes s).pool = s.pool := by
  rfl
@[simp] theorem occupy_geyser (i : Fin 25) (links : List (Fin 3)) (time bytes : Nat) : (occupy i links time bytes s).geyser = s.geyser := by
  rfl
@[simp] theorem occupy_basin (i : Fin 25) (links : List (Fin 3)) (time bytes : Nat) : (occupy i links time bytes s).basin = s.basin := by
  rfl
@[simp] theorem occupy_caldera (i : Fin 25) (links : List (Fin 3)) (time bytes : Nat) : (occupy i links time bytes s).caldera = s.caldera := by
  rfl
@[simp] theorem occupy_down (i : Fin 25) (links : List (Fin 3)) (time bytes : Nat) : (occupy i links time bytes s).down = s.down := by
  rfl
@[simp] theorem occupy_evt (i : Fin 25) (links : List (Fin 3)) (time bytes : Nat) : (occupy i links time bytes s).evt = s.evt := by
  rfl
@[simp] theorem occupy_fabric (i : Fin 25) (links : List (Fin 3)) (time bytes : Nat) : (occupy i links time bytes s).fabric = s.fabric := by
  rfl
@[simp] theorem occupy_vent (i : Fin 25) (links : List (Fin 3)) (time bytes : Nat) : (occupy i links time bytes s).vent = s.vent := by
  rfl
@[simp] theorem occupy_hostMem (i : Fin 25) (links : List (Fin 3)) (time bytes : Nat) : (occupy i links time bytes s).hostMem = s.hostMem := by
  rfl

@[simp] theorem sendDatagram_pending (i : Fin 8) (payload : List Byte) : (sendDatagram i payload s).pending = s.pending := by
  unfold sendDatagram; exact (foldl_keep State.pending _ (by intros; rfl) _ _).trans rfl
@[simp] theorem sendDatagram_free (i : Fin 8) (payload : List Byte) : (sendDatagram i payload s).free = s.free := by
  unfold sendDatagram; exact (foldl_keep State.free _ (by intros; rfl) _ _).trans rfl
@[simp] theorem sendDatagram_dev (i : Fin 8) (payload : List Byte) : (sendDatagram i payload s).dev = s.dev := by
  unfold sendDatagram; exact (foldl_keep State.dev _ (by intros; rfl) _ _).trans rfl
@[simp] theorem sendDatagram_ports (i : Fin 8) (payload : List Byte) : (sendDatagram i payload s).ports = s.ports := by
  unfold sendDatagram; exact (foldl_keep State.ports _ (by intros; rfl) _ _).trans rfl
@[simp] theorem sendDatagram_host (i : Fin 8) (payload : List Byte) : (sendDatagram i payload s).host = s.host := by
  unfold sendDatagram; exact (foldl_keep State.host _ (by intros; rfl) _ _).trans rfl
@[simp] theorem sendDatagram_plans (i : Fin 8) (payload : List Byte) : (sendDatagram i payload s).plans = s.plans := by
  unfold sendDatagram; exact (foldl_keep State.plans _ (by intros; rfl) _ _).trans rfl
@[simp] theorem sendDatagram_params (i : Fin 8) (payload : List Byte) : (sendDatagram i payload s).params = s.params := by
  unfold sendDatagram; exact (foldl_keep State.params _ (by intros; rfl) _ _).trans rfl
@[simp] theorem sendDatagram_time (i : Fin 8) (payload : List Byte) : (sendDatagram i payload s).time = s.time := by
  unfold sendDatagram; exact (foldl_keep State.time _ (by intros; rfl) _ _).trans rfl
@[simp] theorem sendDatagram_lanes (i : Fin 8) (payload : List Byte) : (sendDatagram i payload s).lanes = s.lanes := by
  unfold sendDatagram; exact (foldl_keep State.lanes _ (by intros; rfl) _ _).trans rfl
@[simp] theorem sendDatagram_plains (i : Fin 8) (payload : List Byte) : (sendDatagram i payload s).plains = s.plains := by
  unfold sendDatagram; exact (foldl_keep State.plains _ (by intros; rfl) _ _).trans rfl
@[simp] theorem sendDatagram_terrace (i : Fin 8) (payload : List Byte) : (sendDatagram i payload s).terrace = s.terrace := by
  unfold sendDatagram; exact (foldl_keep State.terrace _ (by intros; rfl) _ _).trans rfl
@[simp] theorem sendDatagram_pool (i : Fin 8) (payload : List Byte) : (sendDatagram i payload s).pool = s.pool := by
  unfold sendDatagram; exact (foldl_keep State.pool _ (by intros; rfl) _ _).trans rfl
@[simp] theorem sendDatagram_geyser (i : Fin 8) (payload : List Byte) : (sendDatagram i payload s).geyser = s.geyser := by
  unfold sendDatagram; exact (foldl_keep State.geyser _ (by intros; rfl) _ _).trans rfl
@[simp] theorem sendDatagram_basin (i : Fin 8) (payload : List Byte) : (sendDatagram i payload s).basin = s.basin := by
  unfold sendDatagram; exact (foldl_keep State.basin _ (by intros; rfl) _ _).trans rfl
@[simp] theorem sendDatagram_caldera (i : Fin 8) (payload : List Byte) : (sendDatagram i payload s).caldera = s.caldera := by
  unfold sendDatagram; exact (foldl_keep State.caldera _ (by intros; rfl) _ _).trans rfl
@[simp] theorem sendDatagram_down (i : Fin 8) (payload : List Byte) : (sendDatagram i payload s).down = s.down := by
  unfold sendDatagram; exact (foldl_keep State.down _ (by intros; rfl) _ _).trans rfl
@[simp] theorem sendDatagram_evt (i : Fin 8) (payload : List Byte) : (sendDatagram i payload s).evt = s.evt := by
  unfold sendDatagram; exact (foldl_keep State.evt _ (by intros; rfl) _ _).trans rfl
@[simp] theorem sendDatagram_fabric (i : Fin 8) (payload : List Byte) : (sendDatagram i payload s).fabric = s.fabric := by
  unfold sendDatagram; exact (foldl_keep State.fabric _ (by intros; rfl) _ _).trans rfl
@[simp] theorem sendDatagram_vent (i : Fin 8) (payload : List Byte) : (sendDatagram i payload s).vent = s.vent := by
  unfold sendDatagram; exact (foldl_keep State.vent _ (by intros; rfl) _ _).trans rfl
@[simp] theorem sendDatagram_hostMem (i : Fin 8) (payload : List Byte) : (sendDatagram i payload s).hostMem = s.hostMem := by
  unfold sendDatagram; exact (foldl_keep State.hostMem _ (by intros; rfl) _ _).trans rfl

@[simp] theorem flushUdp_pending (i : Fin 8) : (flushUdp i s).pending = s.pending := by
  unfold flushUdp; dsimp only; split; · rfl
  split; · simp
  exact (foldl_keep State.pending _ (by intros; rfl) _ _).trans rfl
@[simp] theorem flushUdp_free (i : Fin 8) : (flushUdp i s).free = s.free := by
  unfold flushUdp; dsimp only; split; · rfl
  split; · simp
  exact (foldl_keep State.free _ (by intros; rfl) _ _).trans rfl
@[simp] theorem flushUdp_dev (i : Fin 8) : (flushUdp i s).dev = s.dev := by
  unfold flushUdp; dsimp only; split; · rfl
  split; · simp
  exact (foldl_keep State.dev _ (by intros; rfl) _ _).trans rfl
@[simp] theorem flushUdp_ports (i : Fin 8) : (flushUdp i s).ports = s.ports := by
  unfold flushUdp; dsimp only; split; · rfl
  split; · simp
  exact (foldl_keep State.ports _ (by intros; rfl) _ _).trans rfl
@[simp] theorem flushUdp_host (i : Fin 8) : (flushUdp i s).host = s.host := by
  unfold flushUdp; dsimp only; split; · rfl
  split; · simp
  exact (foldl_keep State.host _ (by intros; rfl) _ _).trans rfl
@[simp] theorem flushUdp_plans (i : Fin 8) : (flushUdp i s).plans = s.plans := by
  unfold flushUdp; dsimp only; split; · rfl
  split; · simp
  exact (foldl_keep State.plans _ (by intros; rfl) _ _).trans rfl
@[simp] theorem flushUdp_params (i : Fin 8) : (flushUdp i s).params = s.params := by
  unfold flushUdp; dsimp only; split; · rfl
  split; · simp
  exact (foldl_keep State.params _ (by intros; rfl) _ _).trans rfl
@[simp] theorem flushUdp_time (i : Fin 8) : (flushUdp i s).time = s.time := by
  unfold flushUdp; dsimp only; split; · rfl
  split; · simp
  exact (foldl_keep State.time _ (by intros; rfl) _ _).trans rfl
@[simp] theorem flushUdp_lanes (i : Fin 8) : (flushUdp i s).lanes = s.lanes := by
  unfold flushUdp; dsimp only; split; · rfl
  split; · simp
  exact (foldl_keep State.lanes _ (by intros; rfl) _ _).trans rfl
@[simp] theorem flushUdp_plains (i : Fin 8) : (flushUdp i s).plains = s.plains := by
  unfold flushUdp; dsimp only; split; · rfl
  split; · simp
  exact (foldl_keep State.plains _ (by intros; rfl) _ _).trans rfl
@[simp] theorem flushUdp_terrace (i : Fin 8) : (flushUdp i s).terrace = s.terrace := by
  unfold flushUdp; dsimp only; split; · rfl
  split; · simp
  exact (foldl_keep State.terrace _ (by intros; rfl) _ _).trans rfl
@[simp] theorem flushUdp_pool (i : Fin 8) : (flushUdp i s).pool = s.pool := by
  unfold flushUdp; dsimp only; split; · rfl
  split; · simp
  exact (foldl_keep State.pool _ (by intros; rfl) _ _).trans rfl
@[simp] theorem flushUdp_geyser (i : Fin 8) : (flushUdp i s).geyser = s.geyser := by
  unfold flushUdp; dsimp only; split; · rfl
  split; · simp
  exact (foldl_keep State.geyser _ (by intros; rfl) _ _).trans rfl
@[simp] theorem flushUdp_basin (i : Fin 8) : (flushUdp i s).basin = s.basin := by
  unfold flushUdp; dsimp only; split; · rfl
  split; · simp
  exact (foldl_keep State.basin _ (by intros; rfl) _ _).trans rfl
@[simp] theorem flushUdp_caldera (i : Fin 8) : (flushUdp i s).caldera = s.caldera := by
  unfold flushUdp; dsimp only; split; · rfl
  split; · simp
  exact (foldl_keep State.caldera _ (by intros; rfl) _ _).trans rfl
@[simp] theorem flushUdp_down (i : Fin 8) : (flushUdp i s).down = s.down := by
  unfold flushUdp; dsimp only; split; · rfl
  split; · simp
  exact (foldl_keep State.down _ (by intros; rfl) _ _).trans rfl
@[simp] theorem flushUdp_evt (i : Fin 8) : (flushUdp i s).evt = s.evt := by
  unfold flushUdp; dsimp only; split; · rfl
  split; · simp
  exact (foldl_keep State.evt _ (by intros; rfl) _ _).trans rfl
@[simp] theorem flushUdp_fabric (i : Fin 8) : (flushUdp i s).fabric = s.fabric := by
  unfold flushUdp; dsimp only; split; · rfl
  split; · simp
  exact (foldl_keep State.fabric _ (by intros; rfl) _ _).trans rfl
@[simp] theorem flushUdp_vent (i : Fin 8) : (flushUdp i s).vent = s.vent := by
  unfold flushUdp; dsimp only; split; · rfl
  split; · simp
  exact (foldl_keep State.vent _ (by intros; rfl) _ _).trans rfl
@[simp] theorem flushUdp_hostMem (i : Fin 8) : (flushUdp i s).hostMem = s.hostMem := by
  unfold flushUdp; dsimp only; split; · rfl
  split; · simp
  exact (foldl_keep State.hostMem _ (by intros; rfl) _ _).trans rfl

@[simp] theorem placeUdp_pending (i : Fin 8) (bs : List Byte) : (placeUdp i bs s).pending = s.pending := by
  unfold placeUdp; dsimp only; (repeat' split) <;> simp
@[simp] theorem placeUdp_free (i : Fin 8) (bs : List Byte) : (placeUdp i bs s).free = s.free := by
  unfold placeUdp; dsimp only; (repeat' split) <;> simp
@[simp] theorem placeUdp_dev (i : Fin 8) (bs : List Byte) : (placeUdp i bs s).dev = s.dev := by
  unfold placeUdp; dsimp only; (repeat' split) <;> simp
@[simp] theorem placeUdp_ports (i : Fin 8) (bs : List Byte) : (placeUdp i bs s).ports = s.ports := by
  unfold placeUdp; dsimp only; (repeat' split) <;> simp
@[simp] theorem placeUdp_host (i : Fin 8) (bs : List Byte) : (placeUdp i bs s).host = s.host := by
  unfold placeUdp; dsimp only; (repeat' split) <;> simp
@[simp] theorem placeUdp_plans (i : Fin 8) (bs : List Byte) : (placeUdp i bs s).plans = s.plans := by
  unfold placeUdp; dsimp only; (repeat' split) <;> simp
@[simp] theorem placeUdp_params (i : Fin 8) (bs : List Byte) : (placeUdp i bs s).params = s.params := by
  unfold placeUdp; dsimp only; (repeat' split) <;> simp
@[simp] theorem placeUdp_time (i : Fin 8) (bs : List Byte) : (placeUdp i bs s).time = s.time := by
  unfold placeUdp; dsimp only; (repeat' split) <;> simp
@[simp] theorem placeUdp_lanes (i : Fin 8) (bs : List Byte) : (placeUdp i bs s).lanes = s.lanes := by
  unfold placeUdp; dsimp only; (repeat' split) <;> simp
@[simp] theorem placeUdp_plains (i : Fin 8) (bs : List Byte) : (placeUdp i bs s).plains = s.plains := by
  unfold placeUdp; dsimp only; (repeat' split) <;> simp
@[simp] theorem placeUdp_terrace (i : Fin 8) (bs : List Byte) : (placeUdp i bs s).terrace = s.terrace := by
  unfold placeUdp; dsimp only; (repeat' split) <;> simp
@[simp] theorem placeUdp_pool (i : Fin 8) (bs : List Byte) : (placeUdp i bs s).pool = s.pool := by
  unfold placeUdp; dsimp only; (repeat' split) <;> simp
@[simp] theorem placeUdp_geyser (i : Fin 8) (bs : List Byte) : (placeUdp i bs s).geyser = s.geyser := by
  unfold placeUdp; dsimp only; (repeat' split) <;> simp
@[simp] theorem placeUdp_basin (i : Fin 8) (bs : List Byte) : (placeUdp i bs s).basin = s.basin := by
  unfold placeUdp; dsimp only; (repeat' split) <;> simp
@[simp] theorem placeUdp_caldera (i : Fin 8) (bs : List Byte) : (placeUdp i bs s).caldera = s.caldera := by
  unfold placeUdp; dsimp only; (repeat' split) <;> simp
@[simp] theorem placeUdp_down (i : Fin 8) (bs : List Byte) : (placeUdp i bs s).down = s.down := by
  unfold placeUdp; dsimp only; (repeat' split) <;> simp
@[simp] theorem placeUdp_evt (i : Fin 8) (bs : List Byte) : (placeUdp i bs s).evt = s.evt := by
  unfold placeUdp; dsimp only; (repeat' split) <;> simp
@[simp] theorem placeUdp_fabric (i : Fin 8) (bs : List Byte) : (placeUdp i bs s).fabric = s.fabric := by
  unfold placeUdp; dsimp only; (repeat' split) <;> simp
@[simp] theorem placeUdp_vent (i : Fin 8) (bs : List Byte) : (placeUdp i bs s).vent = s.vent := by
  unfold placeUdp; dsimp only; (repeat' split) <;> simp
@[simp] theorem placeUdp_hostMem (i : Fin 8) (bs : List Byte) : (placeUdp i bs s).hostMem = s.hostMem := by
  unfold placeUdp; dsimp only; (repeat' split) <;> simp

@[simp] theorem sendOn_pending (lanes : List (Fin 12)) (m : FabricMsg) : (sendOn lanes m s).pending = s.pending := by
  unfold sendOn; exact foldl_keep State.pending _ (by intros; split <;> simp) _ _
@[simp] theorem sendOn_free (lanes : List (Fin 12)) (m : FabricMsg) : (sendOn lanes m s).free = s.free := by
  unfold sendOn; exact foldl_keep State.free _ (by intros; split <;> simp) _ _
@[simp] theorem sendOn_dev (lanes : List (Fin 12)) (m : FabricMsg) : (sendOn lanes m s).dev = s.dev := by
  unfold sendOn; exact foldl_keep State.dev _ (by intros; split <;> simp) _ _
@[simp] theorem sendOn_ports (lanes : List (Fin 12)) (m : FabricMsg) : (sendOn lanes m s).ports = s.ports := by
  unfold sendOn; exact foldl_keep State.ports _ (by intros; split <;> simp) _ _
@[simp] theorem sendOn_host (lanes : List (Fin 12)) (m : FabricMsg) : (sendOn lanes m s).host = s.host := by
  unfold sendOn; exact foldl_keep State.host _ (by intros; split <;> simp) _ _
@[simp] theorem sendOn_plans (lanes : List (Fin 12)) (m : FabricMsg) : (sendOn lanes m s).plans = s.plans := by
  unfold sendOn; exact foldl_keep State.plans _ (by intros; split <;> simp) _ _
@[simp] theorem sendOn_params (lanes : List (Fin 12)) (m : FabricMsg) : (sendOn lanes m s).params = s.params := by
  unfold sendOn; exact foldl_keep State.params _ (by intros; split <;> simp) _ _
@[simp] theorem sendOn_time (lanes : List (Fin 12)) (m : FabricMsg) : (sendOn lanes m s).time = s.time := by
  unfold sendOn; exact foldl_keep State.time _ (by intros; split <;> simp) _ _
@[simp] theorem sendOn_records (lanes : List (Fin 12)) (m : FabricMsg) : (sendOn lanes m s).records = s.records := by
  unfold sendOn; exact foldl_keep State.records _ (by intros; split <;> simp) _ _
@[simp] theorem sendOn_lanes (lanes : List (Fin 12)) (m : FabricMsg) : (sendOn lanes m s).lanes = s.lanes := by
  unfold sendOn; exact foldl_keep State.lanes _ (by intros; split <;> simp) _ _
@[simp] theorem sendOn_plains (lanes : List (Fin 12)) (m : FabricMsg) : (sendOn lanes m s).plains = s.plains := by
  unfold sendOn; exact foldl_keep State.plains _ (by intros; split <;> simp) _ _
@[simp] theorem sendOn_terrace (lanes : List (Fin 12)) (m : FabricMsg) : (sendOn lanes m s).terrace = s.terrace := by
  unfold sendOn; exact foldl_keep State.terrace _ (by intros; split <;> simp) _ _
@[simp] theorem sendOn_pool (lanes : List (Fin 12)) (m : FabricMsg) : (sendOn lanes m s).pool = s.pool := by
  unfold sendOn; exact foldl_keep State.pool _ (by intros; split <;> simp) _ _
@[simp] theorem sendOn_geyser (lanes : List (Fin 12)) (m : FabricMsg) : (sendOn lanes m s).geyser = s.geyser := by
  unfold sendOn; exact foldl_keep State.geyser _ (by intros; split <;> simp) _ _
@[simp] theorem sendOn_basin (lanes : List (Fin 12)) (m : FabricMsg) : (sendOn lanes m s).basin = s.basin := by
  unfold sendOn; exact foldl_keep State.basin _ (by intros; split <;> simp) _ _
@[simp] theorem sendOn_caldera (lanes : List (Fin 12)) (m : FabricMsg) : (sendOn lanes m s).caldera = s.caldera := by
  unfold sendOn; exact foldl_keep State.caldera _ (by intros; split <;> simp) _ _
@[simp] theorem sendOn_down (lanes : List (Fin 12)) (m : FabricMsg) : (sendOn lanes m s).down = s.down := by
  unfold sendOn; exact foldl_keep State.down _ (by intros; split <;> simp) _ _
@[simp] theorem sendOn_evt (lanes : List (Fin 12)) (m : FabricMsg) : (sendOn lanes m s).evt = s.evt := by
  unfold sendOn; exact foldl_keep State.evt _ (by intros; split <;> simp) _ _
@[simp] theorem sendOn_fabric (lanes : List (Fin 12)) (m : FabricMsg) : (sendOn lanes m s).fabric = s.fabric := by
  unfold sendOn; exact foldl_keep State.fabric _ (by intros; split <;> simp) _ _
@[simp] theorem sendOn_vent (lanes : List (Fin 12)) (m : FabricMsg) : (sendOn lanes m s).vent = s.vent := by
  unfold sendOn; exact foldl_keep State.vent _ (by intros; split <;> simp) _ _
@[simp] theorem sendOn_hostMem (lanes : List (Fin 12)) (m : FabricMsg) : (sendOn lanes m s).hostMem = s.hostMem := by
  unfold sendOn; exact foldl_keep State.hostMem _ (by intros; split <;> simp) _ _

@[simp] theorem originate_pending (lanes : List (Fin 12)) (dst : Nat) (first last : Bool) (b : FabBody) : (originate lanes dst first last b s).pending = s.pending := by
  simp [originate]
@[simp] theorem originate_free (lanes : List (Fin 12)) (dst : Nat) (first last : Bool) (b : FabBody) : (originate lanes dst first last b s).free = s.free := by
  simp [originate]
@[simp] theorem originate_dev (lanes : List (Fin 12)) (dst : Nat) (first last : Bool) (b : FabBody) : (originate lanes dst first last b s).dev = s.dev := by
  simp [originate]
@[simp] theorem originate_ports (lanes : List (Fin 12)) (dst : Nat) (first last : Bool) (b : FabBody) : (originate lanes dst first last b s).ports = s.ports := by
  simp [originate]
@[simp] theorem originate_host (lanes : List (Fin 12)) (dst : Nat) (first last : Bool) (b : FabBody) : (originate lanes dst first last b s).host = s.host := by
  simp [originate]
@[simp] theorem originate_plans (lanes : List (Fin 12)) (dst : Nat) (first last : Bool) (b : FabBody) : (originate lanes dst first last b s).plans = s.plans := by
  simp [originate]
@[simp] theorem originate_params (lanes : List (Fin 12)) (dst : Nat) (first last : Bool) (b : FabBody) : (originate lanes dst first last b s).params = s.params := by
  simp [originate]
@[simp] theorem originate_time (lanes : List (Fin 12)) (dst : Nat) (first last : Bool) (b : FabBody) : (originate lanes dst first last b s).time = s.time := by
  simp [originate]
@[simp] theorem originate_records (lanes : List (Fin 12)) (dst : Nat) (first last : Bool) (b : FabBody) : (originate lanes dst first last b s).records = s.records := by
  simp [originate]
@[simp] theorem originate_lanes (lanes : List (Fin 12)) (dst : Nat) (first last : Bool) (b : FabBody) : (originate lanes dst first last b s).lanes = s.lanes := by
  simp [originate]
@[simp] theorem originate_plains (lanes : List (Fin 12)) (dst : Nat) (first last : Bool) (b : FabBody) : (originate lanes dst first last b s).plains = s.plains := by
  simp [originate]
@[simp] theorem originate_terrace (lanes : List (Fin 12)) (dst : Nat) (first last : Bool) (b : FabBody) : (originate lanes dst first last b s).terrace = s.terrace := by
  simp [originate]
@[simp] theorem originate_pool (lanes : List (Fin 12)) (dst : Nat) (first last : Bool) (b : FabBody) : (originate lanes dst first last b s).pool = s.pool := by
  simp [originate]
@[simp] theorem originate_geyser (lanes : List (Fin 12)) (dst : Nat) (first last : Bool) (b : FabBody) : (originate lanes dst first last b s).geyser = s.geyser := by
  simp [originate]
@[simp] theorem originate_basin (lanes : List (Fin 12)) (dst : Nat) (first last : Bool) (b : FabBody) : (originate lanes dst first last b s).basin = s.basin := by
  simp [originate]
@[simp] theorem originate_caldera (lanes : List (Fin 12)) (dst : Nat) (first last : Bool) (b : FabBody) : (originate lanes dst first last b s).caldera = s.caldera := by
  simp [originate]
@[simp] theorem originate_down (lanes : List (Fin 12)) (dst : Nat) (first last : Bool) (b : FabBody) : (originate lanes dst first last b s).down = s.down := by
  simp [originate]
@[simp] theorem originate_evt (lanes : List (Fin 12)) (dst : Nat) (first last : Bool) (b : FabBody) : (originate lanes dst first last b s).evt = s.evt := by
  simp [originate]
@[simp] theorem originate_vent (lanes : List (Fin 12)) (dst : Nat) (first last : Bool) (b : FabBody) : (originate lanes dst first last b s).vent = s.vent := by
  simp [originate]
@[simp] theorem originate_hostMem (lanes : List (Fin 12)) (dst : Nat) (first last : Bool) (b : FabBody) : (originate lanes dst first last b s).hostMem = s.hostMem := by
  simp [originate]

@[simp] theorem enter_pending (i : Fin 25) (seq : U32) (r : Record) : (enter i seq r s).pending = s.pending := by
  unfold enter; (repeat' split) <;> simp
@[simp] theorem enter_free (i : Fin 25) (seq : U32) (r : Record) : (enter i seq r s).free = s.free := by
  unfold enter; (repeat' split) <;> simp
@[simp] theorem enter_dev (i : Fin 25) (seq : U32) (r : Record) : (enter i seq r s).dev = s.dev := by
  unfold enter; (repeat' split) <;> simp
@[simp] theorem enter_ports (i : Fin 25) (seq : U32) (r : Record) : (enter i seq r s).ports = s.ports := by
  unfold enter; (repeat' split) <;> simp
@[simp] theorem enter_host (i : Fin 25) (seq : U32) (r : Record) : (enter i seq r s).host = s.host := by
  unfold enter; (repeat' split) <;> simp
@[simp] theorem enter_plans (i : Fin 25) (seq : U32) (r : Record) : (enter i seq r s).plans = s.plans := by
  unfold enter; (repeat' split) <;> simp
@[simp] theorem enter_params (i : Fin 25) (seq : U32) (r : Record) : (enter i seq r s).params = s.params := by
  unfold enter; (repeat' split) <;> simp
@[simp] theorem enter_time (i : Fin 25) (seq : U32) (r : Record) : (enter i seq r s).time = s.time := by
  unfold enter; (repeat' split) <;> simp
@[simp] theorem enter_lanes (i : Fin 25) (seq : U32) (r : Record) : (enter i seq r s).lanes = s.lanes := by
  unfold enter; (repeat' split) <;> simp
@[simp] theorem enter_plains (i : Fin 25) (seq : U32) (r : Record) : (enter i seq r s).plains = s.plains := by
  unfold enter; (repeat' split) <;> simp
@[simp] theorem enter_terrace (i : Fin 25) (seq : U32) (r : Record) : (enter i seq r s).terrace = s.terrace := by
  unfold enter; (repeat' split) <;> simp
@[simp] theorem enter_pool (i : Fin 25) (seq : U32) (r : Record) : (enter i seq r s).pool = s.pool := by
  unfold enter; (repeat' split) <;> simp
@[simp] theorem enter_geyser (i : Fin 25) (seq : U32) (r : Record) : (enter i seq r s).geyser = s.geyser := by
  unfold enter; (repeat' split) <;> simp
@[simp] theorem enter_basin (i : Fin 25) (seq : U32) (r : Record) : (enter i seq r s).basin = s.basin := by
  unfold enter; (repeat' split) <;> simp
@[simp] theorem enter_caldera (i : Fin 25) (seq : U32) (r : Record) : (enter i seq r s).caldera = s.caldera := by
  unfold enter; (repeat' split) <;> simp
@[simp] theorem enter_down (i : Fin 25) (seq : U32) (r : Record) : (enter i seq r s).down = s.down := by
  unfold enter; (repeat' split) <;> simp
@[simp] theorem enter_evt (i : Fin 25) (seq : U32) (r : Record) : (enter i seq r s).evt = s.evt := by
  unfold enter; (repeat' split) <;> simp
@[simp] theorem enter_vent (i : Fin 25) (seq : U32) (r : Record) : (enter i seq r s).vent = s.vent := by
  unfold enter; (repeat' split) <;> simp
@[simp] theorem enter_hostMem (i : Fin 25) (seq : U32) (r : Record) : (enter i seq r s).hostMem = s.hostMem := by
  unfold enter; (repeat' split) <;> simp

@[simp] theorem deliver_pending (i : Fin 25) (seq : U32) (r : Record) : (deliver i seq r s).pending = s.pending := by
  unfold deliver; split <;> simp
@[simp] theorem deliver_free (i : Fin 25) (seq : U32) (r : Record) : (deliver i seq r s).free = s.free := by
  unfold deliver; split <;> simp
@[simp] theorem deliver_dev (i : Fin 25) (seq : U32) (r : Record) : (deliver i seq r s).dev = s.dev := by
  unfold deliver; split <;> simp
@[simp] theorem deliver_ports (i : Fin 25) (seq : U32) (r : Record) : (deliver i seq r s).ports = s.ports := by
  unfold deliver; split <;> simp
@[simp] theorem deliver_host (i : Fin 25) (seq : U32) (r : Record) : (deliver i seq r s).host = s.host := by
  unfold deliver; split <;> simp
@[simp] theorem deliver_plans (i : Fin 25) (seq : U32) (r : Record) : (deliver i seq r s).plans = s.plans := by
  unfold deliver; split <;> simp
@[simp] theorem deliver_params (i : Fin 25) (seq : U32) (r : Record) : (deliver i seq r s).params = s.params := by
  unfold deliver; split <;> simp
@[simp] theorem deliver_time (i : Fin 25) (seq : U32) (r : Record) : (deliver i seq r s).time = s.time := by
  unfold deliver; split <;> simp
@[simp] theorem deliver_lanes (i : Fin 25) (seq : U32) (r : Record) : (deliver i seq r s).lanes = s.lanes := by
  unfold deliver; split <;> simp
@[simp] theorem deliver_plains (i : Fin 25) (seq : U32) (r : Record) : (deliver i seq r s).plains = s.plains := by
  unfold deliver; split <;> simp
@[simp] theorem deliver_terrace (i : Fin 25) (seq : U32) (r : Record) : (deliver i seq r s).terrace = s.terrace := by
  unfold deliver; split <;> simp
@[simp] theorem deliver_pool (i : Fin 25) (seq : U32) (r : Record) : (deliver i seq r s).pool = s.pool := by
  unfold deliver; split <;> simp
@[simp] theorem deliver_geyser (i : Fin 25) (seq : U32) (r : Record) : (deliver i seq r s).geyser = s.geyser := by
  unfold deliver; split <;> simp
@[simp] theorem deliver_basin (i : Fin 25) (seq : U32) (r : Record) : (deliver i seq r s).basin = s.basin := by
  unfold deliver; split <;> simp
@[simp] theorem deliver_caldera (i : Fin 25) (seq : U32) (r : Record) : (deliver i seq r s).caldera = s.caldera := by
  unfold deliver; split <;> simp
@[simp] theorem deliver_down (i : Fin 25) (seq : U32) (r : Record) : (deliver i seq r s).down = s.down := by
  unfold deliver; split <;> simp
@[simp] theorem deliver_evt (i : Fin 25) (seq : U32) (r : Record) : (deliver i seq r s).evt = s.evt := by
  unfold deliver; split <;> simp
@[simp] theorem deliver_vent (i : Fin 25) (seq : U32) (r : Record) : (deliver i seq r s).vent = s.vent := by
  unfold deliver; split <;> simp
@[simp] theorem deliver_hostMem (i : Fin 25) (seq : U32) (r : Record) : (deliver i seq r s).hostMem = s.hostMem := by
  unfold deliver; split <;> simp

@[simp] theorem assign_pending (r : Record) (i : Fin 25) : (assign r s i).pending = s.pending := by
  unfold assign; dsimp only; split <;> simp
@[simp] theorem assign_free (r : Record) (i : Fin 25) : (assign r s i).free = s.free := by
  unfold assign; dsimp only; split <;> simp
@[simp] theorem assign_dev (r : Record) (i : Fin 25) : (assign r s i).dev = s.dev := by
  unfold assign; dsimp only; split <;> simp
@[simp] theorem assign_ports (r : Record) (i : Fin 25) : (assign r s i).ports = s.ports := by
  unfold assign; dsimp only; split <;> simp
@[simp] theorem assign_host (r : Record) (i : Fin 25) : (assign r s i).host = s.host := by
  unfold assign; dsimp only; split <;> simp
@[simp] theorem assign_plans (r : Record) (i : Fin 25) : (assign r s i).plans = s.plans := by
  unfold assign; dsimp only; split <;> simp
@[simp] theorem assign_params (r : Record) (i : Fin 25) : (assign r s i).params = s.params := by
  unfold assign; dsimp only; split <;> simp
@[simp] theorem assign_time (r : Record) (i : Fin 25) : (assign r s i).time = s.time := by
  unfold assign; dsimp only; split <;> simp
@[simp] theorem assign_lanes (r : Record) (i : Fin 25) : (assign r s i).lanes = s.lanes := by
  unfold assign; dsimp only; split <;> simp
@[simp] theorem assign_plains (r : Record) (i : Fin 25) : (assign r s i).plains = s.plains := by
  unfold assign; dsimp only; split <;> simp
@[simp] theorem assign_terrace (r : Record) (i : Fin 25) : (assign r s i).terrace = s.terrace := by
  unfold assign; dsimp only; split <;> simp
@[simp] theorem assign_pool (r : Record) (i : Fin 25) : (assign r s i).pool = s.pool := by
  unfold assign; dsimp only; split <;> simp
@[simp] theorem assign_geyser (r : Record) (i : Fin 25) : (assign r s i).geyser = s.geyser := by
  unfold assign; dsimp only; split <;> simp
@[simp] theorem assign_basin (r : Record) (i : Fin 25) : (assign r s i).basin = s.basin := by
  unfold assign; dsimp only; split <;> simp
@[simp] theorem assign_caldera (r : Record) (i : Fin 25) : (assign r s i).caldera = s.caldera := by
  unfold assign; dsimp only; split <;> simp
@[simp] theorem assign_down (r : Record) (i : Fin 25) : (assign r s i).down = s.down := by
  unfold assign; dsimp only; split <;> simp
@[simp] theorem assign_evt (r : Record) (i : Fin 25) : (assign r s i).evt = s.evt := by
  unfold assign; dsimp only; split <;> simp
@[simp] theorem assign_vent (r : Record) (i : Fin 25) : (assign r s i).vent = s.vent := by
  unfold assign; dsimp only; split <;> simp
@[simp] theorem assign_hostMem (r : Record) (i : Fin 25) : (assign r s i).hostMem = s.hostMem := by
  unfold assign; dsimp only; split <;> simp

@[simp] theorem assignMask_pending (mask : Nat) (r : Record) : (assignMask mask r s).pending = s.pending := by
  unfold assignMask; exact foldl_keep State.pending _ (by intros; simp) _ _
@[simp] theorem assignMask_free (mask : Nat) (r : Record) : (assignMask mask r s).free = s.free := by
  unfold assignMask; exact foldl_keep State.free _ (by intros; simp) _ _
@[simp] theorem assignMask_dev (mask : Nat) (r : Record) : (assignMask mask r s).dev = s.dev := by
  unfold assignMask; exact foldl_keep State.dev _ (by intros; simp) _ _
@[simp] theorem assignMask_ports (mask : Nat) (r : Record) : (assignMask mask r s).ports = s.ports := by
  unfold assignMask; exact foldl_keep State.ports _ (by intros; simp) _ _
@[simp] theorem assignMask_host (mask : Nat) (r : Record) : (assignMask mask r s).host = s.host := by
  unfold assignMask; exact foldl_keep State.host _ (by intros; simp) _ _
@[simp] theorem assignMask_plans (mask : Nat) (r : Record) : (assignMask mask r s).plans = s.plans := by
  unfold assignMask; exact foldl_keep State.plans _ (by intros; simp) _ _
@[simp] theorem assignMask_params (mask : Nat) (r : Record) : (assignMask mask r s).params = s.params := by
  unfold assignMask; exact foldl_keep State.params _ (by intros; simp) _ _
@[simp] theorem assignMask_time (mask : Nat) (r : Record) : (assignMask mask r s).time = s.time := by
  unfold assignMask; exact foldl_keep State.time _ (by intros; simp) _ _
@[simp] theorem assignMask_lanes (mask : Nat) (r : Record) : (assignMask mask r s).lanes = s.lanes := by
  unfold assignMask; exact foldl_keep State.lanes _ (by intros; simp) _ _
@[simp] theorem assignMask_plains (mask : Nat) (r : Record) : (assignMask mask r s).plains = s.plains := by
  unfold assignMask; exact foldl_keep State.plains _ (by intros; simp) _ _
@[simp] theorem assignMask_terrace (mask : Nat) (r : Record) : (assignMask mask r s).terrace = s.terrace := by
  unfold assignMask; exact foldl_keep State.terrace _ (by intros; simp) _ _
@[simp] theorem assignMask_pool (mask : Nat) (r : Record) : (assignMask mask r s).pool = s.pool := by
  unfold assignMask; exact foldl_keep State.pool _ (by intros; simp) _ _
@[simp] theorem assignMask_geyser (mask : Nat) (r : Record) : (assignMask mask r s).geyser = s.geyser := by
  unfold assignMask; exact foldl_keep State.geyser _ (by intros; simp) _ _
@[simp] theorem assignMask_basin (mask : Nat) (r : Record) : (assignMask mask r s).basin = s.basin := by
  unfold assignMask; exact foldl_keep State.basin _ (by intros; simp) _ _
@[simp] theorem assignMask_caldera (mask : Nat) (r : Record) : (assignMask mask r s).caldera = s.caldera := by
  unfold assignMask; exact foldl_keep State.caldera _ (by intros; simp) _ _
@[simp] theorem assignMask_down (mask : Nat) (r : Record) : (assignMask mask r s).down = s.down := by
  unfold assignMask; exact foldl_keep State.down _ (by intros; simp) _ _
@[simp] theorem assignMask_evt (mask : Nat) (r : Record) : (assignMask mask r s).evt = s.evt := by
  unfold assignMask; exact foldl_keep State.evt _ (by intros; simp) _ _
@[simp] theorem assignMask_vent (mask : Nat) (r : Record) : (assignMask mask r s).vent = s.vent := by
  unfold assignMask; exact foldl_keep State.vent _ (by intros; simp) _ _
@[simp] theorem assignMask_hostMem (mask : Nat) (r : Record) : (assignMask mask r s).hostMem = s.hostMem := by
  unfold assignMask; exact foldl_keep State.hostMem _ (by intros; simp) _ _

@[simp] theorem emitSpec_pending (j : Nat) (r : Record) : (emitSpec j r s).pending = s.pending := by
  simp [emitSpec]
@[simp] theorem emitSpec_free (j : Nat) (r : Record) : (emitSpec j r s).free = s.free := by
  simp [emitSpec]
@[simp] theorem emitSpec_dev (j : Nat) (r : Record) : (emitSpec j r s).dev = s.dev := by
  simp [emitSpec]
@[simp] theorem emitSpec_ports (j : Nat) (r : Record) : (emitSpec j r s).ports = s.ports := by
  simp [emitSpec]
@[simp] theorem emitSpec_host (j : Nat) (r : Record) : (emitSpec j r s).host = s.host := by
  simp [emitSpec]
@[simp] theorem emitSpec_plans (j : Nat) (r : Record) : (emitSpec j r s).plans = s.plans := by
  simp [emitSpec]
@[simp] theorem emitSpec_params (j : Nat) (r : Record) : (emitSpec j r s).params = s.params := by
  simp [emitSpec]
@[simp] theorem emitSpec_time (j : Nat) (r : Record) : (emitSpec j r s).time = s.time := by
  simp [emitSpec]
@[simp] theorem emitSpec_lanes (j : Nat) (r : Record) : (emitSpec j r s).lanes = s.lanes := by
  simp [emitSpec]
@[simp] theorem emitSpec_plains (j : Nat) (r : Record) : (emitSpec j r s).plains = s.plains := by
  simp [emitSpec]
@[simp] theorem emitSpec_terrace (j : Nat) (r : Record) : (emitSpec j r s).terrace = s.terrace := by
  simp [emitSpec]
@[simp] theorem emitSpec_pool (j : Nat) (r : Record) : (emitSpec j r s).pool = s.pool := by
  simp [emitSpec]
@[simp] theorem emitSpec_geyser (j : Nat) (r : Record) : (emitSpec j r s).geyser = s.geyser := by
  simp [emitSpec]
@[simp] theorem emitSpec_basin (j : Nat) (r : Record) : (emitSpec j r s).basin = s.basin := by
  simp [emitSpec]
@[simp] theorem emitSpec_caldera (j : Nat) (r : Record) : (emitSpec j r s).caldera = s.caldera := by
  simp [emitSpec]
@[simp] theorem emitSpec_down (j : Nat) (r : Record) : (emitSpec j r s).down = s.down := by
  simp [emitSpec]
@[simp] theorem emitSpec_evt (j : Nat) (r : Record) : (emitSpec j r s).evt = s.evt := by
  simp [emitSpec]
@[simp] theorem emitSpec_vent (j : Nat) (r : Record) : (emitSpec j r s).vent = s.vent := by
  simp [emitSpec]
@[simp] theorem emitSpec_hostMem (j : Nat) (r : Record) : (emitSpec j r s).hostMem = s.hostMem := by
  simp [emitSpec]

@[simp] theorem emit_pending (r : Record) : (emit r s).pending = s.pending := by
  simp [emit]
@[simp] theorem emit_free (r : Record) : (emit r s).free = s.free := by
  simp [emit]
@[simp] theorem emit_dev (r : Record) : (emit r s).dev = s.dev := by
  simp [emit]
@[simp] theorem emit_ports (r : Record) : (emit r s).ports = s.ports := by
  simp [emit]
@[simp] theorem emit_host (r : Record) : (emit r s).host = s.host := by
  simp [emit]
@[simp] theorem emit_plans (r : Record) : (emit r s).plans = s.plans := by
  simp [emit]
@[simp] theorem emit_params (r : Record) : (emit r s).params = s.params := by
  simp [emit]
@[simp] theorem emit_time (r : Record) : (emit r s).time = s.time := by
  simp [emit]
@[simp] theorem emit_lanes (r : Record) : (emit r s).lanes = s.lanes := by
  simp [emit]
@[simp] theorem emit_plains (r : Record) : (emit r s).plains = s.plains := by
  simp [emit]
@[simp] theorem emit_terrace (r : Record) : (emit r s).terrace = s.terrace := by
  simp [emit]
@[simp] theorem emit_pool (r : Record) : (emit r s).pool = s.pool := by
  simp [emit]
@[simp] theorem emit_geyser (r : Record) : (emit r s).geyser = s.geyser := by
  simp [emit]
@[simp] theorem emit_basin (r : Record) : (emit r s).basin = s.basin := by
  simp [emit]
@[simp] theorem emit_caldera (r : Record) : (emit r s).caldera = s.caldera := by
  simp [emit]
@[simp] theorem emit_down (r : Record) : (emit r s).down = s.down := by
  simp [emit]
@[simp] theorem emit_evt (r : Record) : (emit r s).evt = s.evt := by
  simp [emit]
@[simp] theorem emit_vent (r : Record) : (emit r s).vent = s.vent := by
  simp [emit]
@[simp] theorem emit_hostMem (r : Record) : (emit r s).hostMem = s.hostMem := by
  simp [emit]

@[simp] theorem timeRecord_pending  : (timeRecord  s).pending = s.pending := by
  simp [timeRecord]
@[simp] theorem timeRecord_free  : (timeRecord  s).free = s.free := by
  simp [timeRecord]
@[simp] theorem timeRecord_dev  : (timeRecord  s).dev = s.dev := by
  simp [timeRecord]
@[simp] theorem timeRecord_ports  : (timeRecord  s).ports = s.ports := by
  simp [timeRecord]
@[simp] theorem timeRecord_host  : (timeRecord  s).host = s.host := by
  simp [timeRecord]
@[simp] theorem timeRecord_plans  : (timeRecord  s).plans = s.plans := by
  simp [timeRecord]
@[simp] theorem timeRecord_params  : (timeRecord  s).params = s.params := by
  simp [timeRecord]
@[simp] theorem timeRecord_time  : (timeRecord  s).time = s.time := by
  simp [timeRecord]
@[simp] theorem timeRecord_lanes  : (timeRecord  s).lanes = s.lanes := by
  simp [timeRecord]
@[simp] theorem timeRecord_plains  : (timeRecord  s).plains = s.plains := by
  simp [timeRecord]
@[simp] theorem timeRecord_terrace  : (timeRecord  s).terrace = s.terrace := by
  simp [timeRecord]
@[simp] theorem timeRecord_pool  : (timeRecord  s).pool = s.pool := by
  simp [timeRecord]
@[simp] theorem timeRecord_geyser  : (timeRecord  s).geyser = s.geyser := by
  simp [timeRecord]
@[simp] theorem timeRecord_basin  : (timeRecord  s).basin = s.basin := by
  simp [timeRecord]
@[simp] theorem timeRecord_caldera  : (timeRecord  s).caldera = s.caldera := by
  simp [timeRecord]
@[simp] theorem timeRecord_down  : (timeRecord  s).down = s.down := by
  simp [timeRecord]
@[simp] theorem timeRecord_evt  : (timeRecord  s).evt = s.evt := by
  simp [timeRecord]
@[simp] theorem timeRecord_vent  : (timeRecord  s).vent = s.vent := by
  simp [timeRecord]
@[simp] theorem timeRecord_hostMem  : (timeRecord  s).hostMem = s.hostMem := by
  simp [timeRecord]

@[simp] theorem raiseTime_pending (f : Fin 7) : (raiseTime f s).pending = s.pending := by
  rfl
@[simp] theorem raiseTime_free (f : Fin 7) : (raiseTime f s).free = s.free := by
  rfl
@[simp] theorem raiseTime_out (f : Fin 7) : (raiseTime f s).out = s.out := by
  rfl
@[simp] theorem raiseTime_dev (f : Fin 7) : (raiseTime f s).dev = s.dev := by
  rfl
@[simp] theorem raiseTime_ports (f : Fin 7) : (raiseTime f s).ports = s.ports := by
  rfl
@[simp] theorem raiseTime_host (f : Fin 7) : (raiseTime f s).host = s.host := by
  rfl
@[simp] theorem raiseTime_plans (f : Fin 7) : (raiseTime f s).plans = s.plans := by
  rfl
@[simp] theorem raiseTime_params (f : Fin 7) : (raiseTime f s).params = s.params := by
  rfl
@[simp] theorem raiseTime_records (f : Fin 7) : (raiseTime f s).records = s.records := by
  rfl
@[simp] theorem raiseTime_lanes (f : Fin 7) : (raiseTime f s).lanes = s.lanes := by
  rfl
@[simp] theorem raiseTime_plains (f : Fin 7) : (raiseTime f s).plains = s.plains := by
  rfl
@[simp] theorem raiseTime_terrace (f : Fin 7) : (raiseTime f s).terrace = s.terrace := by
  rfl
@[simp] theorem raiseTime_pool (f : Fin 7) : (raiseTime f s).pool = s.pool := by
  rfl
@[simp] theorem raiseTime_geyser (f : Fin 7) : (raiseTime f s).geyser = s.geyser := by
  rfl
@[simp] theorem raiseTime_basin (f : Fin 7) : (raiseTime f s).basin = s.basin := by
  rfl
@[simp] theorem raiseTime_caldera (f : Fin 7) : (raiseTime f s).caldera = s.caldera := by
  rfl
@[simp] theorem raiseTime_down (f : Fin 7) : (raiseTime f s).down = s.down := by
  rfl
@[simp] theorem raiseTime_evt (f : Fin 7) : (raiseTime f s).evt = s.evt := by
  rfl
@[simp] theorem raiseTime_fabric (f : Fin 7) : (raiseTime f s).fabric = s.fabric := by
  rfl
@[simp] theorem raiseTime_vent (f : Fin 7) : (raiseTime f s).vent = s.vent := by
  rfl
@[simp] theorem raiseTime_hostMem (f : Fin 7) : (raiseTime f s).hostMem = s.hostMem := by
  rfl

@[simp] theorem select_pending  : (select  s).pending = s.pending := by
  unfold select; dsimp only; split <;> simp
@[simp] theorem select_free  : (select  s).free = s.free := by
  unfold select; dsimp only; split <;> simp
@[simp] theorem select_dev  : (select  s).dev = s.dev := by
  unfold select; dsimp only; split <;> simp
@[simp] theorem select_plans  : (select  s).plans = s.plans := by
  unfold select; dsimp only; split <;> simp
@[simp] theorem select_params  : (select  s).params = s.params := by
  unfold select; dsimp only; split <;> simp
@[simp] theorem select_lanes  : (select  s).lanes = s.lanes := by
  unfold select; dsimp only; split <;> simp
@[simp] theorem select_plains  : (select  s).plains = s.plains := by
  unfold select; dsimp only; split <;> simp
@[simp] theorem select_terrace  : (select  s).terrace = s.terrace := by
  unfold select; dsimp only; split <;> simp
@[simp] theorem select_pool  : (select  s).pool = s.pool := by
  unfold select; dsimp only; split <;> simp
@[simp] theorem select_geyser  : (select  s).geyser = s.geyser := by
  unfold select; dsimp only; split <;> simp
@[simp] theorem select_basin  : (select  s).basin = s.basin := by
  unfold select; dsimp only; split <;> simp
@[simp] theorem select_caldera  : (select  s).caldera = s.caldera := by
  unfold select; dsimp only; split <;> simp
@[simp] theorem select_down  : (select  s).down = s.down := by
  unfold select; dsimp only; split <;> simp
@[simp] theorem select_evt  : (select  s).evt = s.evt := by
  unfold select; dsimp only; split <;> simp
@[simp] theorem select_vent  : (select  s).vent = s.vent := by
  unfold select; dsimp only; split <;> simp
@[simp] theorem select_hostMem  : (select  s).hostMem = s.hostMem := by
  unfold select; dsimp only; split <;> simp

@[simp] theorem markOk_pending (d : Fin 2) (b : Bool) : (markOk d b s).pending = s.pending := by
  unfold markOk; split <;> simp
@[simp] theorem markOk_free (d : Fin 2) (b : Bool) : (markOk d b s).free = s.free := by
  unfold markOk; split <;> simp
@[simp] theorem markOk_dev (d : Fin 2) (b : Bool) : (markOk d b s).dev = s.dev := by
  unfold markOk; split <;> simp
@[simp] theorem markOk_plans (d : Fin 2) (b : Bool) : (markOk d b s).plans = s.plans := by
  unfold markOk; split <;> simp
@[simp] theorem markOk_params (d : Fin 2) (b : Bool) : (markOk d b s).params = s.params := by
  unfold markOk; split <;> simp
@[simp] theorem markOk_lanes (d : Fin 2) (b : Bool) : (markOk d b s).lanes = s.lanes := by
  unfold markOk; split <;> simp
@[simp] theorem markOk_plains (d : Fin 2) (b : Bool) : (markOk d b s).plains = s.plains := by
  unfold markOk; split <;> simp
@[simp] theorem markOk_terrace (d : Fin 2) (b : Bool) : (markOk d b s).terrace = s.terrace := by
  unfold markOk; split <;> simp
@[simp] theorem markOk_pool (d : Fin 2) (b : Bool) : (markOk d b s).pool = s.pool := by
  unfold markOk; split <;> simp
@[simp] theorem markOk_geyser (d : Fin 2) (b : Bool) : (markOk d b s).geyser = s.geyser := by
  unfold markOk; split <;> simp
@[simp] theorem markOk_basin (d : Fin 2) (b : Bool) : (markOk d b s).basin = s.basin := by
  unfold markOk; split <;> simp
@[simp] theorem markOk_caldera (d : Fin 2) (b : Bool) : (markOk d b s).caldera = s.caldera := by
  unfold markOk; split <;> simp
@[simp] theorem markOk_down (d : Fin 2) (b : Bool) : (markOk d b s).down = s.down := by
  unfold markOk; split <;> simp
@[simp] theorem markOk_evt (d : Fin 2) (b : Bool) : (markOk d b s).evt = s.evt := by
  unfold markOk; split <;> simp
@[simp] theorem markOk_vent (d : Fin 2) (b : Bool) : (markOk d b s).vent = s.vent := by
  unfold markOk; split <;> simp
@[simp] theorem markOk_hostMem (d : Fin 2) (b : Bool) : (markOk d b s).hostMem = s.hostMem := by
  unfold markOk; split <;> simp

@[simp] theorem enterPortState_pending (d : Fin 2) (p : PortState) : (enterPortState d p s).pending = s.pending := by
  unfold enterPortState; dsimp only; split <;> simp
@[simp] theorem enterPortState_free (d : Fin 2) (p : PortState) : (enterPortState d p s).free = s.free := by
  unfold enterPortState; dsimp only; split <;> simp
@[simp] theorem enterPortState_dev (d : Fin 2) (p : PortState) : (enterPortState d p s).dev = s.dev := by
  unfold enterPortState; dsimp only; split <;> simp
@[simp] theorem enterPortState_plans (d : Fin 2) (p : PortState) : (enterPortState d p s).plans = s.plans := by
  unfold enterPortState; dsimp only; split <;> simp
@[simp] theorem enterPortState_params (d : Fin 2) (p : PortState) : (enterPortState d p s).params = s.params := by
  unfold enterPortState; dsimp only; split <;> simp
@[simp] theorem enterPortState_lanes (d : Fin 2) (p : PortState) : (enterPortState d p s).lanes = s.lanes := by
  unfold enterPortState; dsimp only; split <;> simp
@[simp] theorem enterPortState_plains (d : Fin 2) (p : PortState) : (enterPortState d p s).plains = s.plains := by
  unfold enterPortState; dsimp only; split <;> simp
@[simp] theorem enterPortState_terrace (d : Fin 2) (p : PortState) : (enterPortState d p s).terrace = s.terrace := by
  unfold enterPortState; dsimp only; split <;> simp
@[simp] theorem enterPortState_pool (d : Fin 2) (p : PortState) : (enterPortState d p s).pool = s.pool := by
  unfold enterPortState; dsimp only; split <;> simp
@[simp] theorem enterPortState_geyser (d : Fin 2) (p : PortState) : (enterPortState d p s).geyser = s.geyser := by
  unfold enterPortState; dsimp only; split <;> simp
@[simp] theorem enterPortState_basin (d : Fin 2) (p : PortState) : (enterPortState d p s).basin = s.basin := by
  unfold enterPortState; dsimp only; split <;> simp
@[simp] theorem enterPortState_caldera (d : Fin 2) (p : PortState) : (enterPortState d p s).caldera = s.caldera := by
  unfold enterPortState; dsimp only; split <;> simp
@[simp] theorem enterPortState_down (d : Fin 2) (p : PortState) : (enterPortState d p s).down = s.down := by
  unfold enterPortState; dsimp only; split <;> simp
@[simp] theorem enterPortState_evt (d : Fin 2) (p : PortState) : (enterPortState d p s).evt = s.evt := by
  unfold enterPortState; dsimp only; split <;> simp
@[simp] theorem enterPortState_vent (d : Fin 2) (p : PortState) : (enterPortState d p s).vent = s.vent := by
  unfold enterPortState; dsimp only; split <;> simp
@[simp] theorem enterPortState_hostMem (d : Fin 2) (p : PortState) : (enterPortState d p s).hostMem = s.hostMem := by
  unfold enterPortState; dsimp only; split <;> simp

@[simp] theorem restartDomain_pending (d : Fin 2) : (restartDomain d s).pending = s.pending := by
  simp [restartDomain]
@[simp] theorem restartDomain_free (d : Fin 2) : (restartDomain d s).free = s.free := by
  simp [restartDomain]
@[simp] theorem restartDomain_dev (d : Fin 2) : (restartDomain d s).dev = s.dev := by
  simp [restartDomain]
@[simp] theorem restartDomain_plans (d : Fin 2) : (restartDomain d s).plans = s.plans := by
  simp [restartDomain]
@[simp] theorem restartDomain_params (d : Fin 2) : (restartDomain d s).params = s.params := by
  simp [restartDomain]
@[simp] theorem restartDomain_lanes (d : Fin 2) : (restartDomain d s).lanes = s.lanes := by
  simp [restartDomain]
@[simp] theorem restartDomain_plains (d : Fin 2) : (restartDomain d s).plains = s.plains := by
  simp [restartDomain]
@[simp] theorem restartDomain_terrace (d : Fin 2) : (restartDomain d s).terrace = s.terrace := by
  simp [restartDomain]
@[simp] theorem restartDomain_pool (d : Fin 2) : (restartDomain d s).pool = s.pool := by
  simp [restartDomain]
@[simp] theorem restartDomain_geyser (d : Fin 2) : (restartDomain d s).geyser = s.geyser := by
  simp [restartDomain]
@[simp] theorem restartDomain_basin (d : Fin 2) : (restartDomain d s).basin = s.basin := by
  simp [restartDomain]
@[simp] theorem restartDomain_caldera (d : Fin 2) : (restartDomain d s).caldera = s.caldera := by
  simp [restartDomain]
@[simp] theorem restartDomain_down (d : Fin 2) : (restartDomain d s).down = s.down := by
  simp [restartDomain]
@[simp] theorem restartDomain_evt (d : Fin 2) : (restartDomain d s).evt = s.evt := by
  simp [restartDomain]
@[simp] theorem restartDomain_vent (d : Fin 2) : (restartDomain d s).vent = s.vent := by
  simp [restartDomain]
@[simp] theorem restartDomain_hostMem (d : Fin 2) : (restartDomain d s).hostMem = s.hostMem := by
  simp [restartDomain]

/-- What an evaluation of each domain keeps, the evaluation of both keeps (14 R283). -/
theorem evaluate_keep {γ : Type} (g : State → γ) (one : Fin 2 → State → State) (h : ∀ d s, g (one d s) = g s)
    (hs : ∀ s, g (select s) = g s) : g (evaluate one s) = g s := by
  unfold evaluate; dsimp only; split <;> simp [h, hs]

@[simp] theorem ethChange_pending (which : Fin 2 → Bool) (up : Bool) : (ethChange which up s).pending = s.pending := by
  unfold ethChange; rw [evaluate_keep _ State.pending _ (by intros; (repeat' split) <;> simp) (by simp)]
@[simp] theorem ethChange_free (which : Fin 2 → Bool) (up : Bool) : (ethChange which up s).free = s.free := by
  unfold ethChange; rw [evaluate_keep _ State.free _ (by intros; (repeat' split) <;> simp) (by simp)]
@[simp] theorem ethChange_dev (which : Fin 2 → Bool) (up : Bool) : (ethChange which up s).dev = s.dev := by
  unfold ethChange; rw [evaluate_keep _ State.dev _ (by intros; (repeat' split) <;> simp) (by simp)]
@[simp] theorem ethChange_plans (which : Fin 2 → Bool) (up : Bool) : (ethChange which up s).plans = s.plans := by
  unfold ethChange; rw [evaluate_keep _ State.plans _ (by intros; (repeat' split) <;> simp) (by simp)]
@[simp] theorem ethChange_params (which : Fin 2 → Bool) (up : Bool) : (ethChange which up s).params = s.params := by
  unfold ethChange; rw [evaluate_keep _ State.params _ (by intros; (repeat' split) <;> simp) (by simp)]
@[simp] theorem ethChange_lanes (which : Fin 2 → Bool) (up : Bool) : (ethChange which up s).lanes = s.lanes := by
  unfold ethChange; rw [evaluate_keep _ State.lanes _ (by intros; (repeat' split) <;> simp) (by simp)]
@[simp] theorem ethChange_plains (which : Fin 2 → Bool) (up : Bool) : (ethChange which up s).plains = s.plains := by
  unfold ethChange; rw [evaluate_keep _ State.plains _ (by intros; (repeat' split) <;> simp) (by simp)]
@[simp] theorem ethChange_terrace (which : Fin 2 → Bool) (up : Bool) : (ethChange which up s).terrace = s.terrace := by
  unfold ethChange; rw [evaluate_keep _ State.terrace _ (by intros; (repeat' split) <;> simp) (by simp)]
@[simp] theorem ethChange_pool (which : Fin 2 → Bool) (up : Bool) : (ethChange which up s).pool = s.pool := by
  unfold ethChange; rw [evaluate_keep _ State.pool _ (by intros; (repeat' split) <;> simp) (by simp)]
@[simp] theorem ethChange_geyser (which : Fin 2 → Bool) (up : Bool) : (ethChange which up s).geyser = s.geyser := by
  unfold ethChange; rw [evaluate_keep _ State.geyser _ (by intros; (repeat' split) <;> simp) (by simp)]
@[simp] theorem ethChange_basin (which : Fin 2 → Bool) (up : Bool) : (ethChange which up s).basin = s.basin := by
  unfold ethChange; rw [evaluate_keep _ State.basin _ (by intros; (repeat' split) <;> simp) (by simp)]
@[simp] theorem ethChange_caldera (which : Fin 2 → Bool) (up : Bool) : (ethChange which up s).caldera = s.caldera := by
  unfold ethChange; rw [evaluate_keep _ State.caldera _ (by intros; (repeat' split) <;> simp) (by simp)]
@[simp] theorem ethChange_down (which : Fin 2 → Bool) (up : Bool) : (ethChange which up s).down = s.down := by
  unfold ethChange; rw [evaluate_keep _ State.down _ (by intros; (repeat' split) <;> simp) (by simp)]
@[simp] theorem ethChange_evt (which : Fin 2 → Bool) (up : Bool) : (ethChange which up s).evt = s.evt := by
  unfold ethChange; rw [evaluate_keep _ State.evt _ (by intros; (repeat' split) <;> simp) (by simp)]
@[simp] theorem ethChange_vent (which : Fin 2 → Bool) (up : Bool) : (ethChange which up s).vent = s.vent := by
  unfold ethChange; rw [evaluate_keep _ State.vent _ (by intros; (repeat' split) <;> simp) (by simp)]
@[simp] theorem ethChange_hostMem (which : Fin 2 → Bool) (up : Bool) : (ethChange which up s).hostMem = s.hostMem := by
  unfold ethChange; rw [evaluate_keep _ State.hostMem _ (by intros; (repeat' split) <;> simp) (by simp)]

@[simp] theorem settleFcos_pending  : (settleFcos  s).pending = s.pending := by
  exact foldl_keep State.pending _ (by intros; rfl) _ _
@[simp] theorem settleFcos_free  : (settleFcos  s).free = s.free := by
  exact foldl_keep State.free _ (by intros; rfl) _ _
@[simp] theorem settleFcos_out  : (settleFcos  s).out = s.out := by
  exact foldl_keep State.out _ (by intros; rfl) _ _
@[simp] theorem settleFcos_dev  : (settleFcos  s).dev = s.dev := by
  exact foldl_keep State.dev _ (by intros; rfl) _ _
@[simp] theorem settleFcos_ports  : (settleFcos  s).ports = s.ports := by
  exact foldl_keep State.ports _ (by intros; rfl) _ _
@[simp] theorem settleFcos_host  : (settleFcos  s).host = s.host := by
  exact foldl_keep State.host _ (by intros; rfl) _ _
@[simp] theorem settleFcos_plans  : (settleFcos  s).plans = s.plans := by
  exact foldl_keep State.plans _ (by intros; rfl) _ _
@[simp] theorem settleFcos_params  : (settleFcos  s).params = s.params := by
  exact foldl_keep State.params _ (by intros; rfl) _ _
@[simp] theorem settleFcos_time  : (settleFcos  s).time = s.time := by
  exact foldl_keep State.time _ (by intros; rfl) _ _
@[simp] theorem settleFcos_records  : (settleFcos  s).records = s.records := by
  exact foldl_keep State.records _ (by intros; rfl) _ _
@[simp] theorem settleFcos_lanes  : (settleFcos  s).lanes = s.lanes := by
  exact foldl_keep State.lanes _ (by intros; rfl) _ _
@[simp] theorem settleFcos_plains  : (settleFcos  s).plains = s.plains := by
  exact foldl_keep State.plains _ (by intros; rfl) _ _
@[simp] theorem settleFcos_terrace  : (settleFcos  s).terrace = s.terrace := by
  exact foldl_keep State.terrace _ (by intros; rfl) _ _
@[simp] theorem settleFcos_pool  : (settleFcos  s).pool = s.pool := by
  exact foldl_keep State.pool _ (by intros; rfl) _ _
@[simp] theorem settleFcos_geyser  : (settleFcos  s).geyser = s.geyser := by
  exact foldl_keep State.geyser _ (by intros; rfl) _ _
@[simp] theorem settleFcos_basin  : (settleFcos  s).basin = s.basin := by
  exact foldl_keep State.basin _ (by intros; rfl) _ _
@[simp] theorem settleFcos_caldera  : (settleFcos  s).caldera = s.caldera := by
  exact foldl_keep State.caldera _ (by intros; rfl) _ _
@[simp] theorem settleFcos_down  : (settleFcos  s).down = s.down := by
  exact foldl_keep State.down _ (by intros; rfl) _ _
@[simp] theorem settleFcos_fabric  : (settleFcos  s).fabric = s.fabric := by
  exact foldl_keep State.fabric _ (by intros; rfl) _ _
@[simp] theorem settleFcos_vent  : (settleFcos  s).vent = s.vent := by
  exact foldl_keep State.vent _ (by intros; rfl) _ _
@[simp] theorem settleFcos_hostMem  : (settleFcos  s).hostMem = s.hostMem := by
  exact foldl_keep State.hostMem _ (by intros; rfl) _ _

@[simp] theorem enterFault_pending  : (enterFault  s).pending = s.pending := by
  simp [enterFault, stopDataPlane]
@[simp] theorem enterFault_free  : (enterFault  s).free = s.free := by
  simp [enterFault, stopDataPlane]
@[simp] theorem enterFault_plans  : (enterFault  s).plans = s.plans := by
  simp [enterFault, stopDataPlane]
@[simp] theorem enterFault_params  : (enterFault  s).params = s.params := by
  simp [enterFault, stopDataPlane]
@[simp] theorem enterFault_plains  : (enterFault  s).plains = s.plains := by
  simp [enterFault, stopDataPlane]
@[simp] theorem enterFault_terrace  : (enterFault  s).terrace = s.terrace := by
  simp [enterFault, stopDataPlane]
@[simp] theorem enterFault_pool  : (enterFault  s).pool = s.pool := by
  simp [enterFault, stopDataPlane]
@[simp] theorem enterFault_geyser  : (enterFault  s).geyser = s.geyser := by
  simp [enterFault, stopDataPlane]
@[simp] theorem enterFault_basin  : (enterFault  s).basin = s.basin := by
  simp [enterFault, stopDataPlane]
@[simp] theorem enterFault_vent  : (enterFault  s).vent = s.vent := by
  simp [enterFault, stopDataPlane]
@[simp] theorem enterFault_hostMem  : (enterFault  s).hostMem = s.hostMem := by
  simp [enterFault, stopDataPlane]

@[simp] theorem raiseFault_pending (code sev a0 a1 a2 : Nat) (st : Option (Fin 16)) : (raiseFault code sev a0 a1 a2 st s).pending = s.pending := by
  unfold raiseFault; dsimp only; split <;> simp
@[simp] theorem raiseFault_free (code sev a0 a1 a2 : Nat) (st : Option (Fin 16)) : (raiseFault code sev a0 a1 a2 st s).free = s.free := by
  unfold raiseFault; dsimp only; split <;> simp
@[simp] theorem raiseFault_plans (code sev a0 a1 a2 : Nat) (st : Option (Fin 16)) : (raiseFault code sev a0 a1 a2 st s).plans = s.plans := by
  unfold raiseFault; dsimp only; split <;> simp
@[simp] theorem raiseFault_params (code sev a0 a1 a2 : Nat) (st : Option (Fin 16)) : (raiseFault code sev a0 a1 a2 st s).params = s.params := by
  unfold raiseFault; dsimp only; split <;> simp
@[simp] theorem raiseFault_plains (code sev a0 a1 a2 : Nat) (st : Option (Fin 16)) : (raiseFault code sev a0 a1 a2 st s).plains = s.plains := by
  unfold raiseFault; dsimp only; split <;> simp
@[simp] theorem raiseFault_terrace (code sev a0 a1 a2 : Nat) (st : Option (Fin 16)) : (raiseFault code sev a0 a1 a2 st s).terrace = s.terrace := by
  unfold raiseFault; dsimp only; split <;> simp
@[simp] theorem raiseFault_pool (code sev a0 a1 a2 : Nat) (st : Option (Fin 16)) : (raiseFault code sev a0 a1 a2 st s).pool = s.pool := by
  unfold raiseFault; dsimp only; split <;> simp
@[simp] theorem raiseFault_geyser (code sev a0 a1 a2 : Nat) (st : Option (Fin 16)) : (raiseFault code sev a0 a1 a2 st s).geyser = s.geyser := by
  unfold raiseFault; dsimp only; split <;> simp
@[simp] theorem raiseFault_basin (code sev a0 a1 a2 : Nat) (st : Option (Fin 16)) : (raiseFault code sev a0 a1 a2 st s).basin = s.basin := by
  unfold raiseFault; dsimp only; split <;> simp
@[simp] theorem raiseFault_vent (code sev a0 a1 a2 : Nat) (st : Option (Fin 16)) : (raiseFault code sev a0 a1 a2 st s).vent = s.vent := by
  unfold raiseFault; dsimp only; split <;> simp
@[simp] theorem raiseFault_hostMem (code sev a0 a1 a2 : Nat) (st : Option (Fin 16)) : (raiseFault code sev a0 a1 a2 st s).hostMem = s.hostMem := by
  unfold raiseFault; dsimp only; split <;> simp

/-- A fault of severity below 3 leaves the engines as they are, and counts. -/
theorem raiseFault_light (code sev a0 a1 a2 : Nat) (st : Option (Fin 16)) (h : sev ≠ 3) :
    (raiseFault code sev a0 a1 a2 st s).dev = { s.dev with faultCount := satAdd s.dev.faultCount 1 } ∧
    (raiseFault code sev a0 a1 a2 st s).lanes = s.lanes ∧ (raiseFault code sev a0 a1 a2 st s).caldera = s.caldera ∧
    (raiseFault code sev a0 a1 a2 st s).evt = s.evt ∧ (raiseFault code sev a0 a1 a2 st s).time = s.time ∧
    (raiseFault code sev a0 a1 a2 st s).down = s.down := by
  simp [raiseFault, h]

@[simp] theorem cross_pending (line : Fin 128) (c : Consumer) : (cross line s c).pending = s.pending := by
  unfold cross; dsimp only; split <;> rfl
@[simp] theorem cross_free (line : Fin 128) (c : Consumer) : (cross line s c).free = s.free := by
  unfold cross; dsimp only; split <;> rfl
@[simp] theorem cross_out (line : Fin 128) (c : Consumer) : (cross line s c).out = s.out := by
  unfold cross; dsimp only; split <;> rfl
@[simp] theorem cross_dev (line : Fin 128) (c : Consumer) : (cross line s c).dev = s.dev := by
  unfold cross; dsimp only; split <;> rfl
@[simp] theorem cross_ports (line : Fin 128) (c : Consumer) : (cross line s c).ports = s.ports := by
  unfold cross; dsimp only; split <;> rfl
@[simp] theorem cross_host (line : Fin 128) (c : Consumer) : (cross line s c).host = s.host := by
  unfold cross; dsimp only; split <;> rfl
@[simp] theorem cross_plans (line : Fin 128) (c : Consumer) : (cross line s c).plans = s.plans := by
  unfold cross; dsimp only; split <;> rfl
@[simp] theorem cross_params (line : Fin 128) (c : Consumer) : (cross line s c).params = s.params := by
  unfold cross; dsimp only; split <;> rfl
@[simp] theorem cross_time (line : Fin 128) (c : Consumer) : (cross line s c).time = s.time := by
  unfold cross; dsimp only; split <;> rfl
@[simp] theorem cross_records (line : Fin 128) (c : Consumer) : (cross line s c).records = s.records := by
  unfold cross; dsimp only; split <;> rfl
@[simp] theorem cross_lanes (line : Fin 128) (c : Consumer) : (cross line s c).lanes = s.lanes := by
  unfold cross; dsimp only; split <;> rfl
@[simp] theorem cross_plains (line : Fin 128) (c : Consumer) : (cross line s c).plains = s.plains := by
  unfold cross; dsimp only; split <;> rfl
@[simp] theorem cross_terrace (line : Fin 128) (c : Consumer) : (cross line s c).terrace = s.terrace := by
  unfold cross; dsimp only; split <;> rfl
@[simp] theorem cross_pool (line : Fin 128) (c : Consumer) : (cross line s c).pool = s.pool := by
  unfold cross; dsimp only; split <;> rfl
@[simp] theorem cross_geyser (line : Fin 128) (c : Consumer) : (cross line s c).geyser = s.geyser := by
  unfold cross; dsimp only; split <;> rfl
@[simp] theorem cross_basin (line : Fin 128) (c : Consumer) : (cross line s c).basin = s.basin := by
  unfold cross; dsimp only; split <;> rfl
@[simp] theorem cross_caldera (line : Fin 128) (c : Consumer) : (cross line s c).caldera = s.caldera := by
  unfold cross; dsimp only; split <;> rfl
@[simp] theorem cross_evt (line : Fin 128) (c : Consumer) : (cross line s c).evt = s.evt := by
  unfold cross; dsimp only; split <;> rfl
@[simp] theorem cross_fabric (line : Fin 128) (c : Consumer) : (cross line s c).fabric = s.fabric := by
  unfold cross; dsimp only; split <;> rfl
@[simp] theorem cross_vent (line : Fin 128) (c : Consumer) : (cross line s c).vent = s.vent := by
  unfold cross; dsimp only; split <;> rfl
@[simp] theorem cross_hostMem (line : Fin 128) (c : Consumer) : (cross line s c).hostMem = s.hostMem := by
  unfold cross; dsimp only; split <;> rfl

@[simp] theorem pulse_pending (line : Fin 128) : (pulse line s).pending = s.pending := by
  simp only [pulse, emitOut_pending]; exact foldl_keep State.pending _ (by simp) _ _
@[simp] theorem pulse_free (line : Fin 128) : (pulse line s).free = s.free := by
  simp only [pulse, emitOut_free]; exact foldl_keep State.free _ (by simp) _ _
@[simp] theorem pulse_dev (line : Fin 128) : (pulse line s).dev = s.dev := by
  simp only [pulse, emitOut_dev]; exact foldl_keep State.dev _ (by simp) _ _
@[simp] theorem pulse_ports (line : Fin 128) : (pulse line s).ports = s.ports := by
  simp only [pulse, emitOut_ports]; exact foldl_keep State.ports _ (by simp) _ _
@[simp] theorem pulse_host (line : Fin 128) : (pulse line s).host = s.host := by
  simp only [pulse, emitOut_host]; exact foldl_keep State.host _ (by simp) _ _
@[simp] theorem pulse_plans (line : Fin 128) : (pulse line s).plans = s.plans := by
  simp only [pulse, emitOut_plans]; exact foldl_keep State.plans _ (by simp) _ _
@[simp] theorem pulse_params (line : Fin 128) : (pulse line s).params = s.params := by
  simp only [pulse, emitOut_params]; exact foldl_keep State.params _ (by simp) _ _
@[simp] theorem pulse_time (line : Fin 128) : (pulse line s).time = s.time := by
  simp only [pulse, emitOut_time]; exact foldl_keep State.time _ (by simp) _ _
@[simp] theorem pulse_records (line : Fin 128) : (pulse line s).records = s.records := by
  simp only [pulse, emitOut_records]; exact foldl_keep State.records _ (by simp) _ _
@[simp] theorem pulse_lanes (line : Fin 128) : (pulse line s).lanes = s.lanes := by
  simp only [pulse, emitOut_lanes]; exact foldl_keep State.lanes _ (by simp) _ _
@[simp] theorem pulse_plains (line : Fin 128) : (pulse line s).plains = s.plains := by
  simp only [pulse, emitOut_plains]; exact foldl_keep State.plains _ (by simp) _ _
@[simp] theorem pulse_terrace (line : Fin 128) : (pulse line s).terrace = s.terrace := by
  simp only [pulse, emitOut_terrace]; exact foldl_keep State.terrace _ (by simp) _ _
@[simp] theorem pulse_pool (line : Fin 128) : (pulse line s).pool = s.pool := by
  simp only [pulse, emitOut_pool]; exact foldl_keep State.pool _ (by simp) _ _
@[simp] theorem pulse_geyser (line : Fin 128) : (pulse line s).geyser = s.geyser := by
  simp only [pulse, emitOut_geyser]; exact foldl_keep State.geyser _ (by simp) _ _
@[simp] theorem pulse_basin (line : Fin 128) : (pulse line s).basin = s.basin := by
  simp only [pulse, emitOut_basin]; exact foldl_keep State.basin _ (by simp) _ _
@[simp] theorem pulse_caldera (line : Fin 128) : (pulse line s).caldera = s.caldera := by
  simp only [pulse, emitOut_caldera]; exact foldl_keep State.caldera _ (by simp) _ _
@[simp] theorem pulse_evt (line : Fin 128) : (pulse line s).evt = s.evt := by
  simp only [pulse, emitOut_evt]; exact foldl_keep State.evt _ (by simp) _ _
@[simp] theorem pulse_fabric (line : Fin 128) : (pulse line s).fabric = s.fabric := by
  simp only [pulse, emitOut_fabric]; exact foldl_keep State.fabric _ (by simp) _ _
@[simp] theorem pulse_vent (line : Fin 128) : (pulse line s).vent = s.vent := by
  simp only [pulse, emitOut_vent]; exact foldl_keep State.vent _ (by simp) _ _
@[simp] theorem pulse_hostMem (line : Fin 128) : (pulse line s).hostMem = s.hostMem := by
  simp only [pulse, emitOut_hostMem]; exact foldl_keep State.hostMem _ (by simp) _ _

@[simp] theorem pulseOpt_pending (line : Option Nat) : (pulseOpt line s).pending = s.pending := by
  unfold pulseOpt; split <;> simp
@[simp] theorem pulseOpt_free (line : Option Nat) : (pulseOpt line s).free = s.free := by
  unfold pulseOpt; split <;> simp
@[simp] theorem pulseOpt_dev (line : Option Nat) : (pulseOpt line s).dev = s.dev := by
  unfold pulseOpt; split <;> simp
@[simp] theorem pulseOpt_ports (line : Option Nat) : (pulseOpt line s).ports = s.ports := by
  unfold pulseOpt; split <;> simp
@[simp] theorem pulseOpt_host (line : Option Nat) : (pulseOpt line s).host = s.host := by
  unfold pulseOpt; split <;> simp
@[simp] theorem pulseOpt_plans (line : Option Nat) : (pulseOpt line s).plans = s.plans := by
  unfold pulseOpt; split <;> simp
@[simp] theorem pulseOpt_params (line : Option Nat) : (pulseOpt line s).params = s.params := by
  unfold pulseOpt; split <;> simp
@[simp] theorem pulseOpt_time (line : Option Nat) : (pulseOpt line s).time = s.time := by
  unfold pulseOpt; split <;> simp
@[simp] theorem pulseOpt_records (line : Option Nat) : (pulseOpt line s).records = s.records := by
  unfold pulseOpt; split <;> simp
@[simp] theorem pulseOpt_lanes (line : Option Nat) : (pulseOpt line s).lanes = s.lanes := by
  unfold pulseOpt; split <;> simp
@[simp] theorem pulseOpt_plains (line : Option Nat) : (pulseOpt line s).plains = s.plains := by
  unfold pulseOpt; split <;> simp
@[simp] theorem pulseOpt_terrace (line : Option Nat) : (pulseOpt line s).terrace = s.terrace := by
  unfold pulseOpt; split <;> simp
@[simp] theorem pulseOpt_pool (line : Option Nat) : (pulseOpt line s).pool = s.pool := by
  unfold pulseOpt; split <;> simp
@[simp] theorem pulseOpt_geyser (line : Option Nat) : (pulseOpt line s).geyser = s.geyser := by
  unfold pulseOpt; split <;> simp
@[simp] theorem pulseOpt_basin (line : Option Nat) : (pulseOpt line s).basin = s.basin := by
  unfold pulseOpt; split <;> simp
@[simp] theorem pulseOpt_caldera (line : Option Nat) : (pulseOpt line s).caldera = s.caldera := by
  unfold pulseOpt; split <;> simp
@[simp] theorem pulseOpt_evt (line : Option Nat) : (pulseOpt line s).evt = s.evt := by
  unfold pulseOpt; split <;> simp
@[simp] theorem pulseOpt_fabric (line : Option Nat) : (pulseOpt line s).fabric = s.fabric := by
  unfold pulseOpt; split <;> simp
@[simp] theorem pulseOpt_vent (line : Option Nat) : (pulseOpt line s).vent = s.vent := by
  unfold pulseOpt; split <;> simp
@[simp] theorem pulseOpt_hostMem (line : Option Nat) : (pulseOpt line s).hostMem = s.hostMem := by
  unfold pulseOpt; split <;> simp

end Sys2Proof.Machine
end

