-- ==== Sys2Proof/Laws/Serve.lean ====
section
/-! SUPPORT. What serving a mailbox command can change: responses, the serial order, and the three ways a row ends. -/

namespace Sys2Proof.Machine

variable (s : State)

@[simp] theorem sendFragments_pending (lanes : List (Fin 12)) (dst : Nat) (mk : List Byte → FabBody) (bs : List Byte) : (sendFragments lanes dst mk bs s).pending = s.pending := by
  unfold sendFragments; exact foldl_keep State.pending _ (by intros; simp) _ _
@[simp] theorem sendFragments_free (lanes : List (Fin 12)) (dst : Nat) (mk : List Byte → FabBody) (bs : List Byte) : (sendFragments lanes dst mk bs s).free = s.free := by
  unfold sendFragments; exact foldl_keep State.free _ (by intros; simp) _ _
@[simp] theorem sendFragments_dev (lanes : List (Fin 12)) (dst : Nat) (mk : List Byte → FabBody) (bs : List Byte) : (sendFragments lanes dst mk bs s).dev = s.dev := by
  unfold sendFragments; exact foldl_keep State.dev _ (by intros; simp) _ _
@[simp] theorem sendFragments_ports (lanes : List (Fin 12)) (dst : Nat) (mk : List Byte → FabBody) (bs : List Byte) : (sendFragments lanes dst mk bs s).ports = s.ports := by
  unfold sendFragments; exact foldl_keep State.ports _ (by intros; simp) _ _
@[simp] theorem sendFragments_host (lanes : List (Fin 12)) (dst : Nat) (mk : List Byte → FabBody) (bs : List Byte) : (sendFragments lanes dst mk bs s).host = s.host := by
  unfold sendFragments; exact foldl_keep State.host _ (by intros; simp) _ _
@[simp] theorem sendFragments_plans (lanes : List (Fin 12)) (dst : Nat) (mk : List Byte → FabBody) (bs : List Byte) : (sendFragments lanes dst mk bs s).plans = s.plans := by
  unfold sendFragments; exact foldl_keep State.plans _ (by intros; simp) _ _
@[simp] theorem sendFragments_params (lanes : List (Fin 12)) (dst : Nat) (mk : List Byte → FabBody) (bs : List Byte) : (sendFragments lanes dst mk bs s).params = s.params := by
  unfold sendFragments; exact foldl_keep State.params _ (by intros; simp) _ _
@[simp] theorem sendFragments_time (lanes : List (Fin 12)) (dst : Nat) (mk : List Byte → FabBody) (bs : List Byte) : (sendFragments lanes dst mk bs s).time = s.time := by
  unfold sendFragments; exact foldl_keep State.time _ (by intros; simp) _ _
@[simp] theorem sendFragments_records (lanes : List (Fin 12)) (dst : Nat) (mk : List Byte → FabBody) (bs : List Byte) : (sendFragments lanes dst mk bs s).records = s.records := by
  unfold sendFragments; exact foldl_keep State.records _ (by intros; simp) _ _
@[simp] theorem sendFragments_lanes (lanes : List (Fin 12)) (dst : Nat) (mk : List Byte → FabBody) (bs : List Byte) : (sendFragments lanes dst mk bs s).lanes = s.lanes := by
  unfold sendFragments; exact foldl_keep State.lanes _ (by intros; simp) _ _
@[simp] theorem sendFragments_plains (lanes : List (Fin 12)) (dst : Nat) (mk : List Byte → FabBody) (bs : List Byte) : (sendFragments lanes dst mk bs s).plains = s.plains := by
  unfold sendFragments; exact foldl_keep State.plains _ (by intros; simp) _ _
@[simp] theorem sendFragments_terrace (lanes : List (Fin 12)) (dst : Nat) (mk : List Byte → FabBody) (bs : List Byte) : (sendFragments lanes dst mk bs s).terrace = s.terrace := by
  unfold sendFragments; exact foldl_keep State.terrace _ (by intros; simp) _ _
@[simp] theorem sendFragments_pool (lanes : List (Fin 12)) (dst : Nat) (mk : List Byte → FabBody) (bs : List Byte) : (sendFragments lanes dst mk bs s).pool = s.pool := by
  unfold sendFragments; exact foldl_keep State.pool _ (by intros; simp) _ _
@[simp] theorem sendFragments_geyser (lanes : List (Fin 12)) (dst : Nat) (mk : List Byte → FabBody) (bs : List Byte) : (sendFragments lanes dst mk bs s).geyser = s.geyser := by
  unfold sendFragments; exact foldl_keep State.geyser _ (by intros; simp) _ _
@[simp] theorem sendFragments_basin (lanes : List (Fin 12)) (dst : Nat) (mk : List Byte → FabBody) (bs : List Byte) : (sendFragments lanes dst mk bs s).basin = s.basin := by
  unfold sendFragments; exact foldl_keep State.basin _ (by intros; simp) _ _
@[simp] theorem sendFragments_caldera (lanes : List (Fin 12)) (dst : Nat) (mk : List Byte → FabBody) (bs : List Byte) : (sendFragments lanes dst mk bs s).caldera = s.caldera := by
  unfold sendFragments; exact foldl_keep State.caldera _ (by intros; simp) _ _
@[simp] theorem sendFragments_down (lanes : List (Fin 12)) (dst : Nat) (mk : List Byte → FabBody) (bs : List Byte) : (sendFragments lanes dst mk bs s).down = s.down := by
  unfold sendFragments; exact foldl_keep State.down _ (by intros; simp) _ _
@[simp] theorem sendFragments_evt (lanes : List (Fin 12)) (dst : Nat) (mk : List Byte → FabBody) (bs : List Byte) : (sendFragments lanes dst mk bs s).evt = s.evt := by
  unfold sendFragments; exact foldl_keep State.evt _ (by intros; simp) _ _
@[simp] theorem sendFragments_vent (lanes : List (Fin 12)) (dst : Nat) (mk : List Byte → FabBody) (bs : List Byte) : (sendFragments lanes dst mk bs s).vent = s.vent := by
  unfold sendFragments; exact foldl_keep State.vent _ (by intros; simp) _ _
@[simp] theorem sendFragments_hostMem (lanes : List (Fin 12)) (dst : Nat) (mk : List Byte → FabBody) (bs : List Byte) : (sendFragments lanes dst mk bs s).hostMem = s.hostMem := by
  unfold sendFragments; exact foldl_keep State.hostMem _ (by intros; simp) _ _

@[simp] theorem respond_pending (c : Cmd) (domain : Option (Fin 16)) (r : Reply) : (respond c domain r s).pending = s.pending := by
  unfold respond; dsimp only; (repeat' split) <;> simp
@[simp] theorem respond_free (c : Cmd) (domain : Option (Fin 16)) (r : Reply) : (respond c domain r s).free = s.free := by
  unfold respond; dsimp only; (repeat' split) <;> simp
@[simp] theorem respond_dev (c : Cmd) (domain : Option (Fin 16)) (r : Reply) : (respond c domain r s).dev = s.dev := by
  unfold respond; dsimp only; (repeat' split) <;> simp
@[simp] theorem respond_host (c : Cmd) (domain : Option (Fin 16)) (r : Reply) : (respond c domain r s).host = s.host := by
  unfold respond; dsimp only; (repeat' split) <;> simp
@[simp] theorem respond_plans (c : Cmd) (domain : Option (Fin 16)) (r : Reply) : (respond c domain r s).plans = s.plans := by
  unfold respond; dsimp only; (repeat' split) <;> simp
@[simp] theorem respond_params (c : Cmd) (domain : Option (Fin 16)) (r : Reply) : (respond c domain r s).params = s.params := by
  unfold respond; dsimp only; (repeat' split) <;> simp
@[simp] theorem respond_time (c : Cmd) (domain : Option (Fin 16)) (r : Reply) : (respond c domain r s).time = s.time := by
  unfold respond; dsimp only; (repeat' split) <;> simp
@[simp] theorem respond_records (c : Cmd) (domain : Option (Fin 16)) (r : Reply) : (respond c domain r s).records = s.records := by
  unfold respond; dsimp only; (repeat' split) <;> simp
@[simp] theorem respond_lanes (c : Cmd) (domain : Option (Fin 16)) (r : Reply) : (respond c domain r s).lanes = s.lanes := by
  unfold respond; dsimp only; (repeat' split) <;> simp
@[simp] theorem respond_plains (c : Cmd) (domain : Option (Fin 16)) (r : Reply) : (respond c domain r s).plains = s.plains := by
  unfold respond; dsimp only; (repeat' split) <;> simp
@[simp] theorem respond_terrace (c : Cmd) (domain : Option (Fin 16)) (r : Reply) : (respond c domain r s).terrace = s.terrace := by
  unfold respond; dsimp only; (repeat' split) <;> simp
@[simp] theorem respond_pool (c : Cmd) (domain : Option (Fin 16)) (r : Reply) : (respond c domain r s).pool = s.pool := by
  unfold respond; dsimp only; (repeat' split) <;> simp
@[simp] theorem respond_geyser (c : Cmd) (domain : Option (Fin 16)) (r : Reply) : (respond c domain r s).geyser = s.geyser := by
  unfold respond; dsimp only; (repeat' split) <;> simp
@[simp] theorem respond_basin (c : Cmd) (domain : Option (Fin 16)) (r : Reply) : (respond c domain r s).basin = s.basin := by
  unfold respond; dsimp only; (repeat' split) <;> simp
@[simp] theorem respond_caldera (c : Cmd) (domain : Option (Fin 16)) (r : Reply) : (respond c domain r s).caldera = s.caldera := by
  unfold respond; dsimp only; (repeat' split) <;> simp
@[simp] theorem respond_down (c : Cmd) (domain : Option (Fin 16)) (r : Reply) : (respond c domain r s).down = s.down := by
  unfold respond; dsimp only; (repeat' split) <;> simp
@[simp] theorem respond_evt (c : Cmd) (domain : Option (Fin 16)) (r : Reply) : (respond c domain r s).evt = s.evt := by
  unfold respond; dsimp only; (repeat' split) <;> simp
@[simp] theorem respond_vent (c : Cmd) (domain : Option (Fin 16)) (r : Reply) : (respond c domain r s).vent = s.vent := by
  unfold respond; dsimp only; (repeat' split) <;> simp
@[simp] theorem respond_hostMem (c : Cmd) (domain : Option (Fin 16)) (r : Reply) : (respond c domain r s).hostMem = s.hostMem := by
  unfold respond; dsimp only; (repeat' split) <;> simp

@[simp] theorem markExecuting_pending (c : Cmd) : (markExecuting c s).pending = s.pending := by
  unfold markExecuting; split <;> simp
@[simp] theorem markExecuting_free (c : Cmd) : (markExecuting c s).free = s.free := by
  unfold markExecuting; split <;> simp
@[simp] theorem markExecuting_out (c : Cmd) : (markExecuting c s).out = s.out := by
  unfold markExecuting; split <;> simp
@[simp] theorem markExecuting_dev (c : Cmd) : (markExecuting c s).dev = s.dev := by
  unfold markExecuting; split <;> simp
@[simp] theorem markExecuting_host (c : Cmd) : (markExecuting c s).host = s.host := by
  unfold markExecuting; split <;> simp
@[simp] theorem markExecuting_plans (c : Cmd) : (markExecuting c s).plans = s.plans := by
  unfold markExecuting; split <;> simp
@[simp] theorem markExecuting_params (c : Cmd) : (markExecuting c s).params = s.params := by
  unfold markExecuting; split <;> simp
@[simp] theorem markExecuting_time (c : Cmd) : (markExecuting c s).time = s.time := by
  unfold markExecuting; split <;> simp
@[simp] theorem markExecuting_records (c : Cmd) : (markExecuting c s).records = s.records := by
  unfold markExecuting; split <;> simp
@[simp] theorem markExecuting_lanes (c : Cmd) : (markExecuting c s).lanes = s.lanes := by
  unfold markExecuting; split <;> simp
@[simp] theorem markExecuting_plains (c : Cmd) : (markExecuting c s).plains = s.plains := by
  unfold markExecuting; split <;> simp
@[simp] theorem markExecuting_terrace (c : Cmd) : (markExecuting c s).terrace = s.terrace := by
  unfold markExecuting; split <;> simp
@[simp] theorem markExecuting_pool (c : Cmd) : (markExecuting c s).pool = s.pool := by
  unfold markExecuting; split <;> simp
@[simp] theorem markExecuting_geyser (c : Cmd) : (markExecuting c s).geyser = s.geyser := by
  unfold markExecuting; split <;> simp
@[simp] theorem markExecuting_basin (c : Cmd) : (markExecuting c s).basin = s.basin := by
  unfold markExecuting; split <;> simp
@[simp] theorem markExecuting_caldera (c : Cmd) : (markExecuting c s).caldera = s.caldera := by
  unfold markExecuting; split <;> simp
@[simp] theorem markExecuting_down (c : Cmd) : (markExecuting c s).down = s.down := by
  unfold markExecuting; split <;> simp
@[simp] theorem markExecuting_evt (c : Cmd) : (markExecuting c s).evt = s.evt := by
  unfold markExecuting; split <;> simp
@[simp] theorem markExecuting_fabric (c : Cmd) : (markExecuting c s).fabric = s.fabric := by
  unfold markExecuting; split <;> simp
@[simp] theorem markExecuting_vent (c : Cmd) : (markExecuting c s).vent = s.vent := by
  unfold markExecuting; split <;> simp
@[simp] theorem markExecuting_hostMem (c : Cmd) : (markExecuting c s).hostMem = s.hostMem := by
  unfold markExecuting; split <;> simp

@[simp] theorem drainUnknown_pending (n : Nat) : (drainUnknown n s).pending = s.pending := by
  induction n generalizing s with
  | zero => rfl
  | succ n ih => unfold drainUnknown; (repeat' split) <;> simp [ih]
@[simp] theorem drainUnknown_free (n : Nat) : (drainUnknown n s).free = s.free := by
  induction n generalizing s with
  | zero => rfl
  | succ n ih => unfold drainUnknown; (repeat' split) <;> simp [ih]
@[simp] theorem drainUnknown_dev (n : Nat) : (drainUnknown n s).dev = s.dev := by
  induction n generalizing s with
  | zero => rfl
  | succ n ih => unfold drainUnknown; (repeat' split) <;> simp [ih]
@[simp] theorem drainUnknown_plans (n : Nat) : (drainUnknown n s).plans = s.plans := by
  induction n generalizing s with
  | zero => rfl
  | succ n ih => unfold drainUnknown; (repeat' split) <;> simp [ih]
@[simp] theorem drainUnknown_params (n : Nat) : (drainUnknown n s).params = s.params := by
  induction n generalizing s with
  | zero => rfl
  | succ n ih => unfold drainUnknown; (repeat' split) <;> simp [ih]
@[simp] theorem drainUnknown_time (n : Nat) : (drainUnknown n s).time = s.time := by
  induction n generalizing s with
  | zero => rfl
  | succ n ih => unfold drainUnknown; (repeat' split) <;> simp [ih]
@[simp] theorem drainUnknown_records (n : Nat) : (drainUnknown n s).records = s.records := by
  induction n generalizing s with
  | zero => rfl
  | succ n ih => unfold drainUnknown; (repeat' split) <;> simp [ih]
@[simp] theorem drainUnknown_lanes (n : Nat) : (drainUnknown n s).lanes = s.lanes := by
  induction n generalizing s with
  | zero => rfl
  | succ n ih => unfold drainUnknown; (repeat' split) <;> simp [ih]
@[simp] theorem drainUnknown_plains (n : Nat) : (drainUnknown n s).plains = s.plains := by
  induction n generalizing s with
  | zero => rfl
  | succ n ih => unfold drainUnknown; (repeat' split) <;> simp [ih]
@[simp] theorem drainUnknown_terrace (n : Nat) : (drainUnknown n s).terrace = s.terrace := by
  induction n generalizing s with
  | zero => rfl
  | succ n ih => unfold drainUnknown; (repeat' split) <;> simp [ih]
@[simp] theorem drainUnknown_pool (n : Nat) : (drainUnknown n s).pool = s.pool := by
  induction n generalizing s with
  | zero => rfl
  | succ n ih => unfold drainUnknown; (repeat' split) <;> simp [ih]
@[simp] theorem drainUnknown_geyser (n : Nat) : (drainUnknown n s).geyser = s.geyser := by
  induction n generalizing s with
  | zero => rfl
  | succ n ih => unfold drainUnknown; (repeat' split) <;> simp [ih]
@[simp] theorem drainUnknown_basin (n : Nat) : (drainUnknown n s).basin = s.basin := by
  induction n generalizing s with
  | zero => rfl
  | succ n ih => unfold drainUnknown; (repeat' split) <;> simp [ih]
@[simp] theorem drainUnknown_caldera (n : Nat) : (drainUnknown n s).caldera = s.caldera := by
  induction n generalizing s with
  | zero => rfl
  | succ n ih => unfold drainUnknown; (repeat' split) <;> simp [ih]
@[simp] theorem drainUnknown_down (n : Nat) : (drainUnknown n s).down = s.down := by
  induction n generalizing s with
  | zero => rfl
  | succ n ih => unfold drainUnknown; (repeat' split) <;> simp [ih]
@[simp] theorem drainUnknown_evt (n : Nat) : (drainUnknown n s).evt = s.evt := by
  induction n generalizing s with
  | zero => rfl
  | succ n ih => unfold drainUnknown; (repeat' split) <;> simp [ih]
@[simp] theorem drainUnknown_vent (n : Nat) : (drainUnknown n s).vent = s.vent := by
  induction n generalizing s with
  | zero => rfl
  | succ n ih => unfold drainUnknown; (repeat' split) <;> simp [ih]
@[simp] theorem drainUnknown_hostMem (n : Nat) : (drainUnknown n s).hostMem = s.hostMem := by
  induction n generalizing s with
  | zero => rfl
  | succ n ih => unfold drainUnknown; (repeat' split) <;> simp [ih]

@[simp] theorem drain_pending  : (drain  s).pending = s.pending := by
  unfold drain; split <;> simp
@[simp] theorem drain_free  : (drain  s).free = s.free := by
  unfold drain; split <;> simp
@[simp] theorem drain_dev  : (drain  s).dev = s.dev := by
  unfold drain; split <;> simp
@[simp] theorem drain_plans  : (drain  s).plans = s.plans := by
  unfold drain; split <;> simp
@[simp] theorem drain_params  : (drain  s).params = s.params := by
  unfold drain; split <;> simp
@[simp] theorem drain_time  : (drain  s).time = s.time := by
  unfold drain; split <;> simp
@[simp] theorem drain_records  : (drain  s).records = s.records := by
  unfold drain; split <;> simp
@[simp] theorem drain_lanes  : (drain  s).lanes = s.lanes := by
  unfold drain; split <;> simp
@[simp] theorem drain_plains  : (drain  s).plains = s.plains := by
  unfold drain; split <;> simp
@[simp] theorem drain_terrace  : (drain  s).terrace = s.terrace := by
  unfold drain; split <;> simp
@[simp] theorem drain_pool  : (drain  s).pool = s.pool := by
  unfold drain; split <;> simp
@[simp] theorem drain_geyser  : (drain  s).geyser = s.geyser := by
  unfold drain; split <;> simp
@[simp] theorem drain_basin  : (drain  s).basin = s.basin := by
  unfold drain; split <;> simp
@[simp] theorem drain_caldera  : (drain  s).caldera = s.caldera := by
  unfold drain; split <;> simp
@[simp] theorem drain_down  : (drain  s).down = s.down := by
  unfold drain; split <;> simp
@[simp] theorem drain_evt  : (drain  s).evt = s.evt := by
  unfold drain; split <;> simp
@[simp] theorem drain_vent  : (drain  s).vent = s.vent := by
  unfold drain; split <;> simp
@[simp] theorem drain_hostMem  : (drain  s).hostMem = s.hostMem := by
  unfold drain; split <;> simp

/-- A command whose checks pass is decided, and core 0 goes on (18 R359). -/
theorem serve_passes {spec : CmdSpec} {body : Cmd → State → State × Verdict} {c : Cmd} {rest : List Cmd}
    (hs : s.host.serial = c :: rest) (hf : firmware s = true) (hc : c.code.toNat = spec.code)
    (hp : precheck spec c (markExecuting c { s with host := { s.host with serial := rest } }) = none) :
    serve spec body s = drain (conclude c (spec.domain c)
      (body c (markExecuting c { s with host := { s.host with serial := rest } })).2
      (body c (markExecuting c { s with host := { s.host with serial := rest } })).1) := by
  simp only [serve, hs, hf, hc, and_self, if_true, hp]

/-- A command whose checks fail is answered with what they name (18 R357, 19 R374). -/
theorem serve_refused {spec : CmdSpec} {body : Cmd → State → State × Verdict} {c : Cmd} {rest : List Cmd}
    {d : Option (Fin 16)} {st : Status} {x : Nat}
    (hs : s.host.serial = c :: rest) (hf : firmware s = true) (hc : c.code.toNat = spec.code)
    (hp : precheck spec c (markExecuting c { s with host := { s.host with serial := rest } }) = some (d, st, x)) :
    serve spec body s = drain (respond c d { status := st, detail := x, payload := [] }
      (markExecuting c { s with host := { s.host with serial := rest } })) := by
  simp only [serve, hs, hf, hc, and_self, if_true, hp]

/-- Without a command of its CODE at the head, or without the firmware, a row does nothing. -/
theorem serve_idle {spec : CmdSpec} {body : Cmd → State → State × Verdict}
    (h : ∀ c rest, s.host.serial = c :: rest → ¬ (firmware s = true ∧ c.code.toNat = spec.code)) :
    serve spec body s = s := by
  unfold serve
  split
  · rfl
  · rename_i c rest hs
    rw [if_neg (h c rest hs)]

end Sys2Proof.Machine
end

