-- ==== Sys2Proof/Machine/Pins.lean ====
section
/-! DEFINITION. What the part shows at its balls: the control outputs (21 R420, R421; 22 R429), what each interface presents in
each state (21 R422), and the site of every ball (22 R425 to R428). -/

namespace Sys2Proof.Machine

/-! Control outputs. -/

/-- The level of an output: driven high, driven low, or not driven. -/
inductive PinLevel where
  | high | low | released
  deriving DecidableEq, Repr

/-- The control outputs that have a level of their own (22 R429). -/
inductive ControlOut where
  | alive | faultN | thermtripN | qspiRstN | dsPerstN (port : Fin 4) | txDis (port : Fin 2)
  deriving DecidableEq, Repr

/-- The data plane may run: READY, or WATCHDOG, in which it runs on (21 R422). -/
def outward (s : State) : Bool := s.dev.powered && (s.dev.state = .ready || s.dev.state = .watchdog)

/-- PORST_N is low, or the hardware trip holds the device (22 R429). -/
def inReset (s : State) : Bool := !s.dev.porstN || s.dev.tripHold

def lowWhen (b : Bool) : PinLevel := if b then .low else .released

/-- The level of a control output (21 R420, R421; 22 R429). -/
def controlOut (o : ControlOut) (s : State) : PinLevel :=
  if !s.dev.powered then .released
  else match o with
    | .alive => if s.dev.aliveLevel then .high else .low
    | .faultN => lowWhen (faultLow s)
    | .thermtripN => lowWhen s.dev.tripLatch
    | .qspiRstN => if inReset s || s.dev.state = .suspended then .low else .high
    | .dsPerstN p => lowWhen (!(vget s.down.ports p).perstOut)
    | .txDis _ => lowWhen (outward s)

/-! Interfaces (21 R422). -/

/-- The interfaces, as the table of R422 groups them. -/
inductive Iface where
  | ingress | fabric | ethernet | hostPorts | downstream | display | frameClock | inputs
  deriving DecidableEq, Repr

/-- What an interface presents. `normal`: as its engine has it; `unchanged`: as before. -/
inductive Presented where
  | undriven | idle | off | training | up | running | noSignal | lastFrame | low | finishThenLow | highImpedance | normal | unchanged
  deriving DecidableEq, Repr

/-- What an interface presents in each state (21 R422). -/
def presented (i : Iface) (s : State) : Presented :=
  if !s.dev.powered then
    match i with
    | .frameClock | .inputs => .highImpedance
    | _ => .undriven
  else if inReset s then
    match i with
    | .ingress | .fabric | .downstream => .idle
    | .ethernet | .hostPorts => .off
    | .display => .noSignal
    | .frameClock => .finishThenLow
    | .inputs => .highImpedance
  else match s.dev.state, i with
    | .ready, _ => .normal
    | .watchdog, .ingress | .watchdog, .fabric => .running
    | .watchdog, .ethernet | .watchdog, .hostPorts => .up
    | .watchdog, .downstream | .watchdog, .frameClock => .unchanged
    | .watchdog, .display => .lastFrame
    | .watchdog, .inputs => .normal
    | _, .ingress | _, .fabric => .idle
    | _, .ethernet => .off
    | .boot, .hostPorts => if 4 ≤ s.dev.bootStep then .training else .off
    | .fault, .hostPorts => .up
    | .suspended, .hostPorts => .off
    | .boot, .downstream => .off
    | _, .downstream => .idle
    | _, .display => .noSignal
    | .fault, .frameClock => .finishThenLow
    | _, .frameClock => .low
    | _, .inputs => .highImpedance

/-! Ball sites: a row index from 1 to 56 and a column from 1 to 71 (22 R425). -/

/-- The letters of rows 1 to 19, which follow an A in rows 20 to 38 and a B in rows 39 to 56. -/
def rowLetters : List Char := "ABCDEFGHJKLMNPTUVWY".toList

def rowName (r : Nat) : String :=
  let last := String.singleton (rowLetters.getD ((r - 1) % 19) 'A')
  if r ≤ 19 then last else (if r ≤ 38 then "A" else "B") ++ last

/-- The name of a ball, such as AV63. -/
def siteName (x : Nat × Nat) : String := rowName x.1 ++ toString x.2

/-- A pin of a lane. -/
inductive LanePin where
  | rxP | rxN | txP | txN
  deriving DecidableEq, Repr

/-- The reference clock inputs (22 R426, R438). -/
inductive RefClock where
  | lrefW | tref | lrefE | pcieD01 | pcieD23 | pcieHa | pcieHb
  deriving DecidableEq, Repr

/-- The signal balls (22 R426); the 60 of the CMOS block are numbered row by row as R428 lists them. -/
inductive Signal where
  | lane (n : Fin 46) (pin : LanePin)
  | host (port : PortId) (lane : Fin 8) (pin : LanePin)
  | down (port : Fin 4) (lane : Fin 16) (pin : LanePin)
  | display (output : Fin 2) (lane : Fin 4) (negative : Bool)
  | displayAux (output : Fin 2) (negative : Bool)
  | displayHpd (output : Fin 2)
  | evt (input : Fin 16) (negative : Bool)
  | fco (output : Fin 8) (negative : Bool)
  | refClock (clock : RefClock) (negative : Bool)
  | aux (k : Fin 16)
  | control (n : Fin 60)
  deriving DecidableEq, Repr

/-- The rows of a lane's pins at the top edge (L0 to L31), and at the bottom edge (L32 to L45, the host ports). -/
def topRow : LanePin → Nat
  | .rxP => 2
  | .rxN => 3
  | .txP => 5
  | .txN => 6

def bottomRow : LanePin → Nat
  | .rxP => 55
  | .rxN => 54
  | .txP => 52
  | .txN => 51

/-- The columns of a downstream port, in the order RX_P, RX_N, TX_P, TX_N. -/
def downColumns (port : Fin 4) : List Nat := [[2, 3, 5, 6], [8, 9, 11, 12], [64, 63, 61, 60], [70, 69, 67, 66]].getD port.val []

def LanePin.index : LanePin → Nat
  | .rxP => 0
  | .rxN => 1
  | .txP => 2
  | .txN => 3

def RefClock.site : RefClock → Nat × Nat
  | .lrefW => (8, 4)
  | .tref => (8, 20)
  | .lrefE => (8, 66)
  | .pcieD01 => (41, 2)
  | .pcieD23 => (41, 69)
  | .pcieHa => (49, 44)
  | .pcieHb => (49, 48)

/-- The site of a signal ball (22 R426, R428). -/
def Signal.site : Signal → Nat × Nat
  | .lane n pin => if n.val < 32 then (topRow pin, 4 + 2 * n.val) else (bottomRow pin, 4 + 2 * (n.val - 32))
  | .host p i pin => (bottomRow pin, (if p = 0 then 32 else 48) + 2 * i.val)
  | .down p i pin => (10 + 2 * i.val, (downColumns p).getD pin.index 0)
  | .display o j neg => ((if o = 0 then 55 else 52) - (if neg then 1 else 0), 64 + 2 * j.val)
  | .displayAux o neg => (if o = 0 then 56 else 53, if neg then 67 else 66)
  | .displayHpd o => (if o = 0 then 56 else 53, 69)
  | .evt n neg => (if neg then 44 else 43, 2 + 2 * n.val)
  | .fco n neg => (if neg then 47 else 46, 2 + 2 * n.val)
  | .refClock c neg => (c.site.1, c.site.2 + if neg then 1 else 0)
  | .aux k => (49, 2 + 2 * k.val)
  | .control n => (42 + n.val / 12, 60 + n.val % 12)

/-- The names of the CMOS block, from row BD to row BH (22 R428). -/
def controlNames : List String :=
  ["PORST_N", "WRST_N", "ALIVE", "FAULT_N", "THERMTRIP_N", "PPS_IN", "TERRACE_SYNC", "PROV_EN", "TEST_MODE", "I2C_ADDR0",
   "I2C_ADDR1", "QSPI_RST_N"] ++
  ["QSPI_CLK", "QSPI_CS_N", "QSPI_D0", "QSPI_D1", "QSPI_D2", "QSPI_D3", "I2C_SCL", "I2C_SDA", "AVS_SCL", "AVS_SDA",
   "AVS_ALERT_N", "TCK"] ++
  ["TMS", "TDI", "TDO", "TRST_N", "PERST_HA_N", "PERST_HB_N", "DS_PERST_N0", "DS_PERST_N1", "DS_PERST_N2", "DS_PERST_N3",
   "E0_MOD_ABS", "E0_TX_DIS"] ++
  ["E1_MOD_ABS", "E1_TX_DIS", "DS_PRSNT_N0", "DS_PRSNT_N1", "DS_PRSNT_N2", "DS_PRSNT_N3"] ++
  (List.range 18).map fun n => "TEST" ++ toString n

/-- The power balls (22 R427). -/
inductive Rail where
  | vddCore | vddCoreSense | vssSense | vddSram | vddaLn | vddaLh | vddMemH | vddMemQ | vddMem1 | vddIo | vddHk | vssHk | vrefHk
  deriving DecidableEq, Repr

/-- The power ball at a site; none where a signal stands, or VSS (22 R427). -/
def railAt (r c : Nat) : Option Rail :=
  let span := fun lo hi => decide (lo ≤ c ∧ c ≤ hi)
  let even := fun lo hi => span lo hi && c % 2 = 0
  if (r, c) = (24, 36) then some .vddCoreSense
  else if (r, c) = (24, 37) then some .vssSense
  else if 11 ≤ r ∧ r ≤ 39 ∧ span 14 58 ∧ (r + c) % 2 = 0 then some .vddCore
  else if (r = 9 ∨ r = 40) ∧ span 14 58 then some .vddSram
  else if (r = 7 ∧ span 4 66) ∨ (r = 48 ∧ span 4 62) ∨ ((c = 13 ∨ c = 59) ∧ 10 ≤ r ∧ r ≤ 40) then some .vddaLn
  else if (r = 8 ∧ even 24 64) ∨ (r = 41 ∧ even 14 58) then some .vddaLh
  else if (r = 42 ∨ r = 44 ∨ r = 46) ∧ even 36 58 then some .vddMemH
  else if (r = 43 ∨ r = 45) ∧ even 36 58 then some .vddMemQ
  else if r = 47 ∧ even 36 58 then some .vddMem1
  else if r = 47 ∧ span 60 71 then some .vddIo
  else if r = 50 ∧ even 2 16 then some .vddHk
  else if r = 50 ∧ even 18 28 then some .vssHk
  else if r = 49 ∧ (c = 34 ∨ c = 36) then some .vrefHk
  else none

end Sys2Proof.Machine
end

