-- ==== Sys2Proof/WellFormed.lean ====
section
/-! DEFINITION. Well-formed commands: the operands that the interfaces of the part can carry. -/

namespace Sys2Proof

open Machine (FabricMsg GmData PtpFrame)

/-- An aligned access of 4 or 8 bytes within a range of BAR0 (18 R352). -/
def accessOk (lo hi offset : Nat) (wide : Bool) : Bool :=
  decide (lo ≤ offset ∧ offset + (if wide then 8 else 4) ≤ hi ∧ offset % (if wide then 8 else 4) = 0)

/-- What hot plug detect can report (10 R206). -/
def hpdOk : Hpd → Bool
  | .low => true
  | .pulse _ rate lanes => decide (rate ≤ 3) && [0, 1, 2, 4].contains lanes
  | .back rate lanes => decide (rate ≤ 3) && [0, 1, 2, 4].contains lanes

/-- The header fields of a fabric message fit their bits (16 R319). -/
def msgOk (m : FabricMsg) : Bool := decide (m.src < 64 ∧ m.dst < 64 ∧ m.mseq < 256 ∧ m.wait < 64)

/-- The fields of a PTP message fit their widths (14 R289). -/
def frameOk (m : PtpFrame) : Bool :=
  decide (m.kind < 16) && decide (m.domain < 256) && decide (m.transport < 3) && decide (m.checksum < 65536)

/-- The fields of an announced dataset fit their widths (14 R279). -/
def gmOk (g : GmData) : Bool :=
  decide (g.priority1 < 256 ∧ g.clockClass < 256 ∧ g.accuracy < 256 ∧ g.variance < 65536 ∧ g.priority2 < 256 ∧
    g.identity < 2 ^ 64 ∧ g.steps < 65536)

/-- A digest has 384 bits (21 R411). -/
def fuseOk : FuseField → Bool
  | .rootKey d => decide (d < 2 ^ 384)
  | .planKey _ d => decide (d < 2 ^ 384)
  | .rollback b => decide (b ≤ 64)
  | .tdc _ taps _ => decide (taps.length = 640)
  | .sigRequired | .sensorTrim _ _ | .evtLatency _ _ | .vddCore _ => true

/-- The maximum payload sizes of PCI Express (18 R350). -/
def configOk : ConfigWrite → Bool
  | .msixControl _ _ => true
  | .maxPayload n => decide (n = 128 ∨ n = 256 ∨ n = 512 ∨ n = 1024 ∨ n = 2048 ∨ n = 4096)

/-- The operands of a command are such as its interface can carry. -/
def Instr.wellFormed (i : Instr) : Bool :=
  match i with
  | .devInfo => true
  | .devReset => true
  | .paramGet => true
  | .paramSet => true
  | .semAcquire => true
  | .semRelease => true
  | .planLoad => true
  | .planLoadDone image => decide ((image.getD []).length < 2 ^ 32)
  | .planVerify => true
  | .planCommit => true
  | .planQuery => true
  | .streamStart => true
  | .streamStartDelivery _ => true
  | .streamResync => true
  | .laneStatus => true
  | .viewStatus => true
  | .zoomStop => true
  | .zoomLoad => true
  | .zoomStart => true
  | .zoomSync => true
  | .zoomStatus => true
  | .geyserStop => true
  | .geyserStart => true
  | .geyserTrigger => true
  | .geyserStatus => true
  | .captureRead => true
  | .captureReadDone _ => true
  | .captureRelease => true
  | .basinRecover => true
  | .recoverDone => true
  | .basinStatus => true
  | .archiveFormat => true
  | .archiveAttach => true
  | .archiveDetach => true
  | .displayMode => true
  | .displayStart => true
  | .displayStop => true
  | .displayEdid edid => decide (edid.length ≤ 256)
  | .calderaClear => true
  | .calderaStatus => true
  | .displayStatus => true
  | .ringSetup => true
  | .ringTeardown => true
  | .udpDestSet => true
  | .ptpConfig => true
  | .timeSource => true
  | .timeSet => true
  | .timeStart => true
  | .tcConfig => true
  | .timeStatus => true
  | .evtConfig => true
  | .evtStatus => true
  | .fcoConfig => true
  | .fcoGate => true
  | .fcoStep => true
  | .fcoStatus => true
  | .fabricConfig => true
  | .fabricStatus => true
  | .fabricNodes => true
  | .fabricTunnel => true
  | .tunnelTimeout tag => decide (tag < 65536)
  | .hkConfig => true
  | .hkStart => true
  | .hkRead => true
  | .hkStatus => true
  | .portMode => true
  | .portModeDone _ => true
  | .portStatus => true
  | .nearmemPasr => true
  | .nearmemStatus => true
  | .dmaLoad => true
  | .dmaStart => true
  | .dmaPause => true
  | .dmaPaused _ => true
  | .dmaResume => true
  | .dmaStop => true
  | .dmaStopped _ => true
  | .dmaStatus => true
  | .diagCounters => true
  | .doorbell _ _ _ _ => true
  | .slotWrite _ offset wide _ => accessOk 0x4000 0x6000 offset wide
  | .semRead _ _ _ _ _ => true
  | .semWrite _ _ _ => true
  | .consumedWrite _ _ _ => true
  | .evTailWrite _ _ => true
  | .hostOccRead _ _ => true
  | .evLostRead _ => true
  | .msixTableWrite _ offset wide _ => accessOk 0x6000 0x6200 offset wide
  | .unmappedAccess _ offset width _ => decide (offset < 0x100000 ∧ 1 ≤ width ∧ width ≤ 8)
  | .registerWrite _ offset wide _ => accessOk 0 0x100000 offset wide
  | .i2cTransaction address offset _ bytes => decide (address < 128 ∧ offset < 256 ∧ bytes ≤ 256)
  | .evIrqHoldoffExpiry _ => true
  | .laneBlock _ _ _ => true
  | .superblockHeader _ => true
  | .deskewMarker _ => true
  | .linkManagement _ => true
  | .statusBlockSend _ => true
  | .linkUpStart _ => true
  | .linkUpStepFail _ _ cause => decide (1 ≤ cause ∧ cause ≤ 7)
  | .eyeSweepDone _ _ => true
  | .bundleSuperblockDeliver _ => true
  | .transformDispatch _ => true
  | .spectrumComplete _ => true
  | .fourStepPassDone _ => true
  | .zoomOutput _ => true
  | .zoomSyncRestart => true
  | .terraceSyncEdge => true
  | .maskEvaluate _ => true
  | .poolAccumulate _ => true
  | .poolSweep _ => true
  | .poolRecords _ => true
  | .calderaReduce _ => true
  | .calderaIncrement _ => true
  | .renderTick _ => true
  | .ticksMissed _ => true
  | .frameBaseWrite _ => true
  | .frameWindowClose _ => true
  | .frameStart _ => true
  | .scanoutUnderrun _ pixel => decide (pixel < 4096 * 2304)
  | .hpdChange _ event => hpdOk event
  | .modeChangeDone _ rate lanes => decide (rate ≤ 3) && [0, 1, 2, 4].contains lanes
  | .eventRelease _ => true
  | .wait _ => true
  | .count _ => true
  | .timer _ => true
  | .goto _ => true
  | .arm _ => true
  | .fire _ => true
  | .holdoff _ => true
  | .mark _ => true
  | .stop _ => true
  | .timerExpiry _ _ => true
  | .verifyConfirm _ => true
  | .verifyRetract _ => true
  | .verifyTimeout _ => true
  | .tileComplete _ => true
  | .tileWrite _ => true
  | .basinWriterResume _ => true
  | .headerRewrite _ _ => true
  | .captureClose _ _ => true
  | .releaseHePulse _ => true
  | .envelopeRecord _ => true
  | .cxlResponse _ _ _ => true
  | .cxlTimeout _ => true
  | .cxlLinkDown _ _ => true
  | .cxlLinkUp _ _ width rate _ _ => decide (width ≤ 16 ∧ rate ≤ 64)
  | .cxlNotActive _ _ => true
  | .pcieDsLinkDown _ _ => true
  | .dsPrsntChange _ _ => true
  | .archiveAppend _ => true
  | .nvmeCompletion _ _ => true
  | .nvmeDoorbell _ => true
  | .move _ => true
  | .moveVerify _ => true
  | .waitEvent _ => true
  | .signal _ => true
  | .loop _ => true
  | .dmaDescStop _ => true
  | .dmaBurst _ => true
  | .dmaMoveComplete _ => true
  | .withdrawn _ => true
  | .dmaBeatError _ _ _ => true
  | .eventLinePulse _ _ => true
  | .spectrumRecord _ => true
  | .ringEntryWrite _ => true
  | .ringIrqHoldoffExpiry _ => true
  | .udpFlushExpiry _ => true
  | .heartbeatSend => true
  | .heartbeat _ msg => msgOk msg
  | .epochMark _ msg => msgOk msg
  | .fabricArm _ msg => msgOk msg
  | .fabricFire _ msg => msgOk msg
  | .fireProvisional _ msg => msgOk msg
  | .confirm _ msg => msgOk msg
  | .retract _ msg => msgOk msg
  | .fabricProvisionalTimeout => true
  | .fabricSync _ msg => msgOk msg
  | .probe _ msg => msgOk msg
  | .echo _ msg _ => msgOk msg
  | .fabricLinkUp _ _ => true
  | .join _ msg => msgOk msg
  | .joinSend => true
  | .joinAck _ msg => msgOk msg
  | .tunnelCmd _ msg => msgOk msg
  | .tunnelRsp _ msg => msgOk msg
  | .tunnelData _ msg => msgOk msg
  | .recordFrag _ msg => msgOk msg
  | .uplinkInactive => true
  | .fabricLinkDown _ => true
  | .nodeLost _ => true
  | .managerLost => true
  | .epochBoundary => true
  | .commitWindowClose => true
  | .boundaryIndexWrite _ => true
  | .fitRefresh _ => true
  | .planFlip => true
  | .bankDrainDone _ => true
  | .ptpSync _ seq _ _ _ _ => decide (seq < 65536)
  | .followUp _ seq _ _ => decide (seq < 65536)
  | .delayResp _ seq _ _ => decide (seq < 65536)
  | .delayReq _ m _ => decide (m.source < 2 ^ 80 ∧ m.seq < 65536)
  | .announce _ m => decide (m.source < 2 ^ 80) && gmOk m.gm
  | .ptpMessageSend _ _ => true
  | .announceTimeout _ => true
  | .syncTimeout _ => true
  | .revertHoldExpiry => true
  | .slewEnd => true
  | .ppsEdge => true
  | .ppsMissing => true
  | .tcForward _ m _ _ => frameOk m
  | .timeStartFire _ => true
  | .timeRecordInterval => true
  | .ethLinkChange _ _ => true
  | .evtEdge _ _ taps => decide (taps ≤ 640)
  | .stampTaken _ => true
  | .pairDecide _ => true
  | .tdcTableRebuild => true
  | .dllUnlock _ => true
  | .dllRelock _ => true
  | .fcoPhaseStep _ => true
  | .ventStart _ _ => true
  | .ventConversion _ _ _ => true
  | .thermalCheck _ => true
  | .ovrRecoveryEnd _ => true
  | .nearmemMaintenance _ => true
  | .nearmemReadFail port _ _ => decide (port < 64)
  | .porstNAssert => true
  | .porstNRelease _ _ _ => true
  | .wrstNAssert => true
  | .wrstNRelease => true
  | .bootStepDone step _ => decide (1 ≤ step ∧ step ≤ 12)
  | .fuseProgram field => fuseOk field
  | .pllUnlock _ _ => true
  | .pllRelock _ => true
  | .nearmemLost => true
  | .watchdog _ _ => true
  | .watchdogRestartDone _ => true
  | .aliveToggle => true
  | .hwThermalTrip => true
  | .hostPortReset _ _ => true
  | .hostLinkUp _ => true
  | .addressResolution _ mac => decide (mac < 2 ^ 48)
  | .pcieLinkReturn _ _ width rate lbaSize _ _ _ => decide (width ≤ 16 ∧ rate ≤ 64 ∧ lbaSize ≤ 65536)
  | .powerUp => true
  | .powerDown => true
  | .dsPerstRelease _ => true
  | .pcieConfigWrite _ write => configOk write
  | .ptpMessageIgnored _ => true

end Sys2Proof
end

