-- ==== Sys2Proof/Tests/Slice0.lean ====
section
/-! SUPPORT. Tests: a term that each well-formedness check refuses, commands of each family on small states, and for every
clause of every statement a state and operands that meet its hypotheses together. -/

namespace Sys2Proof.Tests

open Sys2Proof Sys2Proof.Machine

set_option maxRecDepth 40000
set_option Elab.async false

/-! Small states. -/

/-- The part in READY at station time 10 s, with every PLL locked and both host ports up. -/
def up : State :=
  let s := State.reset
  let port := { HostPort.reset with
    linkUp := true, msixEnable := true, msix := Vector.replicate 32 { MsixEntry.reset with ctrl := 0 } }
  { s with
    dev := { s.dev with
      state := .ready, bootStep := 0, fwRunning := true, aliveRun := true, serviced := Vector.replicate 2 true
      plls := Vector.replicate 7 { locked := true, since := 0 } }
    ports := Vector.replicate 2 port
    time := { s.time with
      raw := 10 * Config.secUnits * 2 ^ 24, tclk := 5000000000, valid := true, ethUp := Vector.replicate 2 true }
    evt := { s.evt with dllT := true, dllF := true }
    down := { s.down with near := { s.down.near with trained := 0xFFFF } } }

/-- A request from slot 3 of Port A. -/
def req (code : Nat) (payload : List Byte) : Cmd :=
  { source := .slot 0 3, order := 0, recorded := 10 * Config.secUnits, seq := 7, code := BitVec.ofNat 16 code, flags := 0
    length := BitVec.ofNat 16 payload.length, payload := payload }

/-- The request heads the serial order, and Port A owns every semaphore. -/
def ask (code : Nat) (payload : List Byte) (s : State) : State :=
  { s with host := { s.host with serial := [req code payload], owner := Vector.replicate 64 (some .portA) } }

/-- The command at the head of the serial order. -/
def asked (s : State) : Cmd := s.host.serial.headD (req 0 [])

/-- A command of an earlier time awaits its response. -/
def waiting (w : Wait) (s : State) : State :=
  { s with host := { s.host with
    deferred := [{ cmd := req 0x0101 [], domain := none, pin := none, discard := false, wait := w }] } }

/-- The bits of a request's bytes. -/
def num (l : List (Nat × Nat)) : List Byte := l.flatMap fun x => toLe x.1 x.2

/-- Bank 0 is ACTIVE with a plan since epoch 0; epoch 10,000 runs. -/
def under (p : Plan) (s : State) : State :=
  { s with plans := { s.plans with
    banks := #v[{ Bank.reset with state := .active, plan := p }, Bank.reset], flips := [(0, 0)], epoch := some 10000 } }

/-- Bank 0 in a state. -/
def banked (b : BankState) (s : State) : State := s.modBank 0 fun k => { k with state := b }

def atPort (f : HostPort → HostPort) (s : State) : State := s.modPort 0 f
def atTime (f : Time → Time) (s : State) : State := { s with time := f s.time }
def atDev (f : Dev → Dev) (s : State) : State := { s with dev := f s.dev }
def atHost (f : HostShared → HostShared) (s : State) : State := { s with host := f s.host }
def atPlans (f : Plans → Plans) (s : State) : State := { s with plans := f s.plans }
def atFabric (f : Fabric → Fabric) (s : State) : State := { s with fabric := f s.fabric }
def atDown (f : Downstream → Downstream) (s : State) : State := { s with down := f s.down }
def atEvt (f : Evt → Evt) (s : State) : State := { s with evt := f s.evt }
/-- A PLL loses its lock. -/
def unlocked (p : Fin 7) (s : State) : State :=
  atDev (fun d => { d with plls := vset d.plls p { locked := false, since := 0 } }) s

/-- A mailbox command that is ready, shown by evaluation. -/
def readyNow (edid : List Byte) (i : Instr) (s : State) : Bool :=
  match s.host.serial with
  | [] => false
  | c :: rest => (mailboxRows edid).any fun e =>
    decide (e.1 = i) && firmware s && decide (c.code.toNat = e.2.code) && (precheck e.2 c (taken c rest s)).isNone

/-! Streams, views and plans of one unit. -/

/-- A one-lane bundle of lane 0 in the 16-bit format. -/
def lineE : StreamE := { (default : StreamE) with run := true, lanes := [default] }

/-- Lane 0 in a state, under stream 0's bundle. -/
def onLane (x : LaneState) (s : State) : State :=
  (s.modStream 0 fun t => { t with map := lineE }).modLane 0 fun l => { l with state := x, powered := true, stream := some 0 }

def atRx (f : LaneRx → LaneRx) (s : State) : State := s.modRx 0 f
def atStream (f : StreamRt → StreamRt) (s : State) : State := s.modStream 0 f

/-- A header word of stream 0: lane 0, the half and the part of the count. -/
def headerWord (half : Bool) (part : Nat) : U64 := BitVec.ofNat 64 (atBit 15 half + part * 2 ^ 16)

/-- A view of 64 points on stream 0 that gives power records. -/
def view64 : ViewE := { (default : ViewE) with present := true, log2n := 6, hop := 64, formats := 2, binCount := 64 }

/-- A plan with that view. -/
def viewPlan (v : ViewE) : Plan := { (default : Plan) with streams := [lineE], views := [v] }

/-- A ready transform of view 0. -/
def xform : Xform :=
  { view := 0, j := 0, bank := 0, readyAt := 0, order := 0, gen := 0, epoch := 10000, stream := 0, origin := 0, lo := 0, hi := 63
    zsat := false, data := [], row := false, sat := none }

/-- A spectrum of view 0 of epoch 10,000 over samples 0 to 63, with two bins. -/
def spec : Spectrum := { (default : Spectrum) with epoch := 10000, hi := 63, bins := [{ i := 1, q := 0 }, { i := 0, q := 2 }] }

def atView (f : ViewRt → ViewRt) (s : State) : State := s.modView 0 f
def atZoom (f : ZoomRt → ZoomRt) (s : State) : State := s.modZoom 0 f

/-- A zoom channel of decimation 4 on stream 0. -/
def zoomE : TerraceE := { (default : TerraceE) with
  present := true, sections := 1, syncEn := true, hostTunable := true, d := 4, m := [4] }

/-- Zoom channel 0 under that plan, in a state. -/
def onZoom (x : ZoomState) (s : State) : State :=
  atZoom (fun z => { z with state := x, cfg := zoomE, integI := [0, 0], integQ := [0, 0] })
    (under { (default : Plan) with streams := [lineE], terrace := [zoomE] } s)

/-- A plane that output 0 shows, with a tick at each epoch. -/
def planeE : CalderaE := { (default : CalderaE) with
  present := true, decayMode := 1, target := 1, decayF := 32768, tickN := 1, tickM := 1, frameW := 64, frameH := 2
  bufs := [0x1000, 0x2000, 0x3000, 0x4000] }

/-- That plane under a plan whose view 0 feeds it. -/
def onPlane (s : State) : State :=
  under { viewPlan { view64 with caldera := 1 } with caldera := [planeE] } s

def atPlane (f : PlaneRt → PlaneRt) (s : State) : State := s.modPlane 0 f
def atOutput (f : OutputRt → OutputRt) (s : State) : State := s.modOutput 0 f

/-- A mode of 640 x 480 at 8 bits. -/
def mode480 : DispMode :=
  { bpc10 := false, hPol := false, vPol := false, tiled := false, pclkKhz := 25200, hActive := 640, hFp := 16, hSync := 96
    hBp := 48, vActive := 480, vFp := 10, vSync := 2, vBp := 33 }

/-- Output 0 connected and running that mode. -/
def onOutput (s : State) : State :=
  atOutput (fun x => { x with state := .running, hpd := true, linkRate := 2, lanes := 4, mode := some mode480, running := true }) s

/-- The request of DISPLAY_MODE for it. -/
def modeReq (later : Nat) : List Byte :=
  num [(1, 0), (1, 8), (1, later), (1, 0), (4, 25200), (2, 640), (2, 16), (2, 96), (2, 48), (2, 480), (2, 10), (2, 2), (2, 33)]

/-- A sequencer program of one instruction word. -/
def progE (w : Nat) : GeyserE := { (default : GeyserE) with present := true, instrs := [w], states := [some 0, some 7] }

/-- Sequencer 0 executes a program at its address 0, under a plan with view 0. -/
def onSeq (g : GeyserE) (s : State) : State :=
  (under { viewPlan view64 with geyser := [g] } s).modSeq 0 fun r => { r with run := .executing, bank := some 0 }

def atSeq (f : Seq → Seq) (s : State) : State := s.modSeq 0 f

/-- A provisional FIRE whose event lies at sample 64 of stream 0. -/
def provF : ProvFire :=
  { seq := 0, event := { event := { cond := 0, time := 0, anchor := some { node := 0, stream := 0, index := 64 } }, late := false }
    spec := default, bank := 0, held := 0, captured := 0, issued := true, notices := [] }

/-! CXL windows, Basin rings, drives, DMA channels. -/

/-- D0 has a CXL link with 64 GiB. -/
def cxlUp (s : State) : State :=
  s.modDown 0 fun d =>
    { d with mode := 1, linkUp := Vector.replicate 4 true, capacity := Vector.replicate 4 (2 ^ 36), perstOut := true }

/-- D0 has a PCIe link with a drive of 1,000 tiles. -/
def pcieUp (s : State) : State :=
  (s.modDown 0 fun d => { d with mode := 3, linkUp := Vector.replicate 4 true, perstOut := true }).modDrive 0
    fun d => { d with nsTiles := 1000 }

def atPortD (f : Port → Port) (s : State) : State := s.modDown 0 f
def atBasin (f : BasinRt → BasinRt) (s : State) : State := s.modBasin 0 f
def atRing (f : RingRt → RingRt) (s : State) : State := s.modBasin 0 fun b => { b with ring := f b.ring }

/-- A ring of 128 tiles on D0. -/
def ringE : BasinE :=
  { (default : BasinE) with
    present := true, credits := 64, ringTiles := 128, pre := 4, post := 4, releaseHe := some 9, readRate := 1000000 }

/-- That ring, in use by stream 0. -/
def onRing (s : State) : State :=
  atRing (fun r => { r with cfg := ringE }) (atBasin (fun b => { b with state := .writing }) (cxlUp s))

/-- A CLOSED capture 5 of samples 0 to 7, in slot 0. -/
def capC : Capture := { (default : Capture) with id := 5, state := .closed, hi := 8 }

def withCap (c : Capture) (s : State) : State :=
  atRing (fun r => { r with
    slots := vset r.slots 0 (some c), tiles := [default], order := [5] }) s

def atArchive (f : ArchiveRt → ArchiveRt) (s : State) : State := s.modArchive 0 f
def atDrive (f : Drive → Drive) (s : State) : State := s.modDrive 0 f

/-- NV0 on that drive. -/
def onArchive (s : State) : State := atArchive (fun v => { v with attached := true, nsTiles := 1000 }) (pcieUp s)

/-- An append of two tiles from tile 16 on. -/
def job2 : Append :=
  { entry := [], trig := 0, move := 0, stream := 0, slot := 0, id := 5, channel := 0, first := 16, count := 2, written := 0, pending := 0, bad := [],
    flushed := false, indexed := false }

def atDma (f : DmaCh → DmaCh) (s : State) : State := s.modDma 0 f

/-- Channel 0 runs a program. -/
def onDma (prog : List Nat) (s : State) : State := atDma (fun d => { d with state := .running, program := prog }) s

/-- A MOVE descriptor: spaces, bytes, addresses. -/
def moveD (src dst len a b : Nat) : Nat := 1 + src * 2 ^ 4 + dst * 2 ^ 8 + len * 2 ^ 32 + a * 2 ^ 64 + b * 2 ^ 128

/-- The move of a descriptor. -/
def moveOf (x : Nat) : OpenMove :=
  { dead := false, serial := 0, num := 0, desc := x, capture := none, issuedAll := false, waiting := 0, indexed := false }

/-- A plan with a DMA channel. -/
def dmaPlan (host : Bool) (prog : List Nat) : Plan :=
  { (default : Plan) with dma := [{ (default : DmaE) with present := true, host := host, nearBytes := 4096, descs := prog }] }

/-- A record of 64 bytes that waits on ring 0. -/
def rec0 : Record :=
  { type := 9, kind := 0, node := 0, stream := none, view := none, flags := 0, epoch := 0, time := 0, body := List.replicate 32 7 }

/-- Ring 0 of Port A is up, at an address, with a record waiting. -/
def onHostRing (f : Ring → Ring) (s : State) : State :=
  (s.modRecRing 0 fun g => f { g with isUp := true, log2Bytes := 18, base := 4096 }).modPath 0
    fun p => { p with queue := [{ seq := 3, item := rec0 }] }

def atUdp (f : UdpDest → UdpDest) (s : State) : State := s.modUdp 0 f

/-- The request of UDP_DEST_SET. -/
def udpReq (on : Nat) : List Byte :=
  num [(1, 0), (1, on), (1, 0), (1, 0), (2, 5000), (2, 0), (2, 1500), (2, 100), (4, 0), (1, 10), (1, 0), (1, 0), (1, 1), (12, 0)]

/-! Fabric, time. -/

def atLink (f : FabLane → FabLane) (s : State) : State := s.modFabLane 0 f
def atNode (f : NodeRt → NodeRt) (s : State) : State := s.modNode 3 f

/-- A message. -/
def msg (src dst : Nat) (b : FabBody) : FabricMsg :=
  { src := src, dst := dst, mseq := 9, wait := 0, copy := false, first := true, last := true, crcOk := true, body := b }

/-- Node 5 is a worker; L32 is its uplink to the manager. -/
def asWorker (x : Member) (s : State) : State :=
  atLink (fun l => { l with state := .up, use := 1, partner := 0, peak := some 5 })
    (atFabric (fun b => { b with role := .worker, node := 5, member := x, depth := 1 }) s)

/-- The manager; L32 is its downlink to node 3. -/
def asManager (s : State) : State :=
  atNode (fun n => { n with state := .member, depth := 1, via := some 0 })
    (atLink (fun l => { l with state := .up, use := 3, partner := 3, peak := some 5 })
      (atFabric (fun b => { b with role := .manager }) s))

/-- A FIRE-class message's content. -/
def fireB (k : FireClass) : FabBody :=
  .fire { (default : FireMsg) with kind := k, time := 10 * Config.secUnits, seq := 2, channel := 4, sequencer := 1 }

/-- The provisional FIRE of the manager that awaits its decision. -/
def remoteP : RemoteProv := { (default : RemoteProv) with sequencer := 1, seq := 2, channel := 4 }

/-- Sequencer 0 waits for condition 292. -/
def waits292 (s : State) : State := atSeq (fun r => { r with run := .waiting }) (onSeq (progE (1 + 292 * 128)) s)

/-- The request of FABRIC_CONFIG: role, node, L32's use; TIME_TOL 1,000. -/
def configReq (role node use : Nat) : List Byte := num [(1, role), (1, node), (1, use), (11, 0), (2, 0), (4, 1000)]

/-- The request of FABRIC_TUNNEL to node 3 with an inner DEV_INFO. -/
def tunnelReq : List Byte := num [(1, 3), (1, 0), (2, 77), (4, 0), (4, 1), (2, 0x101), (2, 0), (2, 0), (22, 0)]

/-- Domain A in a port state, on a port that is up. -/
def asDomain (p : PortState) (s : State) : State := s.modDomain 0 fun x => { x with portState := p }
def atDomain (f : PtpDomain → PtpDomain) (s : State) : State := s.modDomain 0 f

/-- A grandmaster of clock class 6. -/
def gm6 : GmData := { (default : GmData) with priority1 := 200, clockClass := 6, timeTraceable := true, ptpTimescale := true }

def atStart (f : TimeStart → TimeStart) (s : State) : State := atTime (fun t =>
  { t with starts := vset t.starts 0 (f (vget t.starts 0)) }) s

/-- The request of PTP_CONFIG for domain A. -/
def ptpReq : List Byte :=
  num [(1, 0), (1, 9), (1, 0), (1, 0), (1, 1), (1, 100), (1, 100), (1, 0xFD), (1, 0), (1, 1), (2, 0)]

/-- The request of TIME_START for TS0: control, target, mask, and a start at 11 s. -/
def startReq (ctl : Nat) : List Byte := num [(1, 0), (1, ctl), (1, 3), (1, 5), (4, 0), (12, 11 * 2 ^ 48)]

/-! Events, converters, device. -/

def atIn (f : EvtIn → EvtIn) (s : State) : State := s.modIn 0 f
def atFco (f : Fco → Fco) (s : State) : State := s.modFco 0 f
def atVent (f : Vent → Vent) (s : State) : State := s.modVent 0 f

/-- EVT0 is enabled, with a FIFO. -/
def onEvt (l : List Edge) (s : State) : State := atIn (fun x => { x with enabled := true, fifo := l }) s

/-- An edge at 9 s. -/
def edge9 : Edge := { ts := 9 * Config.secUnits, taps := 100, falling := false, loop := false, seq := 4, latencyPs := 0 }

/-- A stamp at a number of seconds. -/
def stampAt (n : Nat) : Stamp := { time := n * Config.secUnits, falling := false, loop := false, seq := 4 }

/-- EVT0 is paired with EVT1. -/
def paired (a b : List Stamp) (s : State) : State := atIn (fun x =>
  { x with pair := some { stop := 1, window := 100, starts := a, stops := b } }) s

/-- The request of EVT_CONFIG for EVT0 with a hold-off. -/
def evtReq (h : Nat) : List Byte := num [(1, 0), (1, 1), (1, 1), (1, 3), (1, 0), (1, 0), (2, h), (2, 50), (2, 0)]

/-- The request of FCO_STEP: epoch, then four steps of output 0. -/
def stepReq (k : Nat) : List Byte := num [(1, 0), (7, 0), (8, k), (4, 4), (4, 2), (56, 0)]

/-- Two entries of two conversions. -/
def twoEntries : List HkEntry := List.replicate 2 { input := 5, joint := false, avg := 1, shift := 0 }

/-- Vent A is enabled with a sequence of two entries of two conversions. -/
def onVent (s : State) : State := atVent (fun x => { x with enabled := true, entries := twoEntries }) s

/-- Its sequence runs. -/
def inRun (done sum : Nat) (s : State) : State :=
  atVent (fun x => { x with run := some { HkRun.begin 0 twoEntries with sumA := { HkSum.zero with done := done, sum := sum } } }) (onVent s)

/-- The device boots, at a step. -/
def atStep (n : Nat) : State := { State.reset with dev := { Dev.reset with bootStep := n } }

/-- A density of no flags that the first unit of a status command is asked with: UNITS, CLEAR, mask. -/
def statusReq (units clear mask : Nat) : List Byte := num [(8, units), (1, clear), (3, 0), (4, mask)]

/-- A Sync over IPv6. -/
def frame6 : PtpFrame := { kind := 0, domain := 3, transport := 2, correction := 5, checksum := 0x1234, body := [] }

/-- Lanes 0 and 1 in a state, under stream 0's bundle of two, lane 1 aligned at a MARKER_SEQ. -/
def onTwo (x : LaneState) (seq : Nat) (s : State) : State :=
  let on (l : Fin 32) (s : State) := s.modLane l fun k => { k with state := x, powered := true, stream := some 0 }
  (on 0 (on 1 (s.modStream 0 fun t => { t with map := { lineE with log2Lanes := 1, lanes := [default, default] } }))).modRx 1
    fun r => { r with aligned := true, lastMark := some { seq := seq, sb := 9, place := true } }

/-- Eyes of which the third is the widest. -/
def eyes2 : Vector (BitVec 32) 19 := vset (vset (Vector.replicate 19 1) 2 7) 5 7

def atLane3 (f : Lane → Lane) (s : State) : State := s.modLane 3 f

/-- A phase step at boundary 20,000. -/
def sched9 : Schedule := { (default : Schedule) with epoch := 20000 }

/-! Plan images. -/

/-- An image of 2 tiles that loads: MAGIC, format 3, TILES, CRC_TILES, SECTIONS, PLAN_ID and the checksums of zero tiles. -/
def okImage : List Byte :=
  num [(4, 0xADE71640), (1, 0), (1, 3), (2, 0), (4, 2), (2, 1), (2, 1), (4, 7)] ++ List.replicate 0x1E4 0 ++
    num [(4, 0x34D6B3A3), (4, 0x98F94189)]

/-- The near memory of bank 0 with an image that names the four required sections, all of them without a running stream, a
present view or a proof, and a FABRIC_LATENCY of 2 us. -/
def okPlanMemory : Memory :=
  let sect := fun n (t off count size : Nat) => cellsOf (0x200 + 32 * n) (num [(2, t), (2, 1), (4, off), (4, count * size), (4, count),
    (2, size)])
  cellsOf 0 (num [(4, 0xADE71640), (1, 0), (1, 3), (2, 0), (4, 6), (2, 1), (2, 4), (4, 7), (1, 0xB0)]) ++
    sect 0 0x01 0x2000 16 32 ++ sect 1 0x02 0x3000 64 64 ++ sect 2 0x0F 0x4000 1 128 ++ sect 3 0x13 0x5000 17 16 ++
    cellsOf 0x4000 (num [(4, 2)])

/-- Bank 0 is LOADED with that image. -/
def withImage (s : State) : State := (banked .loaded s).modNear fun m => { m with data := okPlanMemory }

theorem ready_of_now (edid : List Byte) {i : Instr} {c : Cmd} {rest : List Cmd} {s : State} (hs : s.host.serial = c :: rest)
    (h : readyNow edid i s = true) : Ready i c rest s := by
  unfold readyNow at h
  rw [hs] at h
  simp only [List.any_eq_true, Bool.and_eq_true, decide_eq_true_eq] at h
  obtain ⟨⟨j, spec⟩, hm, ⟨⟨rfl, hf⟩, hc⟩, hp⟩ := h
  exact ⟨edid, spec, hm, ⟨hs, hf, hc⟩, Option.isNone_iff_eq_none.mp hp⟩

theorem ne_some_of_isNone {α : Type} {o : Option α} (h : o.isNone = true) (a : α) : o ≠ some a := by
  rw [Option.isNone_iff_eq_none.mp h]; exact nofun

/-- No parameter of domain 13 belongs to a unit that can run. -/
theorem no_unit_runs_for_13 (s : State) {id : Nat} {p : ParamInfo} (hp : paramInfo id = some p) (hd : p.domain = 13) :
    unitRuns s id = false := by
  unfold unitRuns
  split
  · rename_i h
    simp only [paramInfo, h, and_self, if_true, Option.some.injEq] at hp
    subst hp
    exact absurd hd (by decide)
  · split
    · rename_i h
      obtain rfl | rfl := h
      all_goals
        simp only [paramInfo] at hp
        cases hp
        exact absurd hd (by decide)
    · rfl

theorem bits_of_12 : ∀ o : Nat, 2 ≤ o → o < 2 + 2 → (12 : BitVec 32).getLsbD o = true := by
  intro o h1 h2
  obtain rfl | rfl : o = 2 ∨ o = 3 := by omega
  all_goals decide


/-! An ill-formed term for each well-formedness check. -/

theorem test_misaligned_and_distant_accesses_refused :
    (Instr.slotWrite 0 0x4001 false 0).wellFormed = false ∧ (Instr.slotWrite 0 0x5FFC true 0).wellFormed = false ∧
    (Instr.slotWrite 1 0x3FFC false 0).wellFormed = false ∧ (Instr.msixTableWrite 0 0x6200 false 0).wellFormed = false ∧
    (Instr.registerWrite 0 0x100000 false 0).wellFormed = false ∧ (Instr.unmappedAccess 0 0x30 9 true).wellFormed = false ∧
    (Instr.i2cTransaction 128 0 false 1).wellFormed = false ∧ (Instr.slotWrite 0 0x5FF8 true 0).wellFormed = true := by decide

theorem test_overlong_data_refused :
    (Instr.displayEdid (List.replicate 257 0)).wellFormed = false ∧
    (Instr.planLoadDone (some (List.replicate (2 ^ 32) 0))).wellFormed = false := by
  constructor <;> simp only [Instr.wellFormed, Option.getD_some, List.length_replicate] <;> decide

theorem test_numbers_past_their_fields_refused :
    (Instr.tunnelTimeout 65536).wellFormed = false ∧ (Instr.linkUpStepFail 0 5 8).wellFormed = false ∧
    (Instr.linkUpStepFail 0 5 0).wellFormed = false ∧
    (Instr.scanoutUnderrun 0 (4096 * 2304)).wellFormed = false ∧ (Instr.modeChangeDone 0 4 4).wellFormed = false ∧
    (Instr.modeChangeDone 0 3 3).wellFormed = false ∧ (Instr.delayReq 0 ⟨5, 65536, 0⟩ 0).wellFormed = false ∧
    (Instr.evtEdge 0 false 641).wellFormed = false ∧ (Instr.bootStepDone 13 .done).wellFormed = false ∧
    (Instr.addressResolution 0 (2 ^ 48)).wellFormed = false := by decide

theorem test_ill_formed_structures_refused :
    (Instr.hpdChange 0 (.back 4 1)).wellFormed = false ∧ (Instr.hpdChange 0 (.pulse true 0 5)).wellFormed = false ∧
    (Instr.probe 0 { msg 64 0 (.probe 1) with mseq := 3 }).wellFormed = false ∧
    (Instr.announce 0 ⟨0x10001, { gm6 with priority1 := 256 }⟩).wellFormed = false ∧
    (Instr.fuseProgram (.rootKey (2 * 2 ^ 192 * 2 ^ 191))).wellFormed = false ∧ (Instr.fuseProgram (.rollback 65)).wellFormed = false ∧
    (Instr.pcieConfigWrite 0 (.maxPayload 384)).wellFormed = false := by decide +kernel

/-! Worked examples of the specification. -/

/-- 04, a four-lane bundle: the half counts 0x00_0123 and 0x00_0400 with 2,040 samples between them give count 4,898,948,096. -/
theorem test_count_acquisition : countFrom 0x123 0x400 2040 = 4898948096 := by decide

/-- 03, a boundary and a late commit: at P = 10 ms the time 123.456 789 s after the origin lies in epoch 12,345, and L is 1; at
P = 100 us L is 10. -/
theorem test_epoch_arithmetic :
    let s := { up with params := { up.params with epochPeriod := 10000, epochOrigin := 1700000000000000 } }
    epochAt s (1700000123456789000 * Config.nsUnits) = some 12345 ∧ commitPeriod s = 1 ∧
    commitPeriod { s with params := { s.params with epochPeriod := 100 } } = 10 := by decide +kernel

/-- 06, an observatory band: with SK bounds of about 1 +- 3 x 2 / sqrt M the quiet bin passes and the radar bin is masked. -/
theorem test_kurtosis :
    let p := { (default : PoolE) with skLow := 0x3F79AC24, skHigh := 0x3F8329EE }
    (finishBin p 58926 { s1 := 15085056, s2 := 7723548672, occ := 3, tag := false }).mask = false ∧
    (finishBin p 58926 { s1 := 30171136, s2 := 53681782784, occ := 5893, tag := false }).mask = true := by decide +kernel

/-- 06, the longest passing PERIOD_EPOCHS: 11 periods of 100 ms give 64,833 spectra at 58,926.39 a second and 12 give 70,727. -/
theorem test_pool_spectra :
    let s := { up with params := { up.params with epochPeriod := 100000 } }
    let p := { (default : Plan) with streams := List.replicate 16 { (default : StreamE) with run := true, declared := 1930900000 } }
    let v := { (default : ViewE) with source := 4, log2n := 16, hop := 32768 }
    poolSpectra s p v { (default : PoolE) with period := 11 } = 64833 ∧
    poolSpectra s p v { (default : PoolE) with period := 12 } = 70727 := by decide +kernel

/-- 09, one capture from ring to drive: the tile at position 4,422,937 of the ring is at 0x4_37D5_9000 of the window. -/
theorem test_tile_address :
    ({ RingRt.reset with cfg := { (default : BasinE) with ringTiles := 8388544 } }).tileAddr 1984119321 = 0x437D59000 := by
  decide +kernel

/-- 22, finding balls: L21 TX_P is E46, L40 RX_P is BV20, and RX_N of D2's lane 13 is AV63. -/
theorem test_ball_lookup :
    siteName (Signal.lane 21 .txP).site = "E46" ∧ siteName (Signal.lane 40 .rxP).site = "BV20" ∧
    siteName (Signal.down 2 13 .rxN).site = "AV63" := by decide

/-- 10, one view on one monitor: a frame of 3840 x 2160 with 4:2:0 chroma at 10 bits has 15,552,000 bytes,
and its chroma plane starts at the next multiple of 4,096 (R197), 3,072 further; -60 dBFS is row
1,920; a count of 41,902 keeps floor(v / 4) at DECAY_F 16,384 and renders through index 488. -/
theorem test_density :
    frameSize { (default : CalderaE) with format := 2, frameW := 3840, frameH := 2160 } = 15552000 + 3072 ∧
    rowOf { (default : CalderaE) with rowBase := -30720, rowGain := 8192 } (-15360) = 1920 ∧
    decayCells { (default : CalderaE) with decayMode := 1, decayF := 16384 } false [(5, 41902)] = [(5, 10475)] ∧
    colourIdx 41902 = 488 := by decide +kernel

/-- 11, one view on a ring and on UDP: the header words of a spectrum record of 6,608 bytes. -/
theorem test_record_header :
    let r : Record := { type := 1, kind := 0, node := 0, stream := some 6, view := some 12, flags := 0, epoch := 0, time := 0
                        body := List.replicate 6576 0 }
    r.size = 6608 ∧ ofLe ((r.bytes 0).take 4) = 0x033AD001 ∧ ofLe (((r.bytes 0).drop 4).take 4) = 0x3180 := by decide +kernel

/-- 15, an interval: the stamps of the example lie 321,700 units apart, which is INTERVAL 1,257; -71,516 gives -279 with ORDER,
-256 gives -1 with ORDER, and 0 is COINCIDENT. -/
theorem test_interval :
    let t := 456789000 * Config.nsUnits
    stampOf t 137 850 = 456788998 * Config.nsUnits + 40294 ∧
    stampOf (t + 6 * Config.nsUnits) 401 910 = stampOf t 137 850 + 321700 ∧
    intervalOf 321700 = (1257, false, false) ∧ intervalOf (-71516) = (-279, false, true) ∧
    intervalOf (-256) = (-1, false, true) ∧ intervalOf 0 = (0, true, false) := by decide +kernel

/-- 17, one Vent A sequence: a sum of 98,304 at SHIFT 4 reads 6,144. -/
theorem test_vent_value : hkValue 4 98304 = 6144 := by decide

/-- 18, two hosts and one plan: of two reads of SEM00 in one cycle TIE_TOKEN 0 puts Port A first, and it owns the semaphore. -/
theorem test_semaphore_tie :
    ∃ t, exec (.semRead 0 0 false 1 false) up = .next t ∧ semOwner t 0 = some .portA ∧ t.host.tieToken = true := by
  exact ⟨_, rfl, by decide +kernel, by decide +kernel⟩

/-- 20, the observatory band: word 0x00 of entry 8 of VIEWS, and the header words 0x004, 0x00C and 0x014. -/
theorem test_image_fields :
    (let v := parseView 0x1809; v.present = true ∧ v.source = 4 ∧ v.log2n = 16 ∧ v.symmetric = true) ∧
    (let h := parseHeader (up.modNear fun m =>
        { m with data := cellsOf 4 (num [(4, 0x302), (4, 67), (4, 0x80001), (4, 5), (4, 0x030201B0)]) }) 0
     h.major = 3 ∧ h.minor = 2 ∧ h.tiles = 67 ∧ h.crcTiles = 1 ∧ h.sections = 8 ∧ h.stepping = 0xB0) := by
  decide +kernel

/-! Commands. -/

/-- 18 R354: a doorbell of 16 or more posts nothing and raises DOORBELL_REJECT. -/
theorem test_doorbell_reject :
    ∃ t, exec (.doorbell 0 16 none false) up = .next t ∧ (t.port 0).flags.now ≠ 0 ∧ t.host.serial = [] :=
  ⟨_, rfl, by decide +kernel, by decide +kernel⟩

/-- 18 R353: CONSUMED of a ring that is up takes the value that its port writes. -/
theorem test_consumed_write :
    ∃ t, exec (.consumedWrite 1 2 77) (up.modRecRing 2 fun g => { g with isUp := true, port := 1 }) = .next t ∧
      (vget t.records.rings 2).consumed = 77 :=
  ⟨_, rfl, by decide +kernel⟩

/-- 21 R424: power-up leaves the part in BOOT with nothing in the serial order. -/
theorem test_power_up :
    ∃ t, exec .powerUp (atDev (fun d => { d with powered := false }) up) = .next t ∧ t.dev.powered = true ∧
      t.host.serial = [] ∧ t.plans.epoch = none :=
  ⟨_, rfl, by decide +kernel, by decide +kernel, by decide +kernel⟩

/-- A command that is queued is taken from the front. -/
theorem test_front_command :
    ∃ t, step { up with pending := [.doorbell 0 16 none false, .aliveToggle] } = .next t ∧ t.pending = [.aliveToggle] :=
  ⟨_, rfl, by decide +kernel⟩

/-! Witnesses for the statements about every command. -/

theorem witness_StepTakesFront : ∃ (c : Instr) (rest : List Instr) (s : State), s.pending = c :: rest :=
  ⟨.devInfo, [.aliveToggle], { up with pending := [.devInfo, .aliveToggle] }, rfl⟩

theorem witness_QueueKept : ∃ (c : Instr) (s t : State), exec c s = .next t := ⟨.aliveToggle, up, _, rfl⟩

theorem witness_TrailGrows : ∃ (c : Instr) (s t : State), exec c s = .next t := ⟨.heartbeatSend, up, _, rfl⟩

theorem witness_FusesKept :
    ∃ (c : Instr) (s t : State), exec c s = .next t ∧ (∀ f, c ≠ .fuseProgram f) ∧ ∀ r, c ≠ .bootStepDone 12 r :=
  ⟨.bootStepDone 11 .done, up, _, rfl, nofun, nofun⟩

theorem witness_InputsKept :
    ∃ (c : Instr) (s t : State), exec c s = .next t ∧ c ≠ .powerUp ∧ c ≠ .powerDown ∧ c ≠ .porstNAssert ∧ c ≠ .wrstNAssert ∧
      c ≠ .wrstNRelease ∧ ∀ a b d, c ≠ .porstNRelease a b d :=
  ⟨.hwThermalTrip, up, _, rfl, nofun, nofun, nofun, nofun, nofun, nofun⟩

theorem witness_StationTimeKept :
    (∃ (c : Instr) (s t : State), exec c s = .next t ∧ (∀ d q w o k r, c ≠ .ptpSync d q w o k r) ∧
      (∀ d q o k, c ≠ .followUp d q o k) ∧ c ≠ .ppsEdge ∧ c ≠ .timeSet ∧ c ≠ .porstNAssert ∧ c ≠ .hwThermalTrip ∧
      c ≠ .powerUp ∧ c ≠ .powerDown ∧ ∀ p a, c ≠ .pllUnlock p a) ∧
    (∃ (s t : State), anyBankBusy s = true ∧ exec (.ptpSync 0 1 false 5 0 7) s = .next t) ∧
    (∃ (s t : State), anyBankBusy s = true ∧ exec .ppsEdge s = .next t) :=
  ⟨⟨.slewEnd, up, _, rfl, nofun, nofun, nofun, nofun, nofun, nofun, nofun, nofun, nofun⟩,
   ⟨banked .active up, _, by decide +kernel, rfl⟩, ⟨banked .draining up, _, by decide +kernel, rfl⟩⟩

theorem witness_MemoriesStayCanonical : ∃ s t : State, s.memoriesWf ∧ step s = .next t :=
  ⟨withImage { up with pending := [.planVerify] }, _, by decide +kernel, rfl⟩

theorem witness_CountFromHalves :
    (∃ (x : Nat) (t : StreamRt), x < 2 ^ 48 ∧ t.lowPart = some (x % 2 ^ 24, 1)) ∧
    (∃ (x : Nat) (t : StreamRt), x < 2 ^ 48 ∧ t.highPart = some (x / 2 ^ 24, 1)) :=
  ⟨⟨2 ^ 48 - 1, { up.stream 0 with lowPart := some (2 ^ 24 - 1, 1) }, by decide +kernel⟩,
   ⟨2 ^ 48 - 1, { up.stream 0 with highPart := some (2 ^ 24 - 1, 1) }, by decide +kernel⟩⟩

/-- A record that no uplink message path holds. -/
theorem witness_RecordAssignment_oversize :
    ∃ (s : State) (mask : Nat) (r : Record) (i : Fin 25), bit i.val mask = true ∧ i.val = 24 ∧ pathSpace i s < r.size :=
  ⟨up, 2 ^ 24, { rec0 with body := List.replicate 2100 7 }, 24, by decide +kernel⟩

/-- The image of `okImage` passes the checks of PLAN_LOAD, at the length that the command names. -/
theorem witness_PlanLoadPasses :
    ∃ (s v : State) (d : Deferred) (b : Fin 2) (p : PortId) (a n : Nat) (q : Fin 16) (bs : List Byte),
      s.host.deferred = [d] ∧ d.wait = .planLoad b p a n ∧ d.cmd.source = .slot p q ∧ d.discard = false ∧ d.pin = none ∧
      firmware s = true ∧ v = s.modNear (fun m => { m with data := memWrite m.data (bankBase b) (padTo n bs) }) ∧
      imageLe v b 0 4 = 0xADE71640 ∧ headerCrcOk v b = true ∧ headerBad v (parseHeader v b) n = none ∧
      tileCrcsOk v b = true :=
  ⟨waiting (.planLoad 0 0 64 8192) up, _, _, 0, 0, 64, 8192, 3, okImage, rfl, rfl, rfl, rfl, rfl, by decide +kernel, rfl,
   by decide +kernel, by decide +kernel, by decide +kernel, by decide +kernel⟩

/-! Witnesses: for every clause of a statement, a state and operands that meet its hypotheses together. -/

theorem witness_DoorbellPostsASlot :
    (∃ (s : State) (p : PortId), reachable p s = false) ∧
    (∃ (s : State) (p : PortId) (v : U32) (other : Option U32) (i : Fin 16), reachable p s = true ∧
      (other = none ∨ reachable (peer p) s = false) ∧ BitVec.toNat v = i.val ∧
      ((slotOf p i s).state = SlotState.free ∨ (slotOf p i s).state = SlotState.done)) ∧
    (∃ (s : State) (p : PortId) (v : U32) (other : Option U32), reachable p s = true ∧ (other = none ∨ reachable (peer p) s = false) ∧
      16 ≤ BitVec.toNat v) ∧
    (∃ (s : State) (p : PortId) (v : U32) (other : Option U32) (i : Fin 16), reachable p s = true ∧
      (other = none ∨ reachable (peer p) s = false) ∧ BitVec.toNat v = i.val ∧
      ((slotOf p i s).state = SlotState.posted ∨ (slotOf p i s).state = SlotState.executing)) :=
  ⟨⟨atPort (fun h => { h with linkUp := false }) up, 0, by decide +kernel⟩,
   ⟨atPort (fun h => { h with slots := Vector.replicate 16 { state := .done, bytes := memWrite [] 4 (toLe 2 0x101) } }) up, 0, 3#32,
     none, 3, by decide +kernel⟩,
   ⟨up, 0, 0x10#32, none, by decide +kernel⟩,
   ⟨atPort (fun h => { h with slots := vmod h.slots 0 fun x => { x with state := .posted } }) up, 0, 0#32, none, 0, by decide +kernel⟩⟩

theorem witness_DoorbellTies :
    ∃ (s : State) (p : PortId), reachable p s = true ∧ reachable (peer p) s = true :=
  ⟨up, 0, by decide +kernel⟩

theorem witness_SlotWriteStores :
    (∃ (s : State) (p : PortId) (i : Fin 16) (k : Nat) (wide : Bool), reachable p s = true ∧ k < 512 ∧
      ((k % if wide = true then 8 else 4) = 0) ∧ ((slotOf p i s).state = SlotState.free ∨ (slotOf p i s).state = SlotState.done) ∧
      (slotOf p i s).bytes.wf) ∧
    (∃ (s : State) (p : PortId) (i : Fin 16) (k : Nat) (wide : Bool), reachable p s = true ∧ k < 512 ∧
      ((k % if wide = true then 8 else 4) = 0) ∧ ((slotOf p i s).state = SlotState.posted ∨ (slotOf p i s).state = SlotState.executing))
      :=
  ⟨⟨up, 0, 0, 0, true, by decide +kernel⟩,
   ⟨atPort (fun h => { h with slots := vmod h.slots 0 fun x => { x with state := .executing } }) up, 0, 0, 0, true, by decide +kernel⟩⟩

theorem witness_UnmappedAccesses :
    (∃ (s : State) (p : PortId) (off : Nat) (w : Nat), reachable p s = true ∧ legalAccess off w = false) ∧
    (∃ (s : State) (p : PortId) (off : Nat), reachable p s = true ∧ off % 4 = 0 ∧ assigned off = false) ∧
    (∃ (s : State) (p : PortId) (off : Nat), reachable p s = true ∧ off % 8 = 0 ∧ assigned off = false ∧ assigned (off + 4) = false) :=
  ⟨⟨up, 0, 52, 52, by decide +kernel⟩,
   ⟨up, 0, 52, by decide +kernel⟩,
   ⟨up, 0, 64, by decide +kernel⟩⟩

theorem witness_HostFlagsClear :
    ∃ (s : State) (p : PortId), reachable p s = true :=
  ⟨up, 0, by decide +kernel⟩

theorem witness_RegisterWrites :
    (∃ (s : State) (p : PortId) (off : Nat), reachable p s = true ∧ 16384 ≤ off ∧ off < 24576 ∧ off % 4 = 0) ∧
    (∃ (s : State) (p : PortId) (off : Nat), reachable p s = true ∧ 24576 ≤ off ∧ off < 25088 ∧ off % 4 = 0) ∧
    (∃ (s : State) (p : PortId) (off : Nat), reachable p s = true ∧ (off ∈ [0, 4, 8, 12, 20, 28, 32, 40, 48, 28672, 28676] ∨ 512 ≤ off ∧
      off < 544 ∧ off % 4 = 0 ∨ 4096 ≤ off ∧ off < 12288 ∧ off % 4 = 0)) ∧
    (∃ (s : State) (p : PortId) (off : Nat), reachable p s = true ∧ off % 8 = 0 ∧ assigned off = true ∧ assigned (off + 4) = true) :=
  ⟨⟨up, 0, 16416, by decide +kernel⟩,
   ⟨up, 0, 24588, by decide +kernel⟩,
   ⟨up, 0, 0, by decide +kernel⟩,
   ⟨up, 0, 16416, by decide +kernel⟩⟩

theorem witness_ManagementTarget :
    (∃ (s : State) (addr : Nat), addr = 96 + s.dev.i2cAddr.toNat ∧ s.dev.powered = true ∧ s.dev.porstN = true ∧ s.dev.tripHold = false) ∧
    (∃ (s : State) (addr : Nat), (s.dev.powered = false ∨ s.dev.porstN = false ∨ s.dev.tripHold = true ∨ addr ≠ 96 +
      s.dev.i2cAddr.toNat)) :=
  ⟨⟨up, _, rfl, by decide +kernel⟩,
   ⟨up, 0, by decide +kernel⟩⟩

theorem witness_SemaphoreRegisters :
    (∃ (s : State) (p : PortId) (i : Fin 64), reachable p s = true ∧ semOwner s i = none) ∧
    (∃ (s : State) (p : PortId) (i : Fin 64) (o : Owner), semOwner s i = some o ∧ reachable p s = true) ∧
    (∃ (s : State) (p : PortId) (i : Fin 64), reachable p s = true ∧ semOwner s i = some (portOwner p) ∧ pinned s i = false) ∧
    (∃ (s : State) (p : PortId) (i : Fin 64), reachable p s = true ∧ semOwner s i = some (portOwner p) ∧ pinned s i = true) ∧
    (∃ (s : State) (p : PortId) (i : Fin 64), reachable p s = true ∧ semOwner s i ≠ some (portOwner p)) :=
  ⟨⟨up, 0, 0, by decide +kernel⟩,
   ⟨atHost (fun h => { h with owner := vset h.owner 63 (some .portB) }) up, 0, 63, _, rfl, by decide +kernel⟩,
   ⟨atHost (fun h => { h with owner := vset h.owner 63 (some .portB) }) up, 1, 63, by decide +kernel⟩,
   ⟨atHost (fun h => { h with owner := vset h.owner 0 (some .portA), deferred := [{ cmd := req 0x301 [], domain := some 0, pin := some 0, discard := false, wait := .streamStart 0 0 }] })
     up, 0, 0, by decide +kernel⟩,
   ⟨up, 0, 0, by decide +kernel⟩⟩

theorem witness_SemaphoreCommands :
    (∃ (s : State) (c : Cmd) (rest : List Cmd) (i : Fin 64), Ready Instr.semAcquire c rest s ∧ c.u 0 1 = i.val ∧
      semOwner (taken c rest s) i = none) ∧
    (∃ (s : State) (c : Cmd) (rest : List Cmd) (i : Fin 64) (o : Owner), semOwner (taken c rest s) i = some o ∧
      Ready Instr.semAcquire c rest s ∧ c.u 0 1 = i.val) ∧
    (∃ (s : State) (c : Cmd) (rest : List Cmd) (i : Fin 64), Ready Instr.semRelease c rest s ∧ c.u 0 1 = i.val ∧
      semOwner (taken c rest s) i = some c.source.owner ∧ pinned (taken c rest s) i = false) ∧
    (∃ (s : State) (c : Cmd) (rest : List Cmd) (i : Fin 64), Ready Instr.semRelease c rest s ∧ c.u 0 1 = i.val ∧
      semOwner (taken c rest s) i ≠ some c.source.owner) :=
  ⟨⟨atHost (fun h => { h with owner := vset h.owner 5 none }) (ask 0x105 (num [(1, 5)]) up), _, [], 5,
    ready_of_now [] rfl (by decide +kernel), by decide +kernel⟩,
   ⟨ask 0x105 (num [(1, 5)]) up, _, [], 5, _, rfl, ready_of_now [] rfl (by decide +kernel), by decide +kernel⟩,
   ⟨ask 0x106 (num [(1, 63)]) up, _, [], 63, ready_of_now [] rfl (by decide +kernel), by decide +kernel⟩,
   ⟨atHost (fun h => { h with owner := vset h.owner 0 (some .portB) }) (ask 0x106 (num [(1, 0)]) up), _, [], 0,
     ready_of_now [] rfl (by decide +kernel), by decide +kernel⟩⟩

theorem witness_ConsumedRegister :
    (∃ (s : State) (p : PortId) (r : Fin 16), reachable p s = true ∧ (vget s.records.rings r).isUp = true ∧
      (vget s.records.rings r).port = p) ∧
    (∃ (s : State) (p : PortId) (r : Fin 16), reachable p s = true ∧ (vget s.records.rings r).isUp = true ∧
      (vget s.records.rings r).port ≠ p) ∧
    (∃ (s : State) (p : PortId) (r : Fin 16), reachable p s = true ∧ (vget s.records.rings r).isUp = false) :=
  ⟨⟨up.modRecRing 15 fun g => { g with isUp := true, port := 0 }, 0, 15, by decide +kernel⟩,
   ⟨up.modRecRing 15 fun g => { g with isUp := true, port := 0 }, 1, 15, by decide +kernel⟩,
   ⟨up.modRecRing 15 fun g => { g with isUp := true, port := 0 }, 0, 0, by decide +kernel⟩⟩

theorem witness_EventRingRegisters :
    (∃ (s : State) (p : PortId) (v : U32), reachable p s = true ∧ BitVec.toNat (v - (s.port p).evTail) ≤ BitVec.toNat ((s.port p).evHead
      - (s.port p).evTail)) ∧
    (∃ (s : State) (p : PortId) (v : U32), reachable p s = true ∧ BitVec.toNat ((s.port p).evHead - (s.port p).evTail) < BitVec.toNat (v
      - (s.port p).evTail)) :=
  ⟨⟨atPort (fun h => { h with evHead := 5, evLost := 3 }) up, 0, 5#32, by decide +kernel⟩,
   ⟨atPort (fun h => { h with evHead := 5, evLost := 3 }) up, 0, 0x10#32, by decide +kernel⟩⟩

theorem witness_EventHoldoff :
    (∃ (s : State) (p : PortId), (s.port p).v0Waiting = true ∧ (∀ (t0 : Nat), (s.port p).lastV0 = some t0 →
      t0 + BitVec.toNat (s.port p).irqHoldoff * Config.usUnits ≤ now s) ∧ (s.port p).linkUp = true ∧ (s.port p).msixEnable = true) ∧
    (∃ (s : State) (p : PortId), (s.port p).v0Waiting = false) ∧
    (∃ (s : State) (p : PortId) (t0 : Nat), (s.port p).lastV0 = some t0 ∧
      now s < t0 + BitVec.toNat (s.port p).irqHoldoff * Config.usUnits) :=
  ⟨⟨atPort (fun h => { h with v0Waiting := true, lastV0 := some 0, irqHoldoff := 10000000 }) up, 0, by decide +kernel⟩,
   ⟨up, 0, by decide +kernel⟩,
   ⟨atPort (fun h => { h with v0Waiting := true, lastV0 := some (10 * Config.secUnits), irqHoldoff := 100 }) up, 0, _, rfl,
     by decide +kernel⟩⟩

theorem witness_MsixUnmaskSends :
    ∃ (s : State) (p : PortId), reachable p s = true :=
  ⟨up, 0, by decide +kernel⟩

theorem witness_HostPortLinkAndReset :
    (∃ (s : State), portsAllowed s = true) ∧
    (∃ (s : State), portsAllowed s = false) ∧
    (∃ (s : State) (p : PortId), reachable p s = true) :=
  ⟨⟨atPort (fun _ => HostPort.reset) up, by decide +kernel⟩,
   ⟨atPort (fun _ => HostPort.reset) (atDev (fun d => { d with state := .suspended }) up), by decide +kernel⟩,
   ⟨atPort (fun _ => HostPort.reset) up, 1, by decide +kernel⟩⟩

theorem witness_MailboxChecksFirst :
    (∃ (s : State) (edid : List Byte) (e : Instr × CmdSpec), e ∈ mailboxRows edid ∧ s.host.serial = []) ∧
    (∃ (s : State) (edid : List Byte) (e : Instr × CmdSpec) (c : Cmd) (rest : List Cmd), e ∈ mailboxRows edid ∧
      s.host.serial = c :: rest ∧ (BitVec.toNat c.code ≠ e.snd.code ∨ firmware s = false)) ∧
    (∃ (s : State) (edid : List Byte) (e : Instr × CmdSpec) (c : Cmd) (rest : List Cmd) (d : Option (Fin 16)) (st : Status) (x : Nat),
      e ∈ mailboxRows edid ∧ precheck e.snd c (taken c rest s) = some (d, st, x) ∧ Turn e.snd c rest s) :=
  ⟨⟨up, [], _, List.mem_of_getElem? (i := 0) rfl, by decide +kernel⟩,
   ⟨ask 0x102 (num [(1, 0)]) up, [], _, _, [], List.mem_of_getElem? (i := 0) rfl, rfl, by decide +kernel⟩,
   ⟨ask 0x101 (num [(1, 0)]) up, [], _, _, [], _, _, _, List.mem_of_getElem? (i := 0) rfl, rfl, ⟨rfl, by decide +kernel,
     by decide +kernel⟩⟩⟩

theorem witness_CheckOrder :
    (∃ (c : Cmd), (480 < BitVec.toNat c.length ∨ 1 < BitVec.toNat c.flags ∨ foreignHost c = true)) ∧
    (∃ (s : State) (spec : CmdSpec) (c : Cmd), BitVec.toNat c.length ≤ 480 ∧ BitVec.toNat c.flags ≤ 1 ∧ foreignHost c = false ∧
      (s.dev.state = DevState.boot ∨ s.dev.state = DevState.fault ∨ s.dev.bootStep ≠ 0) ∧ spec.boot c = false) ∧
    (∃ (s : State) (spec : CmdSpec) (c : Cmd), BitVec.toNat c.length ≤ 480 ∧ BitVec.toNat c.flags ≤ 1 ∧ foreignHost c = false ∧
      (spec.boot c = true ∨ ¬(s.dev.state = DevState.boot ∨ s.dev.state = DevState.fault ∨ s.dev.bootStep ≠ 0)) ∧
      BitVec.toNat c.length ≠ spec.length c) ∧
    (∃ (s : State) (spec : CmdSpec) (c : Cmd) (o : Nat), reservedBad c 0 (spec.fields c) = some o ∧ BitVec.toNat c.length ≤ 480 ∧
      BitVec.toNat c.flags ≤ 1 ∧ foreignHost c = false ∧ (spec.boot c = true ∨ ¬(s.dev.state = DevState.boot ∨ s.dev.state =
      DevState.fault ∨ s.dev.bootStep ≠ 0)) ∧ BitVec.toNat c.length = spec.length c) ∧
    (∃ (s : State) (spec : CmdSpec) (c : Cmd) (d : Fin 16), spec.domain c = some d ∧ BitVec.toNat c.length ≤ 480 ∧
      BitVec.toNat c.flags ≤ 1 ∧ foreignHost c = false ∧ (spec.boot c = true ∨ ¬(s.dev.state = DevState.boot ∨ s.dev.state =
      DevState.fault ∨ s.dev.bootStep ≠ 0)) ∧ BitVec.toNat c.length = spec.length c ∧ reservedBad c 0 (spec.fields c) = none ∧
      semOwner s (domainSem d) ≠ some c.source.owner) ∧
    (∃ (s : State) (spec : CmdSpec) (c : Cmd) (d : Fin 16), spec.domain c = some d ∧ semOwner s (domainSem d) = some c.source.owner ∧
      BitVec.toNat c.length ≤ 480 ∧ BitVec.toNat c.flags ≤ 1 ∧ foreignHost c = false ∧
      (spec.boot c = true ∨ ¬(s.dev.state = DevState.boot ∨ s.dev.state = DevState.fault ∨ s.dev.bootStep ≠ 0)) ∧
      BitVec.toNat c.length = spec.length c ∧ reservedBad c 0 (spec.fields c) = none) ∧
    (∃ (s : State) (spec : CmdSpec) (c : Cmd), BitVec.toNat c.length ≤ 480 ∧ BitVec.toNat c.flags ≤ 1 ∧ foreignHost c = false ∧
      (spec.boot c = true ∨ ¬(s.dev.state = DevState.boot ∨ s.dev.state = DevState.fault ∨ s.dev.bootStep ≠ 0)) ∧
      BitVec.toNat c.length = spec.length c ∧ reservedBad c 0 (spec.fields c) = none ∧ spec.domain c = none) :=
  ⟨⟨{ req 0x102 [] with flags := 2 }, by decide +kernel⟩,
   ⟨atDev (fun d => { d with state := .boot }) (ask 0x102 (num [(1, 0)]) up), fixedSpec 0x0102 (some 15) [whole 1], req 0x102 (num [(1,
     0)]), by decide +kernel⟩,
   ⟨ask 0x102 (num [(2, 0)]) up, fixedSpec 0x0102 (some 15) [whole 1], req 0x102 (num [(2, 0)]), by decide +kernel⟩,
   ⟨ask 0x0B04 (num [(1, 1), (1, 2)]) up, fixedSpec 0xB04 (some 12) [whole 1, (1, 1)], req 0x0B04 (num [(1, 1), (1, 2)]), 1,
     by decide +kernel⟩,
   ⟨atHost (fun h => { h with owner := Vector.replicate 64 (some .portB) }) (ask 0x102 (num [(1, 0)]) up),
     fixedSpec 0x0102 (some 15) [whole 1], req 0x102 (num [(1, 0)]), 15, by decide +kernel⟩,
   ⟨ask 0x102 (num [(1, 0)]) up, fixedSpec 0x0102 (some 15) [whole 1], req 0x102 (num [(1, 0)]), 15, by decide +kernel⟩,
   ⟨ask 0x0303 (num [(8, 1), (1, 0), (3, 0), (4, 0)]) up, statusSpec 0x0303 2, req 0x0303 (num [(8, 1), (1, 0), (3, 0), (4, 0)]),
     by decide +kernel⟩⟩

theorem witness_UnknownCodesComplete :
    ∃ (s : State) (c : Cmd) (rest : List Cmd), s.host.serial = c :: rest ∧ commandCodes.contains (BitVec.toNat c.code) = false ∧
      firmware s = true :=
  ⟨ask 0x1FFF [] up, _, [], rfl, by decide +kernel⟩

theorem witness_BootCommands :
    (∃ (s : State) (edid : List Byte) (e : Instr × CmdSpec) (c : Cmd) (rest : List Cmd), e ∈ mailboxRows edid ∧ Turn e.snd c rest s ∧
      s.dev.state = DevState.boot ∧ BitVec.toNat c.length ≤ 480 ∧ BitVec.toNat c.flags ≤ 1 ∧ foreignHost c = false ∧
      (e.fst = Instr.devInfo ∨ e.fst = Instr.paramGet ∨ e.fst = Instr.semAcquire ∨ e.fst = Instr.semRelease ∨ e.fst = Instr.planQuery ∨
      (e.fst = Instr.timeStatus ∨ e.fst = Instr.nearmemStatus) ∧ bit 0 (c.u 0 1) = false ∨ e.fst = Instr.diagCounters ∧
      bit 0 (c.u 1 1) = false)) ∧
    (∃ (s : State) (edid : List Byte) (e : Instr × CmdSpec) (c : Cmd) (rest : List Cmd), e ∈ mailboxRows edid ∧ Turn e.snd c rest s ∧
      s.dev.state = DevState.boot ∧ BitVec.toNat c.length ≤ 480 ∧ BitVec.toNat c.flags ≤ 1 ∧ foreignHost c = false ∧
      (¬(e.fst = Instr.devInfo ∨ e.fst = Instr.paramGet ∨ e.fst = Instr.semAcquire ∨ e.fst = Instr.semRelease ∨ e.fst = Instr.planQuery ∨
      (e.fst = Instr.timeStatus ∨ e.fst = Instr.nearmemStatus) ∧ bit 0 (c.u 0 1) = false ∨ e.fst = Instr.diagCounters ∧
      bit 0 (c.u 1 1) = false))) ∧
    (∃ (s : State) (p : PortId) (i : Fin 16) (v : U32), reachable p s = true ∧ firmware s = false ∧ BitVec.toNat v = i.val ∧
      (slotOf p i s).state = SlotState.free) :=
  ⟨⟨atDev (fun d => { d with state := .boot }) (ask 0x101 [] up), [], _, _, [], List.mem_of_getElem? (i := 0) rfl, ⟨rfl,
    by decide +kernel, by decide +kernel⟩, by decide +kernel⟩,
   ⟨atDev (fun d => { d with state := .boot }) (ask 0xA06 (num [(1, 1), (3, 0), (4, 0)]) up), [], _, _, [],
     List.mem_of_getElem? (i := 45) rfl, ⟨rfl, by decide +kernel, by decide +kernel⟩, by decide +kernel⟩,
   ⟨atDev (fun d => { d with fwRunning := false, state := .boot }) up, 0, 0, 0#32, by decide +kernel⟩⟩

theorem witness_ResponseFillsTheSlot :
    (∃ (s : State) (c : Cmd) (r : Reply) (p : PortId) (i : Fin 16) (x : Nat), c.source = Source.slot p i ∧ (slotOf p i s).bytes.wf ∧
      r.payload.length ≤ 480 ∧ r.detail < 65536 ∧ 32 + r.payload.length ≤ x) ∧
    (∃ (s : State) (c : Cmd) (r : Reply) (p : PortId) (i : Fin 16) (j : Fin 16), c.source = Source.slot p i ∧ (slotOf p i s).bytes.wf ∧
      r.payload.length ≤ 480 ∧ r.detail < 65536 ∧ j ≠ i) :=
  ⟨⟨ask 0x101 [] up, req 0x101 [], { status := Status.ok, detail := 0, payload := [1#8, 2#8, 3#8] }, 0, 3, 65536, by decide +kernel⟩,
   ⟨ask 0x101 [] up, req 0x101 [], { status := Status.ok, detail := 0, payload := [1#8, 2#8, 3#8] }, 0, 3, 0, by decide +kernel⟩⟩

theorem witness_ResponseInterrupt :
    (∃ (s : State) (c : Cmd) (p : PortId) (i : Fin 16), c.source = Source.slot p i ∧ (s.port p).linkUp = true ∧
      (s.port p).msixEnable = true ∧ (s.port p).funcMask = false ∧ (vget (s.port p).msix 1).ctrl = 0 ∧ BitVec.toNat c.flags = 1) ∧
    (∃ (s : State) (c : Cmd) (p : PortId) (i : Fin 16), c.source = Source.slot p i ∧ (s.port p).linkUp = true ∧
      (s.port p).msixEnable = true ∧ (s.port p).funcMask = false ∧ (vget (s.port p).msix 1).ctrl = 0 ∧ BitVec.toNat c.flags = 0) :=
  ⟨⟨atHost (fun h => { h with serial := [{ req 0x101 [] with flags := 1 }] }) up, { req 0x101 [] with flags := 1 }, 0, 3,
    by decide +kernel⟩,
   ⟨ask 0x101 [] up, req 0x101 [], 0, 3, by decide +kernel⟩⟩

theorem witness_InformationCommands :
    (∃ (s : State) (c : Cmd) (rest : List Cmd), Ready Instr.devInfo c rest s) ∧
    (∃ (s : State) (c : Cmd) (rest : List Cmd), Ready Instr.planQuery c rest s) :=
  ⟨⟨ask 0x101 [] up, _, [], ready_of_now [] rfl (by decide +kernel)⟩,
   ⟨ask 0x0204 [] up, _, [], ready_of_now [] rfl (by decide +kernel)⟩⟩

theorem witness_DiagnosticCounters :
    (∃ (s : State) (c : Cmd) (rest : List Cmd), Ready Instr.diagCounters c rest s ∧ (c.u 0 1 < 1 ∨ 8 < c.u 0 1)) ∧
    (∃ (s : State) (c : Cmd) (rest : List Cmd), Ready Instr.diagCounters c rest s ∧ 1 ≤ c.u 0 1 ∧ c.u 0 1 ≤ 8 ∧ c.u 0 1 = 6 ∧ c.u 1 1 = 1) ∧
    (∃ (s : State) (c : Cmd) (rest : List Cmd), Ready Instr.diagCounters c rest s ∧ 1 ≤ c.u 0 1 ∧ c.u 0 1 ≤ 8 ∧
      (c.u 0 1 ≠ 6 ∨ c.u 1 1 = 0) ∧ diagValue (taken c rest s) (c.u 0 1) (c.u 2 2) = none) ∧
    (∃ (s : State) (c : Cmd) (rest : List Cmd), Ready Instr.diagCounters c rest s ∧ 1 ≤ c.u 0 1 ∧ c.u 0 1 ≤ 8 ∧
      (c.u 0 1 ≠ 6 ∨ c.u 1 1 = 0) ∧ (diagValue (taken c rest s) (c.u 0 1) (c.u 2 2)).isSome = true ∧ (c.u 4 2 < 1 ∨ 120 < c.u 4 2 ∨ ∃ i,
      i < c.u 4 2 ∧ diagValue (taken c rest s) (c.u 0 1) (c.u 2 2 + i) = none)) ∧
    (∃ (s : State) (c : Cmd) (rest : List Cmd), Ready Instr.diagCounters c rest s ∧ 1 ≤ c.u 0 1 ∧ c.u 0 1 ≤ 8 ∧
      (c.u 0 1 ≠ 6 ∨ c.u 1 1 = 0) ∧ (diagValue (taken c rest s) (c.u 0 1) (c.u 2 2)).isSome = true ∧ 1 ≤ c.u 4 2 ∧ c.u 4 2 ≤ 120 ∧
      (∀ (i : Nat), i < c.u 4 2 → (diagValue (taken c rest s) (c.u 0 1) (c.u 2 2 + i)).isSome = true)) :=
  ⟨⟨ask 0x1001 (num [(1, 9), (1, 0), (2, 0), (2, 1)]) up, _, [], ready_of_now [] rfl (by decide +kernel), by decide +kernel⟩,
   ⟨ask 0x1001 (num [(1, 6), (1, 1), (2, 0), (2, 1)]) up, _, [], ready_of_now [] rfl (by decide +kernel), by decide +kernel⟩,
   ⟨ask 0x1001 (num [(1, 2), (1, 0), (2, 25), (2, 1)]) up, _, [], ready_of_now [] rfl (by decide +kernel), by decide +kernel⟩,
   ⟨ask 0x1001 (num [(1, 2), (1, 1), (2, 24), (2, 0)]) up, _, [], ready_of_now [] rfl (by decide +kernel), by decide +kernel⟩,
   ⟨ask 0x1001 (num [(1, 8), (1, 1), (2, 0), (2, 1)]) up, _, [], ready_of_now [] rfl (by decide +kernel), by decide +kernel⟩⟩

theorem witness_DeviceReset :
    (∃ (s : State) (c : Cmd) (rest : List Cmd), Ready Instr.devReset c rest s ∧ 16 ≤ c.u 0 1) ∧
    (∃ (s : State) (c : Cmd) (rest : List Cmd) (d : Fin 16), Ready Instr.devReset c rest s ∧ c.u 0 1 = d.val ∧ ∃ id p,
      paramInfo id = some p ∧ p.domain = d ∧ unitRuns (taken c rest s) id = true) ∧
    (∃ (s : State) (c : Cmd) (rest : List Cmd) (d : Fin 16), c.u 0 1 = d.val ∧ d = 0 ∧ Ready Instr.devReset c rest s ∧
      (taken c rest s).plans.flip.isSome = true) ∧
    (∃ (s : State) (c : Cmd) (rest : List Cmd) (d : Fin 16), Ready Instr.devReset c rest s ∧ c.u 0 1 = d.val ∧
      (∀ (id : Nat) (p : ParamInfo), paramInfo id = some p → p.domain = d → unitRuns (taken c rest s) id = false) ∧ (d = 0 →
      (taken c rest s).plans.flip = none)) :=
  ⟨⟨ask 0x102 (num [(1, 16)]) up, _, [], ready_of_now [] rfl (by decide +kernel), by decide +kernel⟩,
   ⟨ask 0x102 (num [(1, 11)]) (under default up), _, [], 11, ready_of_now [] rfl (by decide +kernel), by decide +kernel, 0x0700, _, rfl,
     by decide +kernel, by decide +kernel⟩,
   ⟨ask 0x102 (num [(1, 0)]) (atPlans (fun p => { p with flip := some (20000, 0) }) (banked .pending up)), _, [], _, rfl, rfl,
     ready_of_now [] rfl (by decide +kernel), by decide +kernel⟩,
   ⟨ask 0x102 (num [(1, 13)]) up, _, [], 13, ready_of_now [] rfl (by decide +kernel), by decide +kernel,
     fun id p hp hd => no_unit_runs_for_13 _ hp hd, by decide +kernel⟩⟩

theorem witness_DeviceResetClears :
    ∃ (s : State) (c : Cmd) (rest : List Cmd) (d : Fin 16), Ready Instr.devReset c rest s ∧ c.u 0 1 = d.val ∧
      resetRefused (taken c rest s) d = none :=
  ⟨ask 0x102 (num [(1, 0)]) (banked .loaded up), _, [], 0, ready_of_now [] rfl (by decide +kernel), by decide +kernel⟩

theorem witness_ParameterReads :
    (∃ (s : State) (c : Cmd) (rest : List Cmd), Ready Instr.paramGet c rest s ∧
      (c.u 0 1 = 0 ∨ (if c.u 1 1 = 1 then 10 else 30) < c.u 0 1)) ∧
    (∃ (s : State) (c : Cmd) (rest : List Cmd) (i : Nat), Ready Instr.paramGet c rest s ∧ (c.u 0 1 ≤ if c.u 1 1 = 1 then 10 else 30) ∧
      i < c.u 0 1 ∧ paramInfo (c.u (2 + 2 * i) 2) = none ∧ (∀ (j : Nat), j < i → (paramInfo (c.u (2 + 2 * j) 2)).isSome = true)) ∧
    (∃ (s : State) (c : Cmd) (rest : List Cmd), Ready Instr.paramGet c rest s ∧ 1 ≤ c.u 0 1 ∧
      (c.u 0 1 ≤ if c.u 1 1 = 1 then 10 else 30) ∧ (∀ (i : Nat), i < c.u 0 1 → (paramInfo (c.u (2 + 2 * i) 2)).isSome = true)) :=
  ⟨⟨ask 0x103 (num [(1, 11), (1, 1), (22, 0x0880)]) up, _, [], ready_of_now [] rfl (by decide +kernel), by decide +kernel⟩,
   ⟨ask 0x103 (num [(1, 2), (1, 0), (2, 0x0880), (2, 1)]) up, _, [], 1, ready_of_now [] rfl (by decide +kernel), by decide +kernel⟩,
   ⟨ask 0x103 (num [(1, 1), (1, 1), (2, 0x0880)]) up, _, [], ready_of_now [] rfl (by decide +kernel), by decide +kernel⟩⟩

theorem witness_ParameterCommands :
    (∃ (s : State) (c : Cmd) (rest : List Cmd), Ready Instr.paramSet c rest s ∧ c.u 0 1 = 0) ∧
    (∃ (s : State) (c : Cmd) (rest : List Cmd) (i : Nat), Ready Instr.paramSet c rest s ∧ i < c.u 0 1 ∧
      paramInfo (c.u (8 + 16 * i) 2) = none ∧ (∀ (j : Nat), j < i → (paramInfo (c.u (8 + 16 * j) 2)).isSome = true)) ∧
    (∃ (s : State) (c : Cmd) (rest : List Cmd) (d : Fin 16), Option.map (fun x => x.domain) (paramInfo (c.u (8 + 16 * 0) 2)) = some d ∧
      Ready Instr.paramSet c rest s ∧ 1 ≤ c.u 0 1 ∧ (∀ (i : Nat), i < c.u 0 1 → (paramInfo (c.u (8 + 16 * i) 2)).isSome = true) ∧ (∃ i,
      i < c.u 0 1 ∧ Option.map (fun x => x.domain) (paramInfo (c.u (8 + 16 * i) 2)) ≠ some d)) ∧
    (∃ (s : State) (c : Cmd) (rest : List Cmd) (d : Fin 16), Option.map (fun x => x.domain) (paramInfo (c.u (8 + 16 * 0) 2)) = some d ∧
      Ready Instr.paramSet c rest s ∧ 1 ≤ c.u 0 1 ∧ (∀ (i : Nat), i < c.u 0 1 → (paramInfo (c.u (8 + 16 * i) 2)).isSome = true) ∧
      (∀ (i : Nat), i < c.u 0 1 → Option.map (fun x => x.domain) (paramInfo (c.u (8 + 16 * i) 2)) = some d) ∧
      semOwner (taken c rest s) (domainSem d) ≠ some c.source.owner) ∧
    (∃ (s : State) (c : Cmd) (rest : List Cmd) (d : Fin 16) (i : Nat) (p : ParamInfo),
      Option.map (fun x => x.domain) (paramInfo (c.u (8 + 16 * 0) 2)) = some d ∧
      semOwner (taken c rest s) (domainSem d) = some c.source.owner ∧ paramInfo (c.u (8 + 16 * i) 2) = some p ∧
      Ready Instr.paramSet c rest s ∧ 1 ≤ c.u 0 1 ∧ (∀ (i : Nat), i < c.u 0 1 → (paramInfo (c.u (8 + 16 * i) 2)).isSome = true) ∧
      (∀ (i : Nat), i < c.u 0 1 → Option.map (fun x => x.domain) (paramInfo (c.u (8 + 16 * i) 2)) = some d) ∧ i < c.u 0 1 ∧ (∀ (j : Nat),
      j < i → ∃ p, paramInfo (c.u (8 + 16 * j) 2) = some p ∧ p.accepts (p.value (c.u (12 + 16 * j) 12)) = true ∧ (∀ (j_1 : Nat),
      j_1 < j → c.u (8 + 16 * j_1) 2 ≠ c.u (8 + 16 * j) 2) ∧ (p.effect = Effect.stopped →
      unitRuns (taken c rest s) (c.u (8 + 16 * j) 2) = false)) ∧ (p.accepts (p.value (c.u (12 + 16 * i) 12)) = false ∨ ∃ j, j < i ∧
      c.u (8 + 16 * j) 2 = c.u (8 + 16 * i) 2)) ∧
    (∃ (s : State) (c : Cmd) (rest : List Cmd) (d : Fin 16) (i : Nat) (p : ParamInfo),
      Option.map (fun x => x.domain) (paramInfo (c.u (8 + 16 * 0) 2)) = some d ∧
      semOwner (taken c rest s) (domainSem d) = some c.source.owner ∧ paramInfo (c.u (8 + 16 * i) 2) = some p ∧
      p.accepts (p.value (c.u (12 + 16 * i) 12)) = true ∧ p.effect = Effect.stopped ∧ Ready Instr.paramSet c rest s ∧ 1 ≤ c.u 0 1 ∧
      (∀ (i : Nat), i < c.u 0 1 → (paramInfo (c.u (8 + 16 * i) 2)).isSome = true) ∧ (∀ (i : Nat), i < c.u 0 1 →
      Option.map (fun x => x.domain) (paramInfo (c.u (8 + 16 * i) 2)) = some d) ∧ i < c.u 0 1 ∧ (∀ (j : Nat), j < i → ∃ p,
      paramInfo (c.u (8 + 16 * j) 2) = some p ∧ p.accepts (p.value (c.u (12 + 16 * j) 12)) = true ∧ (∀ (j_1 : Nat), j_1 < j →
      c.u (8 + 16 * j_1) 2 ≠ c.u (8 + 16 * j) 2) ∧ (p.effect = Effect.stopped →
      unitRuns (taken c rest s) (c.u (8 + 16 * j) 2) = false)) ∧ (∀ (j : Nat), j < i → c.u (8 + 16 * j) 2 ≠ c.u (8 + 16 * i) 2) ∧
      unitRuns (taken c rest s) (c.u (8 + 16 * i) 2) = true) ∧
    (∃ (s : State) (c : Cmd) (rest : List Cmd) (d : Fin 16), Option.map (fun x => x.domain) (paramInfo (c.u (8 + 16 * 0) 2)) = some d ∧
      semOwner (taken c rest s) (domainSem d) = some c.source.owner ∧ Ready Instr.paramSet c rest s ∧ 1 ≤ c.u 0 1 ∧ (∀ (i : Nat),
      i < c.u 0 1 → (paramInfo (c.u (8 + 16 * i) 2)).isSome = true) ∧ (∀ (i : Nat), i < c.u 0 1 →
      Option.map (fun x => x.domain) (paramInfo (c.u (8 + 16 * i) 2)) = some d) ∧ (∀ (i : Nat), i < c.u 0 1 → ∃ p,
      paramInfo (c.u (8 + 16 * i) 2) = some p ∧ p.accepts (p.value (c.u (12 + 16 * i) 12)) = true ∧ (∀ (j : Nat), j < i →
      c.u (8 + 16 * j) 2 ≠ c.u (8 + 16 * i) 2) ∧ (p.effect = Effect.stopped → unitRuns (taken c rest s) (c.u (8 + 16 * i) 2) = false))) :=
  ⟨⟨ask 0x104 (num [(1, 0), (7, 0)]) up, _, [], ready_of_now [] rfl (by decide +kernel), by decide +kernel⟩,
   ⟨ask 0x104 (num [(1, 2), (7, 0), (2, 0x0880), (2, 0), (12, 10), (2, 1), (2, 0), (12, 10)]) up, _, [], 1,
     ready_of_now [] rfl (by decide +kernel), by decide +kernel⟩,
   ⟨ask 0x104 (num [(1, 2), (7, 0), (2, 0x0880), (2, 0), (12, 10), (2, 0x0700), (2, 0), (12, 10)]) up, _, [], _, rfl,
     ready_of_now [] rfl (by decide +kernel), by decide +kernel⟩,
   ⟨atHost (fun h => { h with owner := vset h.owner 13 none }) (ask 0x104 (num [(1, 1), (7, 0), (2, 0x0880), (2, 0), (12, 100000)]) up),
     _, [], _, rfl, ready_of_now [] rfl (by decide +kernel), by decide +kernel⟩,
   ⟨ask 0x104 (num [(1, 1), (7, 0), (2, 0x0880), (2, 0), (12, 100001)]) up, _, [], _, 0, _, rfl, rfl, rfl,
     ready_of_now [] rfl (by decide +kernel), by decide +kernel⟩,
   ⟨ask 0x104 (num [(1, 1), (7, 0), (2, 0x0700), (2, 0), (12, 100)]) (under default up), _, [], _, 0, _, rfl, rfl, rfl, rfl, rfl,
     ready_of_now [] rfl (by decide +kernel), by decide +kernel⟩,
   ⟨ask 0x104 (num [(1, 1), (7, 0), (2, 0x0880), (2, 0), (12, 10)]) up, _, [], _, rfl, rfl, ready_of_now [] rfl (by decide +kernel),
     by decide +kernel⟩⟩

theorem witness_PlanLoadStarts :
    (∃ (s : State) (c : Cmd) (rest : List Cmd), Ready Instr.planLoad c rest s ∧ c.u 8 8 % 64 ≠ 0) ∧
    (∃ (s : State) (c : Cmd) (rest : List Cmd), Ready Instr.planLoad c rest s ∧ c.u 8 8 % 64 = 0 ∧ 2 ≤ c.u 0 1) ∧
    (∃ (s : State) (c : Cmd) (rest : List Cmd) (b : Fin 2), Ready Instr.planLoad c rest s ∧ c.u 8 8 % 64 = 0 ∧ c.u 0 1 = b.val ∧
      (((taken c rest s).bank b).state = BankState.active ∨ ((taken c rest s).bank b).state = BankState.pending)) ∧
    (∃ (s : State) (c : Cmd) (rest : List Cmd) (b : Fin 2), Ready Instr.planLoad c rest s ∧ c.u 8 8 % 64 = 0 ∧ c.u 0 1 = b.val ∧
      (((taken c rest s).bank b).state = BankState.draining ∨ ((taken c rest s).bank b).state ≠ BankState.active ∧
      ((taken c rest s).bank b).state ≠ BankState.pending ∧ ((taken c rest s).bank b).loading = true)) ∧
    (∃ (s : State) (c : Cmd) (rest : List Cmd) (b : Fin 2), Ready Instr.planLoad c rest s ∧ c.u 8 8 % 64 = 0 ∧ c.u 0 1 = b.val ∧
      (((taken c rest s).bank b).state = BankState.empty ∨ ((taken c rest s).bank b).state = BankState.loaded ∨ ((taken c rest s).bank
      b).state = BankState.verified) ∧ ((taken c rest s).bank b).loading = false ∧
      (c.u 16 4 < 8192 ∨ 2 ^ 28 < c.u 16 4 ∨ c.u 16 4 % 4096 ≠ 0)) ∧
    (∃ (s : State) (c : Cmd) (rest : List Cmd) (b : Fin 2), Ready Instr.planLoad c rest s ∧ c.u 8 8 % 64 = 0 ∧ c.u 0 1 = b.val ∧
      (((taken c rest s).bank b).state = BankState.empty ∨ ((taken c rest s).bank b).state = BankState.loaded ∨ ((taken c rest s).bank
      b).state = BankState.verified) ∧ ((taken c rest s).bank b).loading = false ∧ 8192 ≤ c.u 16 4 ∧ c.u 16 4 ≤ 2 ^ 28 ∧
      c.u 16 4 % 4096 = 0) :=
  ⟨⟨ask 0x201 (num [(1, 0), (7, 0), (8, 32), (4, 8192)]) up, _, [], ready_of_now [] rfl (by decide +kernel), by decide +kernel⟩,
   ⟨ask 0x201 (num [(1, 2), (7, 0), (8, 64), (4, 8192)]) up, _, [], ready_of_now [] rfl (by decide +kernel), by decide +kernel⟩,
   ⟨ask 0x201 (num [(1, 0), (7, 0), (8, 64), (4, 8192)]) (banked .active up), _, [], 0, ready_of_now [] rfl (by decide +kernel),
     by decide +kernel⟩,
   ⟨ask 0x201 (num [(1, 0), (7, 0), (8, 64), (4, 8192)]) (banked .draining up), _, [], 0, ready_of_now [] rfl (by decide +kernel),
     by decide +kernel⟩,
   ⟨ask 0x201 (num [(1, 0), (7, 0), (8, 64), (4, 4096)]) up, _, [], 0, ready_of_now [] rfl (by decide +kernel), by decide +kernel⟩,
   ⟨ask 0x201 (num [(1, 0), (7, 0), (8, 64), (4, 8192)]) up, _, [], 0, ready_of_now [] rfl (by decide +kernel), by decide +kernel⟩⟩

theorem witness_PlanLoadEnds :
    (∃ (s : State), planWait s = none) ∧
    (∃ (s : State) (image : Option (List Byte)) (d : Deferred) (b : Fin 2) (p : PortId) (n : Nat), planWait s = some (d, b, p, n) ∧
      image = none ∧ firmware s = true) ∧
    (∃ (s : State) (image : Option (List Byte)) (d : Deferred) (b : Fin 2) (p : PortId) (n : Nat) (bs : List Byte) (got : List Byte),
      planWait s = some (d, b, p, n) ∧ image = some bs ∧ loadedBytes s d p n bs = some got ∧ firmware s = true) :=
  ⟨⟨up, by decide +kernel⟩,
   ⟨waiting (.planLoad 0 0 64 8192) up, _, _, _, _, _, rfl, rfl, by decide +kernel⟩,
   ⟨waiting (.planLoad 0 0 64 8192) up, some [], _, _, _, _, _, _, rfl, rfl, rfl, by decide +kernel⟩⟩

theorem witness_PlanVerifyDecides :
    (∃ (s : State) (c : Cmd) (rest : List Cmd), Ready Instr.planVerify c rest s ∧ 2 ≤ c.u 0 1) ∧
    (∃ (s : State) (c : Cmd) (rest : List Cmd) (b : Fin 2), Ready Instr.planVerify c rest s ∧ c.u 0 1 = b.val ∧
      ((taken c rest s).bank b).state ≠ BankState.loaded ∧ ((taken c rest s).bank b).state ≠ BankState.verified) ∧
    (∃ (s : State) (c : Cmd) (rest : List Cmd) (b : Fin 2) (f : Fail), firstFail (taken c rest s) b = some f ∧
      Ready Instr.planVerify c rest s ∧ c.u 0 1 = b.val ∧ (((taken c rest s).bank b).state = BankState.loaded ∨ ((taken c rest s).bank
      b).state = BankState.verified)) ∧
    (∃ (s : State) (c : Cmd) (rest : List Cmd) (b : Fin 2), Ready Instr.planVerify c rest s ∧ c.u 0 1 = b.val ∧
      (((taken c rest s).bank b).state = BankState.loaded ∨ ((taken c rest s).bank b).state = BankState.verified) ∧
      firstFail (taken c rest s) b = none ∧ List.find? (overCeiling (parsePlan (taken c rest s) b)) (planResources (taken c rest s)
      (parsePlan (taken c rest s) b) (imageMap (taken c rest s) b (parsePlan (taken c rest s) b))) = none) :=
  ⟨⟨ask 0x202 (num [(1, 2)]) up, _, [], ready_of_now [] rfl (by decide +kernel), by decide +kernel⟩,
   ⟨ask 0x202 (num [(1, 0)]) up, _, [], 0, ready_of_now [] rfl (by decide +kernel), by decide +kernel⟩,
   ⟨ask 0x202 (num [(1, 0)]) (banked .loaded up), _, [], 0, _, rfl, ready_of_now [] rfl (by decide +kernel), by decide +kernel⟩,
   ⟨ask 0x202 (num [(1, 0)]) (withImage up), _, [], 0, ready_of_now [] rfl (by decide +kernel), by decide +kernel⟩⟩

theorem witness_PlanCommitWindows :
    (∃ (s : State) (c : Cmd) (rest : List Cmd), Ready Instr.planCommit c rest s ∧ 2 ≤ c.u 0 1) ∧
    (∃ (s : State) (c : Cmd) (rest : List Cmd) (b : Fin 2), Ready Instr.planCommit c rest s ∧ c.u 0 1 = b.val ∧ c.u 1 1 = 0 ∧
      (¬((taken c rest s).plans.flip = none ∧ ((taken c rest s).bank b).state = BankState.verified ∧
      ¬((taken c rest s).plans.recovering = true ∧ (taken c rest s).basin.recover = some b)))) ∧
    (∃ (s : State) (c : Cmd) (rest : List Cmd) (b : Fin 2) (e : Nat), (taken c rest s).plans.epoch = some e ∧
      Ready Instr.planCommit c rest s ∧ c.u 0 1 = b.val ∧ c.u 1 1 = 0 ∧ ((taken c rest s).plans.flip = none ∧
      ((taken c rest s).bank b).state = BankState.verified ∧ ¬((taken c rest s).plans.recovering = true ∧
      (taken c rest s).basin.recover = some b)) ∧ c.u 8 8 ≤ e) ∧
    (∃ (s : State) (c : Cmd) (rest : List Cmd) (b : Fin 2), Ready Instr.planCommit c rest s ∧ c.u 0 1 = b.val ∧ c.u 1 1 = 0 ∧
      ((taken c rest s).plans.flip = none ∧ ((taken c rest s).bank b).state = BankState.verified ∧
      ¬((taken c rest s).plans.recovering = true ∧ (taken c rest s).basin.recover = some b)) ∧ (∀ (e : Nat),
      (taken c rest s).plans.epoch = some e → e < c.u 8 8) ∧ c.recorded + Config.msUnits ≤ boundaryTime (taken c rest s) (c.u 8 8)) ∧
    (∃ (s : State) (c : Cmd) (rest : List Cmd) (b : Fin 2), Ready Instr.planCommit c rest s ∧ c.u 0 1 = b.val ∧ c.u 1 1 = 0 ∧
      ((taken c rest s).plans.flip = none ∧ ((taken c rest s).bank b).state = BankState.verified ∧
      ¬((taken c rest s).plans.recovering = true ∧ (taken c rest s).basin.recover = some b)) ∧ (∀ (e : Nat),
      (taken c rest s).plans.epoch = some e → e < c.u 8 8) ∧ boundaryTime (taken c rest s) (c.u 8 8) < c.recorded + Config.msUnits) ∧
    (∃ (s : State) (c : Cmd) (rest : List Cmd) (b : Fin 2), Ready Instr.planCommit c rest s ∧ c.u 0 1 = b.val ∧ c.u 1 1 = 1 ∧
      ∀ (x : Nat), (taken c rest s).plans.flip ≠ some (x, b)) ∧
    (∃ (s : State) (c : Cmd) (rest : List Cmd) (b : Fin 2) (x : Nat), (taken c rest s).plans.flip = some (x, b) ∧
      Ready Instr.planCommit c rest s ∧ c.u 0 1 = b.val ∧ c.u 1 1 = 1 ∧ (taken c rest s).plans.locked = true) ∧
    (∃ (s : State) (c : Cmd) (rest : List Cmd) (b : Fin 2) (x : Nat), (taken c rest s).plans.flip = some (x, b) ∧
      Ready Instr.planCommit c rest s ∧ c.u 0 1 = b.val ∧ c.u 1 1 = 1 ∧ (taken c rest s).plans.locked = false) :=
  ⟨⟨ask 0x203 (num [(1, 2), (1, 0), (6, 0), (8, 20000)]) up, _, [], ready_of_now [] rfl (by decide +kernel), by decide +kernel⟩,
   ⟨ask 0x203 (num [(1, 0), (1, 0), (6, 0), (8, 20000)]) (atPlans (fun p => { p with flip := some (20000, 0) }) (banked .pending up)), _,
     [], 0, ready_of_now [] rfl (by decide +kernel), by decide +kernel⟩,
   ⟨ask 0x203 (num [(1, 0), (1, 0), (6, 0), (8, 5)]) (atPlans (fun p => { p with epoch := some 9 }) (banked .verified up)), _, [], 0, _,
     rfl, ready_of_now [] rfl (by decide +kernel), by decide +kernel⟩,
   ⟨ask 0x203 (num [(1, 0), (1, 0), (6, 0), (8, 20000)]) (banked .verified up), _, [], 0, ready_of_now [] rfl (by decide +kernel),
     by decide +kernel⟩,
   ⟨ask 0x203 (num [(1, 0), (1, 0), (6, 0), (8, 10000)]) (banked .verified up), _, [], 0, ready_of_now [] rfl (by decide +kernel),
     by decide +kernel⟩,
   ⟨ask 0x203 (num [(1, 0), (1, 1), (6, 0), (8, 0)]) up, _, [], 0, ready_of_now [] rfl (by decide +kernel), by decide +kernel,
     by decide +kernel, fun x => ne_some_of_isNone (by decide +kernel) (x, 0)⟩,
   ⟨ask 0x203 (num [(1, 0), (1, 1), (6, 0), (8, 0)]) (atPlans (fun p => { p with flip := some (20000, 0), locked := true }) (banked
     .pending up)), _, [], 0, _, rfl, ready_of_now [] rfl (by decide +kernel), by decide +kernel⟩,
   ⟨ask 0x203 (num [(1, 0), (1, 1), (6, 0), (8, 0)]) (atPlans (fun p => { p with flip := some (20000, 0) }) (banked .pending up)), _, [],
     0, _, rfl, ready_of_now [] rfl (by decide +kernel), by decide +kernel⟩⟩

theorem witness_LaneBlockReception :
    (∃ (s : State) (l : Fin 32), laneLive s l = none) ∧
    (∃ (s : State) (l : Fin 32) (i : Fin 16), laneLive s l = some i) :=
  ⟨⟨up, 0, by decide +kernel⟩,
   ⟨onLane .blockLock up, 0, _, rfl⟩⟩

theorem witness_LinkUpSteps :
    (∃ (s : State) (i : Fin 16) (d : Nat), (s.stream i).retryAt = some d ∧ engines s = true ∧ firmware s = true ∧ locked s 6 = true ∧
      (s.stream i).map.run = true ∧ d ≤ now s ∧ (∀ (k : Fin 32), k ∈ (s.stream i).map.group →
      (s.lane k).stream = none ∨ (s.lane k).stream = some i)) ∧
    (∃ (s : State) (i : Fin 16), engines s = true ∧ ((s.stream i).map.run = false ∨ (s.stream i).retryAt = none ∨ ∃ d,
      (s.stream i).retryAt = some d ∧ now s < d)) ∧
    (∃ (s : State) (i : Fin 16) (l : Fin 32) (cause : Nat), engines s = true ∧ (s.stream i).map.run = true ∧
      (s.stream i).retryAt = none ∧ (s.stream i).ready = false ∧ l ∈ bundle s i ∧ causeStep cause = some (s.lane l).state) ∧
    (∃ (s : State) (i : Fin 16) (l : Fin 32) (cause : Nat), engines s = true ∧ (s.stream i).map.run = true ∧
      (s.stream i).retryAt = none ∧ (s.stream i).ready = false ∧ l ∈ bundle s i ∧ causeStep cause ≠ some (s.lane l).state) ∧
    (∃ (s : State) (i : Fin 16), engines s = true ∧ (s.stream i).ready = true) :=
  ⟨⟨atStream (fun t => { t with map := lineE, retryAt := some (10 * Config.secUnits) }) up, 0, _, rfl, by decide +kernel⟩,
   ⟨atStream (fun t => { t with map := lineE, retryAt := some (10 * Config.secUnits) }) up, 1, by decide +kernel⟩,
   ⟨onLane .cdr up, 0, 0, 1, by decide +kernel⟩,
   ⟨onLane .cdr up, 0, 0, 0, by decide +kernel⟩,
   ⟨atStream (fun t => { t with ready := true }) (onLane .ready up), 0, by decide +kernel⟩⟩

theorem witness_EyeSweeps :
    (∃ (s : State) (n : Fin 46) (eyes : Vector (BitVec 32) 19) (l : Fin 32) (k : Fin 19), engines s = true ∧ firmware s = true ∧
      n.val = l.val ∧ (s.lane l).state = LaneState.equalise ∧ (s.lane l).ctleAuto = true ∧ (s.rx l).equalised = false ∧
      (0 < eyeWidth (vget eyes k) ∧ (∀ (j : Fin 19), eyeWidth (vget eyes j) ≤ eyeWidth (vget eyes k)) ∧ ∀ (j : Fin 19), j < k →
      eyeWidth (vget eyes j) < eyeWidth (vget eyes k))) ∧
    (∃ (s : State) (n : Fin 46) (eyes : Vector (BitVec 32) 19) (l : Fin 32) (i : Fin 16), (s.lane l).stream = some i ∧ engines s = true ∧
      firmware s = true ∧ n.val = l.val ∧ (s.lane l).state = LaneState.equalise ∧ (s.lane l).ctleAuto = true ∧
      (s.rx l).equalised = false ∧ (∀ (k : Fin 19), eyeWidth (vget eyes k) = 0)) ∧
    (∃ (s : State) (n : Fin 46) (eyes : Vector (BitVec 32) 19) (f : Fin 12) (k : Fin 19), engines s = true ∧ firmware s = true ∧
      n.val = 32 + f.val ∧ (s.fabLane f).state = LinkState.linking ∧ (s.fabLane f).ctle = 31 ∧ (0 < eyeWidth (vget eyes k) ∧
      (∀ (j : Fin 19), eyeWidth (vget eyes j) ≤ eyeWidth (vget eyes k)) ∧ ∀ (j : Fin 19), j < k →
      eyeWidth (vget eyes j) < eyeWidth (vget eyes k))) ∧
    (∃ (s : State) (n : Fin 46) (eyes : Vector (BitVec 32) 19) (f : Fin 12), engines s = true ∧ firmware s = true ∧ n.val = 32 + f.val ∧
      (s.fabLane f).state = LinkState.linking ∧ (s.fabLane f).ctle = 31 ∧ (∀ (k : Fin 19), eyeWidth (vget eyes k) = 0)) ∧
    (∃ (s : State) (n : Fin 46), engines s = true ∧ firmware s = true ∧ 44 ≤ n.val) ∧
    (∃ (k : BitVec 32) (a b : Nat), a + b ≤ 32 ∧ ∀ (o : Nat), a ≤ o → o < a + b → k.getLsbD o = true) :=
  ⟨⟨(onLane .equalise up).modLane 0 fun x => { x with ctleAuto := true }, 0, #v[0x14#32, 0x14#32, 0x14#32, 0x14#32, 0x14#32, 0x14#32,
    0x14#32, 0x32#32, 0x14#32, 0x14#32, 0x14#32, 0x14#32, 0x14#32, 0x14#32, 0x14#32, 0x14#32, 0x14#32, 0x14#32, 0x14#32], 0, 7,
    by decide +kernel⟩,
   ⟨(onLane .equalise up).modLane 0 fun x => { x with ctleAuto := true }, 0, #v[0#32, 0#32, 0#32, 0#32, 0#32, 0#32, 0#32, 0#32, 0#32,
     0#32, 0#32, 0#32, 0#32, 0#32, 0#32, 0#32, 0#32, 0#32, 0#32], 0, _, rfl, by decide +kernel⟩,
   ⟨atLink (fun l => { l with state := .linking, use := 1, ctle := 31 }) up, 32, #v[0#32, 0#32, 0#32, 0#32, 0#32, 0#32, 0#32, 0#32, 0#32,
     0#32, 0#32, 0#32, 0#32, 0#32, 0#32, 0#32, 0#32, 0#32, 0xff0#32], 0, 18, by decide +kernel⟩,
   ⟨up.modFabLane 11 fun l => { l with state := .linking, use := 1, ctle := 31 }, 43, #v[0#32, 0#32, 0#32, 0#32, 0#32, 0#32, 0#32, 0#32,
     0#32, 0#32, 0#32, 0#32, 0#32, 0#32, 0#32, 0#32, 0#32, 0#32, 0#32], 11, by decide +kernel⟩,
   ⟨(onLane .equalise up).modLane 0 fun x => { x with ctleAuto := true }, 44, by decide +kernel⟩,
   ⟨12, 2, 2, by decide, bits_of_12⟩⟩

theorem witness_DeskewMarkers :
    (∃ (s : State) (l : Fin 32), (laneLive s l = none ∨ (s.rx l).markers = [])) ∧
    (∃ (s : State) (l : Fin 32) (i : Fin 16) (m : MarkerAt) (rest : List MarkerAt), laneLive s l = some i ∧
      (s.rx l).markers = m :: rest ∧ (s.stream i).ready = true ∧ markerGood s (List.filter (fun x => decide (x ≠ l)) (bundle s i)) m =
      true) ∧
    (∃ (s : State) (l : Fin 32) (i : Fin 16) (m : MarkerAt) (rest : List MarkerAt), laneLive s l = some i ∧
      (s.rx l).markers = m :: rest ∧ (s.stream i).ready = true ∧ markerGood s (List.filter (fun x => decide (x ≠ l)) (bundle s i)) m =
      false) ∧
    (∃ (s : State) (l : Fin 32) (i : Fin 16) (m : MarkerAt) (rest : List MarkerAt), laneLive s l = some i ∧
      (s.rx l).markers = m :: rest ∧ (s.stream i).ready = false ∧ markerGood s (List.filter (fun x => decide (x ≠ l)) (bundle s i)) m =
      false ∧ (∀ (k : Fin 32), k ∈ bundle s i → (s.lane k).state = LaneState.deskewed)) ∧
    (∃ (s : State) (l : Fin 32) (i : Fin 16) (m : MarkerAt) (rest : List MarkerAt), laneLive s l = some i ∧
      (s.rx l).markers = m :: rest ∧ (s.stream i).ready = false ∧ (∀ (k : Fin 32), k ∈ bundle s i → (s.lane k).state = LaneState.framed ∧
      ((s.modRx l fun r => { locked := r.locked, window := r.window, scrambler := r.scrambler, sinceRm := r.sinceRm, pos := r.pos, missing := r.missing, crc := r.crc, equalised := r.equalised, framed := r.framed, aligned := r.aligned, superblocks := r.superblocks, marker := r.marker, markers := rest, lastMark := if m.place = true then some m else r.lastMark, mgmt := r.mgmt, ebuf := r.ebuf, partnerId := r.partnerId, resyncLeft := r.resyncLeft, crcErrs := r.crcErrs, syncSince := r.syncSince, status := r.status }).rx
      k).aligned = true ∧ ((s.modRx l fun r =>
      { locked := r.locked, window := r.window, scrambler := r.scrambler, sinceRm := r.sinceRm, pos := r.pos, missing := r.missing, crc := r.crc, equalised := r.equalised, framed := r.framed, aligned := r.aligned, superblocks := r.superblocks, marker := r.marker, markers := rest, lastMark := if m.place = true then some m else r.lastMark, mgmt := r.mgmt, ebuf := r.ebuf, partnerId := r.partnerId, resyncLeft := r.resyncLeft, crcErrs := r.crcErrs, syncSince := r.syncSince, status := r.status }).rx
      k).lastMark.isSome = true) ∧ l ∈ bundle s i ∧ (∀ (k : Fin 32), k ∈ bundle s i →
      Option.map (fun x => x.seq) ((s.modRx l fun r =>
      { locked := r.locked, window := r.window, scrambler := r.scrambler, sinceRm := r.sinceRm, pos := r.pos, missing := r.missing, crc := r.crc, equalised := r.equalised, framed := r.framed, aligned := r.aligned, superblocks := r.superblocks, marker := r.marker, markers := rest, lastMark := if m.place = true then some m else r.lastMark, mgmt := r.mgmt, ebuf := r.ebuf, partnerId := r.partnerId, resyncLeft := r.resyncLeft, crcErrs := r.crcErrs, syncSince := r.syncSince, status := r.status }).rx
      k).lastMark = Option.map (fun x => x.seq) ((s.modRx l fun r =>
      { locked := r.locked, window := r.window, scrambler := r.scrambler, sinceRm := r.sinceRm, pos := r.pos, missing := r.missing, crc := r.crc, equalised := r.equalised, framed := r.framed, aligned := r.aligned, superblocks := r.superblocks, marker := r.marker, markers := rest, lastMark := if m.place = true then some m else r.lastMark, mgmt := r.mgmt, ebuf := r.ebuf, partnerId := r.partnerId, resyncLeft := r.resyncLeft, crcErrs := r.crcErrs, syncSince := r.syncSince, status := r.status }).rx
      l).lastMark)) ∧
    (∃ (s : State) (l : Fin 32) (i : Fin 16) (m : MarkerAt) (rest : List MarkerAt), laneLive s l = some i ∧
      (s.rx l).markers = m :: rest ∧ (s.stream i).ready = false ∧ (∀ (k : Fin 32), k ∈ bundle s i → (s.lane k).state = LaneState.framed ∧
      ((s.modRx l fun r => { locked := r.locked, window := r.window, scrambler := r.scrambler, sinceRm := r.sinceRm, pos := r.pos, missing := r.missing, crc := r.crc, equalised := r.equalised, framed := r.framed, aligned := r.aligned, superblocks := r.superblocks, marker := r.marker, markers := rest, lastMark := if m.place = true then some m else r.lastMark, mgmt := r.mgmt, ebuf := r.ebuf, partnerId := r.partnerId, resyncLeft := r.resyncLeft, crcErrs := r.crcErrs, syncSince := r.syncSince, status := r.status }).rx
      k).aligned = true ∧ ((s.modRx l fun r =>
      { locked := r.locked, window := r.window, scrambler := r.scrambler, sinceRm := r.sinceRm, pos := r.pos, missing := r.missing, crc := r.crc, equalised := r.equalised, framed := r.framed, aligned := r.aligned, superblocks := r.superblocks, marker := r.marker, markers := rest, lastMark := if m.place = true then some m else r.lastMark, mgmt := r.mgmt, ebuf := r.ebuf, partnerId := r.partnerId, resyncLeft := r.resyncLeft, crcErrs := r.crcErrs, syncSince := r.syncSince, status := r.status }).rx
      k).lastMark.isSome = true) ∧ l ∈ bundle s i ∧ (¬∀ (k : Fin 32), k ∈ bundle s i →
      Option.map (fun x => x.seq) ((s.modRx l fun r =>
      { locked := r.locked, window := r.window, scrambler := r.scrambler, sinceRm := r.sinceRm, pos := r.pos, missing := r.missing, crc := r.crc, equalised := r.equalised, framed := r.framed, aligned := r.aligned, superblocks := r.superblocks, marker := r.marker, markers := rest, lastMark := if m.place = true then some m else r.lastMark, mgmt := r.mgmt, ebuf := r.ebuf, partnerId := r.partnerId, resyncLeft := r.resyncLeft, crcErrs := r.crcErrs, syncSince := r.syncSince, status := r.status }).rx
      k).lastMark = Option.map (fun x => x.seq) ((s.modRx l fun r =>
      { locked := r.locked, window := r.window, scrambler := r.scrambler, sinceRm := r.sinceRm, pos := r.pos, missing := r.missing, crc := r.crc, equalised := r.equalised, framed := r.framed, aligned := r.aligned, superblocks := r.superblocks, marker := r.marker, markers := rest, lastMark := if m.place = true then some m else r.lastMark, mgmt := r.mgmt, ebuf := r.ebuf, partnerId := r.partnerId, resyncLeft := r.resyncLeft, crcErrs := r.crcErrs, syncSince := r.syncSince, status := r.status }).rx
      l).lastMark)) ∧
    (∃ (s : State) (l : Fin 32) (i : Fin 16) (m : MarkerAt) (rest : List MarkerAt), laneLive s l = some i ∧
      (s.rx l).markers = m :: rest ∧ (s.stream i).ready = false ∧ (¬∀ (k : Fin 32), k ∈ bundle s i →
      (s.lane k).state = LaneState.framed ∧ ((s.modRx l fun r =>
      { locked := r.locked, window := r.window, scrambler := r.scrambler, sinceRm := r.sinceRm, pos := r.pos, missing := r.missing, crc := r.crc, equalised := r.equalised, framed := r.framed, aligned := r.aligned, superblocks := r.superblocks, marker := r.marker, markers := rest, lastMark := if m.place = true then some m else r.lastMark, mgmt := r.mgmt, ebuf := r.ebuf, partnerId := r.partnerId, resyncLeft := r.resyncLeft, crcErrs := r.crcErrs, syncSince := r.syncSince, status := r.status }).rx
      k).aligned = true ∧ ((s.modRx l fun r =>
      { locked := r.locked, window := r.window, scrambler := r.scrambler, sinceRm := r.sinceRm, pos := r.pos, missing := r.missing, crc := r.crc, equalised := r.equalised, framed := r.framed, aligned := r.aligned, superblocks := r.superblocks, marker := r.marker, markers := rest, lastMark := if m.place = true then some m else r.lastMark, mgmt := r.mgmt, ebuf := r.ebuf, partnerId := r.partnerId, resyncLeft := r.resyncLeft, crcErrs := r.crcErrs, syncSince := r.syncSince, status := r.status }).rx
      k).lastMark.isSome = true) ∧ (markerGood s (List.filter (fun x => decide (x ≠ l)) (bundle s i)) m = true ∨ ∃ k, k ∈ bundle s i ∧
      (s.lane k).state ≠ LaneState.deskewed)) :=
  ⟨⟨atRx (fun r => { r with markers := [{ seq := 3, sb := 9, place := true }] }) (atStream (fun t => { t with ready := true }) (onLane
    .ready up)), 1, by decide +kernel⟩,
   ⟨atRx (fun r => { r with markers := [{ seq := 3, sb := 9, place := true }] }) (atStream (fun t => { t with ready := true }) (onLane
     .ready up)), 0, _, _, _, rfl, rfl, rfl, rfl⟩,
   ⟨atRx (fun r => { r with markers := [{ seq := 3, sb := 9, place := false }] }) (atStream (fun t =>
     { t with ready := true, taken := 9 }) (onLane .ready up)), 0, _, _, _, rfl, rfl, rfl, rfl⟩,
   ⟨atRx (fun r => { r with markers := [{ seq := 3, sb := 9, place := false }] }) (onLane .deskewed up), 0, _, _, _, rfl, rfl, rfl, rfl,
     by decide +kernel⟩,
   ⟨atRx (fun r => { r with aligned := true, markers := [{ seq := 3, sb := 9, place := true }] }) (onLane .framed up), 0, _, _, _, rfl,
     rfl, rfl, by decide +kernel⟩,
   ⟨atRx (fun r => { r with aligned := true, markers := [{ seq := 3, sb := 9, place := true }] }) (onTwo .framed 4 up), 0, _, _, _, rfl,
     rfl, rfl, by decide +kernel⟩,
   ⟨atRx (fun r => { r with markers := [{ seq := 3, sb := 9, place := true }] }) (onLane .blockLock up), 0, _, _, _, rfl, rfl, rfl,
     by decide +kernel⟩⟩

theorem witness_CountAcquisition :
    (∃ (s : State) (i : Fin 16) (hs : List HeadAt), headsOf s (bundle s i) = some hs ∧ engines s = true ∧ bundle s i ≠ [] ∧
      (bundle s i).Nodup ∧ (s.stream i).asm = none ∧ (∀ (l : Fin 32), l ∈ bundle s i → (s.lane l).state = LaneState.deskewed) ∧
      (s.stream i).failAt = none ∧ (s.stream i).acquired = false ∧ (∃ g, g ∈ hs ∧ g.header = none)) ∧
    (∃ (s : State) (i : Fin 16) (hs : List HeadAt) (g : HeadAt) (h : Header), headsOf s (bundle s i) = some hs ∧ g.header = some h ∧
      h.half = false ∧ engines s = true ∧ bundle s i ≠ [] ∧ (bundle s i).Nodup ∧ (s.stream i).asm = none ∧ (∀ (l : Fin 32),
      l ∈ bundle s i → (s.lane l).state = LaneState.deskewed) ∧ (s.stream i).failAt = none ∧ (s.stream i).acquired = false ∧ g ∈ hs ∧
      (∀ (k : HeadAt), k ∈ hs → ∃ x, k.header = some x ∧ (k = g ∨ h.lane < x.lane)) ∧ (s.stream i).prevPart = none) ∧
    (∃ (s : State) (i : Fin 16) (hs : List HeadAt) (g : HeadAt) (h : Header) (p : Bool × Nat), headsOf s (bundle s i) = some hs ∧
      g.header = some h ∧ (s.stream i).prevPart = some p ∧ h.half = true ∧ engines s = true ∧ bundle s i ≠ [] ∧ (bundle s i).Nodup ∧
      (s.stream i).asm = none ∧ (∀ (l : Fin 32), l ∈ bundle s i → (s.lane l).state = LaneState.deskewed) ∧ (s.stream i).failAt = none ∧
      (s.stream i).acquired = false ∧ g ∈ hs ∧ (∀ (k : HeadAt), k ∈ hs → ∃ x, k.header = some x ∧ (k = g ∨ h.lane < x.lane))) ∧
    (∃ (s : State) (i : Fin 16) (hs : List HeadAt) (g : HeadAt) (h : Header), headsOf s (bundle s i) = some hs ∧ g.header = some h ∧
      h.half = true ∧ engines s = true ∧ bundle s i ≠ [] ∧ (bundle s i).Nodup ∧ (s.stream i).asm = none ∧ (∀ (l : Fin 32),
      l ∈ bundle s i → (s.lane l).state = LaneState.deskewed) ∧ (s.stream i).failAt = none ∧ (s.stream i).acquired = false ∧ g ∈ hs ∧
      (∀ (k : HeadAt), k ∈ hs → ∃ x, k.header = some x ∧ (k = g ∨ h.lane < x.lane)) ∧ (s.stream i).prevPart = none) ∧
    (∃ (s : State) (i : Fin 16) (hs : List HeadAt) (g : HeadAt) (h : Header) (p : Bool × Nat), headsOf s (bundle s i) = some hs ∧
      g.header = some h ∧ (s.stream i).prevPart = some p ∧ h.half = false ∧ engines s = true ∧ bundle s i ≠ [] ∧ (bundle s i).Nodup ∧
      (s.stream i).asm = none ∧ (∀ (l : Fin 32), l ∈ bundle s i → (s.lane l).state = LaneState.deskewed) ∧ (s.stream i).failAt = none ∧
      (s.stream i).acquired = false ∧ g ∈ hs ∧ (∀ (k : HeadAt), k ∈ hs → ∃ x, k.header = some x ∧ (k = g ∨ h.lane < x.lane)) ∧
      (∀ (f : Fin 4), mapErrors i (s.stream i).map (List.filterMap (fun k => Option.map (fun x => (k.lane,
      x)) k.header) hs) f.val = [])) ∧
    (∃ (s : State) (i : Fin 16) (hs : List HeadAt) (g : HeadAt) (h : Header) (p : Bool × Nat), headsOf s (bundle s i) = some hs ∧
      g.header = some h ∧ (s.stream i).prevPart = some p ∧ h.half = false ∧ engines s = true ∧ bundle s i ≠ [] ∧ (bundle s i).Nodup ∧
      (s.stream i).asm = none ∧ (∀ (l : Fin 32), l ∈ bundle s i → (s.lane l).state = LaneState.deskewed) ∧ (s.stream i).failAt = none ∧
      (s.stream i).acquired = false ∧ g ∈ hs ∧ (∀ (k : HeadAt), k ∈ hs → ∃ x, k.header = some x ∧ (k = g ∨ h.lane < x.lane)) ∧
      (∃ f : Fin 4, mapErrors i (s.stream i).map (List.filterMap (fun k => Option.map (fun x => (k.lane, x)) k.header) hs) f.val ≠ [])) :=
  ⟨⟨atRx (fun r => { r with ebuf := [.header none 0 0 none] }) (onLane .deskewed up), 0, _, rfl, by decide +kernel⟩,
   ⟨atRx (fun r => { r with ebuf := [.header (some (headerWord false 5)) 0 0 none] }) (onLane .deskewed up), 0, _,
     { lane := 0, header := some { stream := 0, lane := 0, half := false, part := 5, crc := 0#16, ovr := false, unlock := false, size := 0, packed := false }, arrival := 0, crc := 0#16 },
     _, rfl, rfl, rfl, by decide +kernel⟩,
   ⟨atStream (fun t => { t with prevPart := some (true, 3) }) (atRx (fun r =>
     { r with ebuf := [.header (some (headerWord true 5)) 0 0 none] }) (onLane .deskewed up)), 0, _,
     { lane := 0, header := some { stream := 0, lane := 0, half := true, part := 5, crc := 0#16, ovr := false, unlock := false, size := 0, packed := false }, arrival := 0, crc := 0#16 },
     _, _, rfl, rfl, rfl, rfl, by decide +kernel⟩,
   ⟨atRx (fun r => { r with ebuf := [.header (some (headerWord true 5)) 0 0 none] }) (onLane .deskewed up), 0, _,
     { lane := 0, header := some { stream := 0, lane := 0, half := true, part := 5, crc := 0#16, ovr := false, unlock := false, size := 0, packed := false }, arrival := 0, crc := 0#16 },
     _, rfl, rfl, rfl, by decide +kernel⟩,
   ⟨atStream (fun t => { t with prevPart := some (true, 3) }) (atRx (fun r =>
     { r with ebuf := [.header (some (headerWord false 5)) 0 0 none] }) (onLane .deskewed up)), 0, _,
     { lane := 0, header := some { stream := 0, lane := 0, half := false, part := 5, crc := 0#16, ovr := false, unlock := false, size := 0, packed := false }, arrival := 0, crc := 0#16 },
     _, _, rfl, rfl, rfl, rfl, by decide +kernel⟩,
   ⟨atStream (fun t => { t with map := { lineE with packed := true }, prevPart := some (true, 3) }) (atRx (fun r =>
     { r with ebuf := [.header (some (headerWord false 5)) 0 0 none] }) (onLane .deskewed up)), 0, _,
     { lane := 0, header := some { stream := 0, lane := 0, half := false, part := 5, crc := 0#16, ovr := false, unlock := false, size := 0, packed := false }, arrival := 0, crc := 0#16 },
     _, _, rfl, rfl, rfl, rfl, by decide +kernel⟩⟩

theorem witness_SuperblockHeaders :
    (∃ (s : State) (i : Fin 16), engines s = true ∧ bundle s i ≠ [] ∧ (s.stream i).asm = none ∧ headsOf s (bundle s i) = none) ∧
    (∃ (s : State) (i : Fin 16) (hs : List HeadAt) (x : Nat), headsOf s (bundle s i) = some hs ∧ (s.stream i).failAt = some x ∧
      engines s = true ∧ bundle s i ≠ [] ∧ (s.stream i).asm = none ∧ ((∀ (l : Fin 32), l ∈ bundle s i →
      (s.lane l).state = LaneState.deskewed) ∨ ∀ (l : Fin 32), l ∈ bundle s i → (s.lane l).state = LaneState.ready) ∧
      x ≤ (s.stream i).taken) ∧
    (∃ (s : State) (i : Fin 16) (hs : List HeadAt) (l : Fin 32) (h : Header) (n : Nat), headsOf s (bundle s i) = some hs ∧
      checkHeader s hs = some (l, h) ∧ (s.stream i).count = some n ∧ (h.part = if h.half = true then (n + (s.stream i).map.samples) % 2 ^
      48 / 2 ^ 24 else (n + (s.stream i).map.samples) % 2 ^ 48 % 2 ^ 24) ∧ engines s = true ∧ bundle s i ≠ [] ∧ (s.stream i).asm = none ∧
      ((∀ (l : Fin 32), l ∈ bundle s i → (s.lane l).state = LaneState.deskewed) ∨ ∀ (l : Fin 32), l ∈ bundle s i →
      (s.lane l).state = LaneState.ready) ∧ (∀ (x : Nat), (s.stream i).failAt = some x → (s.stream i).taken < x) ∧
      (s.stream i).acquired = true) :=
  ⟨⟨onLane .deskewed up, 0, by decide +kernel⟩,
   ⟨atStream (fun t => { t with failAt := some 4, taken := 4, ready := true }) (atRx (fun r =>
     { r with ebuf := [.header none 0 0 none] }) (onLane .ready up)), 0, _, _, rfl, rfl, by decide +kernel⟩,
   ⟨atStream (fun t => { t with acquired := true, ready := true, count := some 5 }) (atRx (fun r =>
     { r with ebuf := [.header (some (headerWord false (5 + lineE.samples))) 0 0 none] }) (onLane .ready up)), 0, _, _, _, _, rfl, rfl,
     rfl, rfl, by decide +kernel⟩⟩

theorem witness_LinkManagementMessages :
    (∃ (s : State) (l : Fin 32), (s.rx l).mgmt = []) ∧
    (∃ (s : State) (l : Fin 32) (w : U64) (rest : List U64), (s.rx l).mgmt = w :: rest ∧ bits 15 8 (BitVec.toNat w) = 1 ∧
      firmware s = true ∧ engines s = true) ∧
    (∃ (s : State) (l : Fin 32) (w : U64) (rest : List U64), (s.rx l).mgmt = w :: rest ∧ bits 15 8 (BitVec.toNat w) = 2 ∧
      firmware s = true ∧ engines s = true) ∧
    (∃ (s : State) (l : Fin 32) (w : U64) (rest : List U64), (s.rx l).mgmt = w :: rest ∧ bits 15 8 (BitVec.toNat w) = 3 ∧
      firmware s = true ∧ engines s = true) ∧
    (∃ (s : State) (l : Fin 32) (w : U64) (rest : List U64) (i : Fin 16), (s.rx l).mgmt = w :: rest ∧ bits 15 8 (BitVec.toNat w) = 4 ∧
      (s.lane l).stream = some i ∧ firmware s = true ∧ engines s = true) ∧
    (∃ (s : State) (l : Fin 32) (w : U64) (rest : List U64), (s.rx l).mgmt = w :: rest ∧ firmware s = true ∧ engines s = true ∧
      ¬bits 15 8 (BitVec.toNat w) ∈ [1, 2, 3, 4]) :=
  ⟨⟨atRx (fun r => { r with mgmt := [0x0000001234000100] }) (onLane .ready up), 1, by decide +kernel⟩,
   ⟨atRx (fun r => { r with mgmt := [0x0000001234000100] }) (onLane .ready up), 0, _, _, rfl, rfl, by decide +kernel⟩,
   ⟨((atRx (fun r => { r with mgmt := [0x0000000015000200 ||| (BitVec.ofNat 64 (20 * 65536)) ] }) (onLane .ready up))).modLane 0 fun x =>
     { x with partner := true }, 0, _, _, rfl, rfl, by decide +kernel⟩,
   ⟨atRx (fun r => { r with mgmt := [0x0000000000000300] }) (onLane .ready up), 0, _, _, rfl, rfl, by decide +kernel⟩,
   ⟨atRx (fun r => { r with mgmt := [0x0000000000000400] }) (onLane .ready up), 0, _, _, _, rfl, rfl, rfl, by decide +kernel⟩,
   ⟨atRx (fun r => { r with mgmt := [0x0000000000000900] }) (onLane .ready up), 0, _, _, rfl, by decide +kernel⟩⟩

theorem witness_StatusBlocks :
    (∃ (s : State) (l : Fin 32), engines s = true ∧ locked s 6 = true ∧ (s.lane l).powered = true) ∧
    (∃ (s : State) (l : Fin 32), (s.lane l).powered = false) :=
  ⟨⟨atRx (fun r => { r with resyncLeft := 3, crcErrs := 1 }) (under default (onLane .ready up)), 0, by decide +kernel⟩,
   ⟨atRx (fun r => { r with resyncLeft := 3, crcErrs := 1 }) (under default (onLane .ready up)), 1, by decide +kernel⟩⟩

theorem witness_SuperblockDelivery :
    (∃ (s : State) (i : Fin 16), (s.stream i).asm = none) ∧
    (∃ (s : State) (i : Fin 16) (a : Assembly), (s.stream i).asm = some a ∧ a.blocks.length ≠ 255 * (s.stream i).map.group.length) ∧
    (∃ (s : State) (i : Fin 16) (a : Assembly), (s.stream i).asm = some a ∧ a.blocks.length = 255 * (s.stream i).map.group.length ∧
      engines s = true ∧ (a.deliver = false ∨ intakeFrom i s = none)) ∧
    (∃ (s : State) (i : Fin 16) (a : Assembly) (lo : Nat), (s.stream i).asm = some a ∧ engines s = true ∧
      a.blocks.length = 255 * (s.stream i).map.group.length ∧ a.deliver = true ∧ intakeFrom i s = some lo ∧
      (∀ (f : Nat × Fin 2) (b : Nat), (s.bound i).flipAt = some f → boundaryIndex s i f.fst = some b →
      a.index + (parseBlocks (s.stream i).map.packed a.blocks.reverse).length < b) ∧
      max lo a.index < a.index + (parseBlocks (s.stream i).map.packed a.blocks.reverse).length) :=
  ⟨⟨atStream (fun t => { t with asm := some { index := 510, deliver := false, linkErr := false, blocks := List.replicate 255 5, cycles := List.replicate 255 3 } })
    (onLane .ready up), 1, by decide +kernel⟩,
   ⟨atStream (fun t => { t with asm := some { index := 510, deliver := false, linkErr := false, blocks := [5], cycles := [3] } }) (onLane
     .ready up), 0, _, rfl, by decide +kernel⟩,
   ⟨atStream (fun t => { t with asm := some { index := 510, deliver := false, linkErr := false, blocks := List.replicate 255 5, cycles := List.replicate 255 3 } })
     (onLane .ready up), 0, _, rfl, rfl, by decide +kernel⟩,
   ⟨atStream (fun t => { t with last := some 509, delivering := true, asm := some { index := 510, deliver := true, linkErr := false, blocks := List.replicate 255 5, cycles := List.replicate 255 3 } })
     (onLane .ready up), 0, _, _, rfl, by decide +kernel, by decide +kernel, by decide +kernel, rfl,
     fun _ _ h => absurd h (ne_some_of_isNone (by decide +kernel) _), by decide +kernel⟩⟩

theorem witness_StreamCommands :
    (∃ (s : State) (c : Cmd) (rest : List Cmd), Ready Instr.streamResync c rest s ∧ (∀ (i : Fin 16), c.u 0 1 = i.val →
      ((planNow (taken c rest s)).stream i.val).run = false)) ∧
    (∃ (s : State) (c : Cmd) (rest : List Cmd), Ready Instr.streamStart c rest s ∧ (∀ (i : Fin 16), c.u 0 1 = i.val →
      ((planNow (taken c rest s)).stream i.val).run = false)) ∧
    (∃ (s : State) (c : Cmd) (rest : List Cmd) (i : Fin 16), Ready Instr.streamResync c rest s ∧ c.u 0 1 = i.val ∧
      ((planNow (taken c rest s)).stream i.val).run = true) ∧
    (∃ (s : State) (c : Cmd) (rest : List Cmd) (i : Fin 16), Ready Instr.streamStart c rest s ∧ c.u 0 1 = i.val ∧
      ((planNow (taken c rest s)).stream i.val).run = true ∧ (((taken c rest s).stream i).reversed = false ∨ (startWaiting i (taken c
      rest s)).isSome = true)) ∧
    (∃ (s : State) (c : Cmd) (rest : List Cmd) (i : Fin 16), Ready Instr.streamStart c rest s ∧ c.u 0 1 = i.val ∧
      ((planNow (taken c rest s)).stream i.val).run = true ∧ ((taken c rest s).stream i).reversed = true ∧
      startWaiting i (taken c rest s) = none ∧ (∀ (e : Nat), ((taken c rest s).stream i).last = some e →
      c.u 2 2 * 2 ^ 48 + ((taken c rest s).stream i).count.getD 0 ≤ e)) ∧
    (∃ (s : State) (c : Cmd) (rest : List Cmd) (i : Fin 16) (e : Nat), ((taken c rest s).stream i).last = some e ∧
      Ready Instr.streamStart c rest s ∧ c.u 0 1 = i.val ∧ ((planNow (taken c rest s)).stream i.val).run = true ∧
      ((taken c rest s).stream i).reversed = true ∧ startWaiting i (taken c rest s) = none ∧
      e < c.u 2 2 * 2 ^ 48 + ((taken c rest s).stream i).count.getD 0 ∧ ((taken c rest s).stream i).ready = false) ∧
    (∃ (s : State) (c : Cmd) (rest : List Cmd) (i : Fin 16) (e : Nat), ((taken c rest s).stream i).last = some e ∧
      Ready Instr.streamStart c rest s ∧ c.u 0 1 = i.val ∧ ((planNow (taken c rest s)).stream i.val).run = true ∧
      ((taken c rest s).stream i).reversed = true ∧ startWaiting i (taken c rest s) = none ∧
      e < c.u 2 2 * 2 ^ 48 + ((taken c rest s).stream i).count.getD 0 ∧ ((taken c rest s).stream i).ready = true) :=
  ⟨⟨ask 0x302 (num [(1, 1)]) (under (viewPlan view64) (onLane .ready up)), _, [], ready_of_now [] rfl (by decide +kernel),
    by decide +kernel⟩,
   ⟨ask 0x301 (num [(1, 15), (1, 0), (2, 0)]) (under (viewPlan view64) (onLane .ready up)), _, [],
     ready_of_now [] rfl (by decide +kernel), by decide +kernel⟩,
   ⟨ask 0x302 (num [(1, 0)]) (under (viewPlan view64) (onLane .ready up)), _, [], 0, ready_of_now [] rfl (by decide +kernel),
     by decide +kernel⟩,
   ⟨ask 0x301 (num [(1, 0), (1, 0), (2, 0)]) (under (viewPlan view64) (onLane .ready up)), _, [], 0,
     ready_of_now [] rfl (by decide +kernel), by decide +kernel⟩,
   ⟨ask 0x301 (num [(1, 0), (1, 0), (2, 0)]) (under (viewPlan view64) (atStream (fun t =>
     { t with reversed := true, ready := true, last := some 5, count := some 5 }) (onLane .ready up))), _, [], 0,
     ready_of_now [] rfl (by decide +kernel), by decide +kernel⟩,
   ⟨ask 0x301 (num [(1, 0), (1, 0), (2, 1)]) (under (viewPlan view64) (atStream (fun t =>
     { t with reversed := true, ready := false, last := some 5 }) (onLane .framed up))), _, [], 0, _, rfl,
     ready_of_now [] rfl (by decide +kernel), by decide +kernel⟩,
   ⟨ask 0x301 (num [(1, 0), (1, 0), (2, 1)]) (under (viewPlan view64) (atStream (fun t =>
     { t with reversed := true, ready := true, last := some 5 }) (onLane .ready up))), _, [], 0, _, rfl,
     ready_of_now [] rfl (by decide +kernel), by decide +kernel⟩⟩

theorem witness_StreamStartDelivers :
    (∃ (s : State) (i : Fin 16), ((s.stream i).asm = none ∨ startWaiting i s = none ∨ (s.stream i).startDue = false ∨ (s.stream
      i).reversed = false)) ∧
    (∃ (s : State) (i : Fin 16) (a : Assembly) (d : Deferred) (h : Nat), (s.stream i).asm = some a ∧ d ∈ s.host.deferred ∧
      d.wait = Wait.streamStart i h ∧ (∀ (x : Deferred), x ∈ s.host.deferred → ∀ (k : Nat), x.wait = Wait.streamStart i k → x = d) ∧
      (s.stream i).startDue = true ∧ (s.stream i).reversed = true ∧ (∀ (e : Nat), (s.stream i).last = some e → e < a.index)) ∧
    (∃ (s : State) (i : Fin 16) (a : Assembly) (d : Deferred) (h : Nat) (e : Nat), (s.stream i).asm = some a ∧ d ∈ s.host.deferred ∧
      d.wait = Wait.streamStart i h ∧ (∀ (x : Deferred), x ∈ s.host.deferred → ∀ (k : Nat), x.wait = Wait.streamStart i k → x = d) ∧
      (s.stream i).startDue = true ∧ (s.stream i).reversed = true ∧ (s.stream i).last = some e ∧ a.index ≤ e) :=
  ⟨⟨waiting (.streamStart 0 1) (atStream (fun t =>
    { t with reversed := true, startDue := true, last := some 5, asm := some { index := 6, deliver := false, linkErr := false, blocks := [], cycles := [] } })
    (onLane .ready up)), 1, by decide +kernel⟩,
   ⟨waiting (.streamStart 0 1) (atStream (fun t =>
     { t with reversed := true, startDue := true, last := some 5, asm := some { index := 6, deliver := false, linkErr := false, blocks := [], cycles := [] } })
     (onLane .ready up)), 0, _, _, _, rfl, List.mem_singleton.mpr rfl, rfl, fun x hx _ _ => List.mem_singleton.mp hx, rfl, rfl,
     fun e h => (Option.some.inj h : 5 = e) ▸ by decide +kernel⟩,
   ⟨waiting (.streamStart 0 1) (atStream (fun t =>
     { t with reversed := true, startDue := true, last := some 5, asm := some { index := 5, deliver := false, linkErr := false, blocks := [], cycles := [] } })
     (onLane .ready up)), 0, _, _, _, _, rfl, List.mem_singleton.mpr rfl, rfl, fun x hx _ _ => List.mem_singleton.mp hx, rfl, rfl, rfl,
     by decide +kernel⟩⟩

theorem witness_TransformArray :
    (∃ (s : State) (p : Fin 96) (x : Xform) (rest : List Xform), s.plains.ready = x :: rest ∧ pipeOf s p = none ∧ dclk s = true) ∧
    (∃ (s : State) (p : Fin 96), (pipeOf s p ≠ none ∨ s.plains.ready = [])) ∧
    (∃ (s : State) (p : Fin 96) (x : Xform), pipeOf s p = some x ∧ (s.plains.ready ++ busyPipes s).any (leavesBefore s x) = false ∧
      dclk s = true ∧ ((xView s x).fourStep = true → x.row = true ∧ locked s 3 = true)) ∧
    (∃ (s : State) (p : Fin 96) (x : Xform), pipeOf s p = some x ∧ (s.plains.ready ++ busyPipes s).any (leavesBefore s x) = true) ∧
    (∃ (s : State), dclk s = false) :=
  ⟨⟨under (viewPlan view64) { up with plains := { up.plains with ready := [xform] } }, 0, _, _, rfl, by decide +kernel⟩,
   ⟨under (viewPlan { view64 with geyser := true })
     { up with plains := { up.plains with pipes := vset up.plains.pipes 95 (some xform) } }, 0, by decide +kernel⟩,
   ⟨under (viewPlan { view64 with geyser := true })
     { up with plains := { up.plains with pipes := vset up.plains.pipes 95 (some xform) } }, 95, _, rfl, rfl, by decide +kernel⟩,
   ⟨under (viewPlan view64)
     { up with plains := { up.plains with pipes := vset (vset up.plains.pipes 1 (some { xform with j := 1, order := 1 })) 0 (some xform) } },
     1, _, rfl, rfl⟩,
   ⟨unlocked 0 (under (viewPlan view64) { up with plains := { up.plains with ready := [xform] } }), by decide +kernel⟩⟩

theorem witness_SpectrumRecords :
    (∃ (s : State) (v : Fin 64), (s.view v).recQ = []) ∧
    (∃ (s : State) (v : Fin 64) (x : Spectrum) (rest : List Spectrum), (s.view v).recQ = x :: rest ∧ (s.stream x.stream).checkedTo ≤ x.hi) ∧
    (∃ (s : State) (v : Fin 64) (x : Spectrum) (rest : List Spectrum), (s.view v).recQ = x :: rest ∧ engines s = true ∧
      x.hi < (s.stream x.stream).checkedTo) :=
  ⟨⟨under (viewPlan view64) (atView (fun v => { v with recQ := [spec] }) up), 1, by decide +kernel⟩,
   ⟨under (viewPlan view64) (atView (fun v => { v with recQ := [spec] }) up), 0, _, _, rfl, by decide +kernel⟩,
   ⟨under (viewPlan { view64 with formats := 0 }) (atView (fun v => { v with recQ := [spec] }) (atStream (fun t =>
     { t with checkedTo := 64, marks := [{ (default : Mark) with lo := 5, hi := 6, linkErr := true }] }) up)), 0, _, _, rfl,
     by decide +kernel⟩⟩

theorem witness_MaskSlots :
    (∃ (s : State) (v : Fin 64), ((s.view v).maskQ = [] ∨ dclk s = false)) ∧
    (∃ (s : State) (v : Fin 64) (x : Spectrum) (rest : List Spectrum), (s.view v).maskQ = x :: rest ∧ x.view = v ∧ dclk s = true) :=
  ⟨⟨under { viewPlan view64 with masks := [{ (default : MaskE) with kind := 2, binHi := 1, exclude := 1 }] } (atView (fun v =>
    { v with maskQ := [spec] }) up), 1, by decide +kernel⟩,
   ⟨under { viewPlan view64 with masks := [{ (default : MaskE) with kind := 2, binHi := 1, exclude := 1 }] } (atView (fun v =>
     { v with maskQ := [spec] }) up), 0, _, _, rfl, rfl, by decide +kernel⟩⟩

theorem witness_ZoomOutputs :
    (∃ (s : State) (c : Fin 32), dclk s = true ∧ ((s.zoom c).state ≠ ZoomState.stopped ∧ (s.zoom c).waiting = false ∧
      0 < (s.zoom c).cfg.d ∧ (s.zoom c).s0 + ((s.zoom c).m + 1) * (s.zoom c).cfg.d ≤ (s.stream (zoomStream s c)).avail)) ∧
    (∃ (s : State) (c : Fin 32), (dclk s = false ∨ ¬((s.zoom c).state ≠ ZoomState.stopped ∧ (s.zoom c).waiting = false ∧
      0 < (s.zoom c).cfg.d ∧ (s.zoom c).s0 + ((s.zoom c).m + 1) * (s.zoom c).cfg.d ≤ (s.stream (zoomStream s c)).avail))) :=
  ⟨⟨atStream (fun t => { t with last := some 3, segs := [{ start := 0, data := List.replicate 4 { i := 1, q := 0 } }] }) (onZoom .filling
    up), 0, by decide +kernel⟩,
   ⟨atStream (fun t => { t with last := some 3, segs := [{ start := 0, data := List.replicate 4 { i := 1, q := 0 } }] }) (onZoom .filling
     up), 1, by decide +kernel⟩⟩

theorem witness_ZoomSync :
    (∃ (s : State), engines s = false) ∧
    (∃ (s : State), s.terrace.sync = none) ∧
    (∃ (s : State) (ts : Nat), s.terrace.sync = some ts ∧ now s < ts) ∧
    (∃ (s : State) (ts : Nat), s.terrace.sync = some ts ∧ engines s = true ∧ ts ≤ now s) :=
  ⟨⟨State.reset, by decide +kernel⟩,
   ⟨State.reset, by decide +kernel⟩,
   ⟨{ onZoom .running up with terrace := { (onZoom .running up).terrace with sync := some (11 * Config.secUnits) } }, _, rfl,
     by decide +kernel⟩,
   ⟨{ onZoom .running up with terrace := { (onZoom .running up).terrace with sync := some 5 } }, _, rfl, by decide +kernel⟩⟩

theorem witness_ZoomCommands :
    (∃ (s : State) (c : Cmd) (rest : List Cmd) (i : Instr), Ready i c rest s ∧ i ∈ [Instr.zoomStop, Instr.zoomLoad, Instr.zoomStart] ∧
      activeBank (taken c rest s) = none) ∧
    (∃ (s : State) (c : Cmd) (rest : List Cmd) (i : Instr), Ready i c rest s ∧ i ∈ [Instr.zoomStop, Instr.zoomLoad, Instr.zoomStart] ∧
      activeBank (taken c rest s) ≠ none ∧ (∀ (z : Fin 32), c.u 0 1 = z.val → ((planNow (taken c rest s)).zoom z.val).present = false)) ∧
    (∃ (s : State) (c : Cmd) (rest : List Cmd) (z : Fin 32) (b : Fin 2), activeBank (taken c rest s) = some b ∧
      Ready Instr.zoomStop c rest s ∧ c.u 0 1 = z.val ∧ ((planNow (taken c rest s)).zoom z.val).present = true ∧
      ((taken c rest s).zoom z).state = ZoomState.stopped) ∧
    (∃ (s : State) (c : Cmd) (rest : List Cmd) (z : Fin 32) (b : Fin 2), activeBank (taken c rest s) = some b ∧
      Ready Instr.zoomStop c rest s ∧ c.u 0 1 = z.val ∧ ((planNow (taken c rest s)).zoom z.val).present = true ∧
      ((taken c rest s).zoom z).state ≠ ZoomState.stopped) ∧
    (∃ (s : State) (c : Cmd) (rest : List Cmd) (z : Fin 32) (b : Fin 2), activeBank (taken c rest s) = some b ∧
      Ready Instr.zoomLoad c rest s ∧ c.u 0 1 = z.val ∧ ((planNow (taken c rest s)).zoom z.val).present = true ∧
      ((planNow (taken c rest s)).zoom z.val).hostTunable = false) ∧
    (∃ (s : State) (c : Cmd) (rest : List Cmd) (z : Fin 32) (b : Fin 2), activeBank (taken c rest s) = some b ∧
      Ready Instr.zoomLoad c rest s ∧ c.u 0 1 = z.val ∧ ((planNow (taken c rest s)).zoom z.val).present = true ∧
      ((planNow (taken c rest s)).zoom z.val).hostTunable = true ∧ ((taken c rest s).zoom z).state ≠ ZoomState.stopped) ∧
    (∃ (s : State) (c : Cmd) (rest : List Cmd) (z : Fin 32) (b : Fin 2) (o : Nat), activeBank (taken c rest s) = some b ∧
      loadBad ((planNow (taken c rest s)).zoom z.val) c = some o ∧ Ready Instr.zoomLoad c rest s ∧ c.u 0 1 = z.val ∧
      ((planNow (taken c rest s)).zoom z.val).present = true ∧ ((planNow (taken c rest s)).zoom z.val).hostTunable = true ∧
      ((taken c rest s).zoom z).state = ZoomState.stopped) ∧
    (∃ (s : State) (c : Cmd) (rest : List Cmd) (z : Fin 32) (b : Fin 2), activeBank (taken c rest s) = some b ∧
      Ready Instr.zoomLoad c rest s ∧ c.u 0 1 = z.val ∧ ((planNow (taken c rest s)).zoom z.val).present = true ∧
      ((planNow (taken c rest s)).zoom z.val).hostTunable = true ∧ ((taken c rest s).zoom z).state = ZoomState.stopped ∧
      loadBad ((planNow (taken c rest s)).zoom z.val) c = none) ∧
    (∃ (s : State) (c : Cmd) (rest : List Cmd) (z : Fin 32) (b : Fin 2), activeBank (taken c rest s) = some b ∧
      Ready Instr.zoomStart c rest s ∧ c.u 0 1 = z.val ∧ ((planNow (taken c rest s)).zoom z.val).present = true ∧
      ((taken c rest s).zoom z).state ≠ ZoomState.stopped) ∧
    (∃ (s : State) (c : Cmd) (rest : List Cmd) (z : Fin 32) (b : Fin 2), activeBank (taken c rest s) = some b ∧
      Ready Instr.zoomStart c rest s ∧ c.u 0 1 = z.val ∧ ((planNow (taken c rest s)).zoom z.val).present = true ∧
      ((taken c rest s).zoom z).state = ZoomState.stopped) ∧
    (∃ (s : State) (c : Cmd) (rest : List Cmd), Ready Instr.zoomSync c rest s ∧
      (c.badTime 0 = true ∨ (if c.time 0 = 0 then c.recorded + (taken c rest s).params.syncDelay * Config.usUnits else c.time 0) <
      c.recorded + 10 * Config.usUnits)) ∧
    (∃ (s : State) (c : Cmd) (rest : List Cmd), Ready Instr.zoomSync c rest s ∧ c.badTime 0 = false ∧
      (c.recorded + 10 * Config.usUnits ≤ if c.time 0 = 0 then c.recorded + (taken c rest s).params.syncDelay * Config.usUnits else
      c.time 0)) :=
  ⟨⟨ask 0x501 (num [(1, 0)]) up, _, [], Instr.zoomStop, ready_of_now [] rfl (by decide +kernel), by decide +kernel⟩,
   ⟨ask 0x501 (num [(1, 5)]) (onZoom .stopped up), _, [], Instr.zoomStop, ready_of_now [] rfl (by decide +kernel), by decide +kernel⟩,
   ⟨ask 0x501 (num [(1, 0)]) (onZoom .stopped up), _, [], 0, _, rfl, ready_of_now [] rfl (by decide +kernel), by decide +kernel⟩,
   ⟨ask 0x501 (num [(1, 0)]) (onZoom .running up), _, [], 0, _, rfl, ready_of_now [] rfl (by decide +kernel), by decide +kernel⟩,
   ⟨ask 0x502 (num [(1, 0), (1, 1), (1, 0), (1, 0), (4, 9), (4, 8), (4, 100), (4, 4), (4, 4), (4, 0), (4, 0), (4, 0), (4,
     0)]) (atZoom (fun z => { z with state := .stopped }) (under
     { (default : Plan) with streams := [lineE], terrace := [{ zoomE with hostTunable := false }] } up)), _, [], 0, _, rfl,
     ready_of_now [] rfl (by decide +kernel), by decide +kernel⟩,
   ⟨ask 0x502 (num [(1, 0), (1, 1), (1, 0), (1, 0), (4, 9), (4, 8), (4, 100), (4, 4), (4, 4), (4, 0), (4, 0), (4, 0), (4,
     0)]) (onZoom .running up), _, [], 0, _, rfl, ready_of_now [] rfl (by decide +kernel), by decide +kernel⟩,
   ⟨ask 0x502 (num [(1, 0), (1, 2), (1, 0), (1, 0), (4, 9), (4, 8), (4, 100), (4, 4), (4, 4), (4, 0), (4, 0), (4, 0), (4,
     0)]) (onZoom .stopped up), _, [], 0, _, _, rfl, rfl, ready_of_now [] rfl (by decide +kernel), by decide +kernel⟩,
   ⟨ask 0x502 (num [(1, 0), (1, 1), (1, 80), (1, 0), (4, 9), (4, 8), (4, 100), (4, 4), (4, 4), (4, 0), (4, 0), (4, 0), (4,
     0)]) (onZoom .stopped up), _, [], 0, _, rfl, ready_of_now [] rfl (by decide +kernel), by decide +kernel⟩,
   ⟨ask 0x503 (num [(1, 0)]) (onZoom .running up), _, [], 0, _, rfl, ready_of_now [] rfl (by decide +kernel), by decide +kernel⟩,
   ⟨ask 0x503 (num [(1, 0)]) (atStream (fun t => { t with delivering := true, last := some 7 }) (onZoom .stopped up)), _, [], 0, _, rfl,
     ready_of_now [] rfl (by decide +kernel), by decide +kernel⟩,
   ⟨ask 0x504 (num [(12, 10 * 2 ^ 48)]) (onZoom .running up), _, [], ready_of_now [] rfl (by decide +kernel), by decide +kernel⟩,
   ⟨ask 0x504 (num [(12, 0)]) up, _, [], ready_of_now [] rfl (by decide +kernel), by decide +kernel⟩⟩

theorem witness_PoolPeriods :
    (∃ (s : State) (v : Fin 64), ((s.view v).poolQ = [] ∨ dclk s = false)) ∧
    (∃ (s : State) (v : Fin 64) (x : Spectrum) (rest : List Spectrum) (c : Nat), (s.view v).poolQ = x :: rest ∧
      entriesReady s x.bank v = true ∧ (vget s.pool v).closedTo = some c ∧ dclk s = true ∧ x.epoch ≠ Config.noEpoch ∧ (∀ (q : Period),
      (vget s.pool v).period = some q → entriesReady s q.bank v = true) ∧ periodFirst s (poolEntry s x.bank v).period x.epoch ≤ c) ∧
    (∃ (s : State) (v : Fin 64) (x : Spectrum) (rest : List Spectrum), (s.view v).poolQ = x :: rest ∧ entriesReady s x.bank v = true ∧
      dclk s = true ∧ x.epoch ≠ Config.noEpoch ∧ (∀ (q : Period), (vget s.pool v).period = some q → entriesReady s q.bank v = true) ∧
      (∀ (c : Nat), (vget s.pool v).closedTo = some c → c < periodFirst s (poolEntry s x.bank v).period x.epoch) ∧
      (vget s.pool v).period = none) ∧
    (∃ (s : State) (v : Fin 64) (x : Spectrum) (rest : List Spectrum) (q : Period), (s.view v).poolQ = x :: rest ∧
      entriesReady s x.bank v = true ∧ (vget s.pool v).period = some q ∧ x.excludedBy (poolEntry s x.bank v).exclude = true ∧
      dclk s = true ∧ x.epoch ≠ Config.noEpoch ∧ (∀ (q : Period), (vget s.pool v).period = some q → entriesReady s q.bank v = true) ∧
      (∀ (c : Nat), (vget s.pool v).closedTo = some c → c < periodFirst s (poolEntry s x.bank v).period x.epoch) ∧
      periodFirst s (poolEntry s x.bank v).period x.epoch ≤ q.first) ∧
    (∃ (s : State) (v : Fin 64) (x : Spectrum) (rest : List Spectrum) (q : Period), (s.view v).poolQ = x :: rest ∧
      entriesReady s x.bank v = true ∧ (vget s.pool v).period = some q ∧ x.excludedBy (poolEntry s x.bank v).exclude = false ∧
      dclk s = true ∧ x.epoch ≠ Config.noEpoch ∧ (∀ (q : Period), (vget s.pool v).period = some q → entriesReady s q.bank v = true) ∧
      (∀ (c : Nat), (vget s.pool v).closedTo = some c → c < periodFirst s (poolEntry s x.bank v).period x.epoch) ∧
      periodFirst s (poolEntry s x.bank v).period x.epoch ≤ q.first) ∧
    (∃ (s : State) (v : Fin 64) (p : Period) (k : Nat), (vget s.pool v).period = some p ∧ s.plans.epoch = some k ∧
      boundaryTime s k < sweepFrom s v p) ∧
    (∃ (s : State) (v : Fin 64) (p : Period) (k : Nat), (vget s.pool v).period = some p ∧ s.plans.epoch = some k ∧
      entriesReady s p.bank v = true ∧ firmware s = true ∧ dclk s = true ∧ sweepFrom s v p ≤ boundaryTime s k) ∧
    (∃ (s : State) (v : Fin 64), (vget s.pool v).closed = []) ∧
    (∃ (s : State) (v : Fin 64) (p : Period) (bins : List FinBin) (rest : List (Period × List FinBin)), (vget s.pool v).closed = (p,
      bins) :: rest ∧ (∃ t, t ∈ p.taken ∧ (s.stream t.stream).checkedTo ≤ t.hi)) ∧
    (∃ (s : State) (v : Fin 64) (p : Period) (bins : List FinBin) (rest : List (Period × List FinBin)), (vget s.pool v).closed = (p,
      bins) :: rest ∧ engines s = true ∧ (∀ (t : Taken), t ∈ p.taken → t.hi < (s.stream t.stream).checkedTo)) :=
  ⟨⟨(under { viewPlan view64 with pool := [{ (default : PoolE) with present := true, period := 10 }] } (atView (fun v =>
    { v with poolQ := [spec] }) up)).modPool 0 fun p => { p with closedTo := some 10000 }, 1, by decide +kernel⟩,
   ⟨(under { viewPlan view64 with pool := [{ (default : PoolE) with present := true, period := 10 }] } (atView (fun v =>
     { v with poolQ := [spec] }) up)).modPool 0 fun p => { p with closedTo := some 10000 }, 0, _, _, _, rfl, rfl, rfl, by decide +kernel⟩,
   ⟨(under { viewPlan view64 with pool := [{ (default : PoolE) with present := true, period := 10 }] } (atView (fun v =>
     { v with poolQ := [spec] }) up)).modPool 0 fun p => { p with closedTo := some 9990 }, 0, _, _, rfl, rfl, by decide +kernel⟩,
   ⟨(under { viewPlan view64 with pool := [{ (default : PoolE) with present := true, period := 10, exclude := 1 }] } (atView (fun v =>
     { v with poolQ := [{ spec with sat := some 3 }] }) up)).modPool 0 fun p =>
     { p with period := some { (default : Period) with first := 10000, last := 10000, m := 1 } }, 0, _, _, _, rfl, rfl, rfl, rfl,
     by decide +kernel⟩,
   ⟨(under { viewPlan view64 with pool := [{ (default : PoolE) with present := true, period := 10, frontBins := 64 }] } (atView (fun v =>
     { v with poolQ := [spec] }) up)).modPool 0 fun p =>
     { p with period := some { (default : Period) with first := 10000, last := 10009, m := 1 }, bins := [{ (default : PoolBin) with s1 := 4, s2 := 8 }, default] },
     0, _, _, _, rfl, rfl, rfl, rfl, by decide +kernel⟩,
   ⟨(under { viewPlan view64 with pool := [{ (default : PoolE) with present := true, period := 10, exclude := 1 }] } (atView (fun v =>
     { v with poolQ := [{ spec with sat := some 3 }] }) up)).modPool 0 fun p =>
     { p with period := some { (default : Period) with first := 10000, last := 10000, m := 1 } }, 0, _, _, rfl, rfl, by decide +kernel⟩,
   ⟨(under { viewPlan view64 with pool := [{ (default : PoolE) with present := true, period := 10 }], streams := [{ lineE with declared := 1000000000 }] }
     up).modPool 0 fun p => { p with period := some { (default : Period) with first := 9980, last := 9989, m := 1 } }, 0, _, _, rfl, rfl,
     rfl, by decide +kernel⟩,
   ⟨(under { viewPlan view64 with pool := [{ (default : PoolE) with present := true, period := 10 }] } (atView (fun v =>
     { v with poolQ := [spec] }) up)).modPool 0 fun p => { p with closedTo := some 10000 }, 0, by decide +kernel⟩,
   ⟨(under { viewPlan view64 with pool := [{ (default : PoolE) with present := true, period := 10 }] } (atStream (fun t =>
     { t with checkedTo := 63 }) up)).modPool 0 fun p =>
     { p with closed := [({ (default : Period) with first := 9980, last := 9989, m := 1, taken := [{ (default : Taken) with hi := 63 }] }, [])] },
     0, _, _, _, rfl, by decide +kernel⟩,
   ⟨(under { viewPlan view64 with pool := [{ (default : PoolE) with present := true, period := 10 }] } (atStream (fun t =>
     { t with checkedTo := 64 }) up)).modPool 0 fun p =>
     { p with late := 2, closed := [({ (default : Period) with first := 9980, last := 9989, m := 1, taken := [{ (default : Taken) with hi := 63 }] }, [])] },
     0, _, _, _, rfl, by decide +kernel⟩⟩

theorem witness_KurtosisCorners :
    (∃ (m : Nat), m < 2) ∧
    (∃ (b : PoolBin), b.s1 = 0) ∧
    (∃ (m : Nat) (b : PoolBin), 2 ≤ m ∧ m * b.s2.toNat = b.s1.toNat * b.s1.toNat ∧ b.s1 ≠ 0) :=
  ⟨⟨0, by decide +kernel⟩,
   ⟨{ s1 := 0#48, s2 := 0#48, occ := 0#31, tag := false }, by decide +kernel⟩,
   ⟨2, { s1 := 4#48, s2 := 8#48, occ := 0#31, tag := false }, by decide +kernel⟩⟩

theorem witness_DensityIncrements :
    (∃ (s : State) (v : Fin 64), ((s.view v).calQ = [] ∨ dclk s = false)) ∧
    (∃ (s : State) (v : Fin 64) (x : Spectrum) (rest : List Spectrum), (s.view v).calQ = x :: rest ∧
      ((planIn s x.bank).view v.val).plane = none ∧ dclk s = true) ∧
    (∃ (s : State) (v : Fin 64) (x : Spectrum) (rest : List Spectrum) (p : Fin 2), (s.view v).calQ = x :: rest ∧
      ((planIn s x.bank).view v.val).plane = some p ∧ planeFirst s p x = false ∧ dclk s = true) ∧
    (∃ (s : State) (v : Fin 64) (x : Spectrum) (rest : List Spectrum) (p : Fin 2), (s.view v).calQ = x :: rest ∧
      ((planIn s x.bank).view v.val).plane = some p ∧ planeFirst s p x = true ∧
      x.excludedBy ((planIn s x.bank).view v.val).calExclude = true ∧ dclk s = true) ∧
    (∃ (s : State) (v : Fin 64) (x : Spectrum) (rest : List Spectrum) (p : Fin 2), (s.view v).calQ = x :: rest ∧
      ((planIn s x.bank).view v.val).plane = some p ∧ planeFirst s p x = true ∧
      x.excludedBy ((planIn s x.bank).view v.val).calExclude = false ∧ dclk s = true) ∧
    (∃ (s : State) (p : Fin 2), ((planeRt s p).queue = [] ∨ dclk s = false)) ∧
    (∃ (s : State) (p : Fin 2) (col : Nat) (row : Nat) (rest : List (Nat × Nat)), (planeRt s p).queue = (col, row) :: rest ∧
      dclk s = true ∧ col < 4096 ∧ List.Pairwise (fun a b => a.fst < b.fst) (planeRt s p).cells) :=
  ⟨⟨onPlane (atView (fun v => { v with calQ := [spec] }) up), 1, by decide +kernel⟩,
   ⟨under (viewPlan view64) (atView (fun v => { v with calQ := [spec] }) up), 0, _, _, rfl, rfl, by decide +kernel⟩,
   ⟨(under { viewPlan view64 with views := [{ view64 with caldera := 1 }, { view64 with caldera := 1 }], caldera := [planeE] } (atView
     (fun v => { v with calQ := [spec] }) up)).modView 1 fun v => { v with calQ := [{ spec with order := 3 }] }, 1, _, _, _, rfl, rfl,
     rfl, by decide +kernel⟩,
   ⟨under { viewPlan { view64 with caldera := 1, calExclude := 1 } with caldera := [planeE] } (atView (fun v =>
     { v with calQ := [{ spec with sat := some 3 }] }) up), 0, _, _, _, rfl, rfl, rfl, rfl, by decide +kernel⟩,
   ⟨onPlane (atView (fun v => { v with calQ := [spec] }) up), 0, _, _, _, rfl, rfl, rfl, rfl, by decide +kernel⟩,
   ⟨onPlane (atView (fun v => { v with calQ := [spec] }) up), 0, by decide +kernel⟩,
   ⟨atPlane (fun p => { p with queue := [(4095, 1), (3, 3)], cells := [(5, 1), (8191, 65535)] }) (onPlane up), 0, _, _, _, rfl,
     by decide +kernel⟩⟩

theorem witness_RenderTicks :
    (∃ (s : State) (p : Fin 2), nextTick s p = none) ∧
    (∃ (s : State) (p : Fin 2) (tick : Nat), nextTick s p = some tick ∧ (now s < tick ∨ tick + 20 * Config.usUnits < now s)) ∧
    (∃ (s : State) (p : Fin 2) (tick : Nat), nextTick s p = some tick ∧ dclk s = true ∧ firmware s = true ∧ tick ≤ now s ∧
      now s ≤ tick + 20 * Config.usUnits ∧ (planeRt s p).flight = none) ∧
    (∃ (s : State) (p : Fin 2) (tick : Nat), nextTick s p = some tick ∧ engines s = true ∧ tick + 20 * Config.usUnits < now s) :=
  ⟨⟨atPlane (fun p => { p with clearPending := true, cells := [(5, 9)] }) (onPlane up), 1, by decide +kernel⟩,
   ⟨atTime (fun t => { t with raw := t.raw + 21000 * Config.nsUnits * 2 ^ 24 }) (onPlane up), 0, _, rfl, by decide +kernel⟩,
   ⟨atPlane (fun p => { p with clearPending := true, cells := [(5, 9)] }) (onPlane up), 0, _, rfl, by decide +kernel⟩,
   ⟨atTime (fun t => { t with raw := t.raw + 21000 * Config.nsUnits * 2 ^ 24 }) (onPlane up), 0, _, rfl, by decide +kernel⟩⟩

theorem witness_FrameRegisters :
    (∃ (s : State) (o : Fin 2) (c : Fin 2) (r : FrameRef), List.find? (fun c => Option.any (fun x => decide (x.fst = o)) (rendering s c))
      (List.finRange 2) = some c ∧ rendering s c = some (o, r) ∧ engines s = true ∧ locked s 3 = true ∧ locked s 5 = true) ∧
    (∃ (s : State) (o : Fin 2) (c : Fin 2) (r : FrameRef), List.find? (fun c => Option.any (fun x => decide (x.fst = o)) (rendering s c))
      (List.finRange 2) = some c ∧ rendering s c = some (o, r) ∧ (locked s 3 = false ∨ locked s 5 = false)) ∧
    (∃ (s : State) (o : Fin 2), (∀ (c : Fin 2) (r : FrameRef), rendering s c ≠ some (o, r))) ∧
    (∃ (s : State) (o : Fin 2), engines s = true ∧ lead s o = o ∧ rasterRuns s o = true ∧ (outRt s o).closed = false ∧
      locked s 5 = true ∧ (∀ (i : Fin 2), (outRt s i).newMode = none)) ∧
    (∃ (s : State) (o : Fin 2) (m : DispMode), (outRt s o).newMode = some m ∧ engines s = true ∧ lead s o = o ∧ rasterRuns s o = true ∧
      (outRt s o).closed = false ∧ locked s 5 = true ∧ (outRt s o).running = true ∧ (outRt s o).stopAtEnd = false) ∧
    (∃ (s : State) (o : Fin 2), (rasterRuns s o = false ∨ (outRt s o).closed = true)) ∧
    (∃ (s : State) (o : Fin 2), engines s = true ∧ lead s o = o ∧ rasterRuns s o = true ∧ (outRt s o).closed = true ∧ locked s 5 = true ∧
      ((members s o).any fun i => (outRt s i).stopAtEnd) = false ∧ (∀ (i : Fin 2), (outRt s i).joins = false)) ∧
    (∃ (s : State) (o : Fin 2), engines s = true ∧ lead s o = o ∧ rasterRuns s o = true ∧ (outRt s o).closed = true ∧ locked s 5 = true ∧
      ((members s o).any fun i => (outRt s i).stopAtEnd) = true) ∧
    (∃ (s : State) (o : Fin 2), (rasterRuns s o = false ∨ (outRt s o).closed = false)) ∧
    (∃ (s : State) (o : Fin 2), engines s = true ∧ (outRt s o).running = true ∧ (outRt s o).abortAt = none ∧
      (outRt s (lead s o)).active.isSome = true) ∧
    (∃ (s : State) (o : Fin 2), ((outRt s o).running = false ∨ (outRt s o).abortAt ≠ none)) :=
  ⟨⟨atPlane (fun p => { p with flight := some (0, { (default : FrameRef) with addr := 0x2000 }) }) (onPlane (onOutput up)), 0, _, _, rfl,
    rfl, by decide +kernel⟩,
   ⟨unlocked 3 (atPlane (fun p => { p with flight := some (0, { (default : FrameRef) with addr := 0x2000 }) }) (onPlane (onOutput up))),
     0, _, _, rfl, rfl, by decide +kernel⟩,
   ⟨atPlane (fun p => { p with roles := vset p.roles 2 .rendering }) (onPlane (onOutput up)), 0,
     fun c r => ne_some_of_isNone (by revert c; decide +kernel) (0, r)⟩,
   ⟨atPlane (fun p => { p with roles := vset p.roles 2 .rendering }) (onPlane (onOutput up)), 0, by decide +kernel⟩,
   ⟨atOutput (fun x => { x with newMode := some mode480 }) (onOutput up), 0, _, rfl, by decide +kernel⟩,
   ⟨atPlane (fun p => { p with roles := vset p.roles 2 .rendering }) (onPlane (onOutput up)), 1, by decide +kernel⟩,
   ⟨atOutput (fun x => { x with closed := true, latch := some { (default : FrameRef) with addr := 0x2000 } }) (onOutput up), 0,
     by decide +kernel⟩,
   ⟨atOutput (fun x => { x with closed := true, stopAtEnd := true }) (onOutput up), 0, by decide +kernel⟩,
   ⟨atPlane (fun p => { p with roles := vset p.roles 2 .rendering }) (onPlane (onOutput up)), 0, by decide +kernel⟩,
   ⟨atOutput (fun x => { x with active := some default }) (onOutput up), 0, by decide +kernel⟩,
   ⟨atPlane (fun p => { p with roles := vset p.roles 2 .rendering }) (onPlane (onOutput up)), 1, by decide +kernel⟩⟩

theorem witness_DisplayLinks :
    (∃ (s : State) (o : Fin 2), firmware s = true ∧ s.dev.state ≠ DevState.fault ∧ (outRt s o).hpd = true) ∧
    (∃ (s : State) (o : Fin 2), firmware s = true ∧ s.dev.state ≠ DevState.fault ∧ (outRt s o).hpd = false) ∧
    (∃ (s : State) (o : Fin 2) (waits : Bool) (m : DispMode), (waits = (changers s o).any fun i => (if Option.any (fun x => x.tiled)
      (outRt s i).newMode = true then [0, 1] else members s i).any fun k => (outRt s k).running) ∧ waits = false ∧
      (outRt s o).newMode = some m ∧ firmware s = true ∧ (outRt s o).state = OutState.modeChange) ∧
    (∃ (s : State) (o : Fin 2) (waits : Bool), (waits = (changers s o).any fun i => (if Option.any (fun x => x.tiled) (outRt s i).newMode
      = true then [0, 1] else members s i).any fun k => (outRt s k).running) ∧ firmware s = true ∧
      ((outRt s o).state ≠ OutState.modeChange ∨ waits = true)) :=
  ⟨⟨onOutput up, 0, by decide +kernel⟩,
   ⟨onOutput up, 1, by decide +kernel⟩,
   ⟨atOutput (fun x => { x with state := .modeChange, newMode := some mode480, running := false }) (onOutput up), 0, _, _, rfl, rfl, rfl,
     by decide +kernel⟩,
   ⟨onOutput up, 0, _, rfl, by decide +kernel⟩⟩

theorem witness_DisplayCommands :
    (∃ (s : State) (c : Cmd) (rest : List Cmd), Ready Instr.displayStart c rest s ∧ 2 ≤ c.u 0 1) ∧
    (∃ (s : State) (c : Cmd) (rest : List Cmd), Ready Instr.displayStop c rest s ∧ 2 ≤ c.u 0 1) ∧
    (∃ (s : State) (c : Cmd) (rest : List Cmd) (edid : List Byte), Ready (Instr.displayEdid edid) c rest s ∧ 2 ≤ c.u 0 1) ∧
    (∃ (s : State) (c : Cmd) (rest : List Cmd), Ready Instr.calderaClear c rest s ∧ 2 ≤ c.u 0 1 ∧ activeBank (taken c rest s) ≠ none) ∧
    (∃ (s : State) (c : Cmd) (rest : List Cmd) (x : Nat), modeBad (taken c rest s) c = some x ∧ Ready Instr.displayMode c rest s) ∧
    (∃ (s : State) (c : Cmd) (rest : List Cmd), Ready Instr.calderaClear c rest s ∧ activeBank (taken c rest s) = none) ∧
    (∃ (s : State) (c : Cmd) (rest : List Cmd) (o : Fin 2), Ready Instr.displayMode c rest s ∧ c.u 0 1 = o.val ∧
      modeBad (taken c rest s) c = none ∧ (rasterRuns (taken c rest s) o || (modeOf c).tiled && rasterRuns (taken c rest s) (1 - o)) =
      true ∧ bit 3 (c.u 2 1) = false) ∧
    (∃ (s : State) (c : Cmd) (rest : List Cmd) (o : Fin 2), Ready Instr.displayMode c rest s ∧ c.u 0 1 = o.val ∧
      modeBad (taken c rest s) c = none ∧ ((rasterRuns (taken c rest s) o || (modeOf c).tiled && rasterRuns (taken c rest s) (1 - o)) =
      false ∨ bit 3 (c.u 2 1) = true) ∧ changing (taken c rest s) o (modeOf c) = true) ∧
    (∃ (s : State) (c : Cmd) (rest : List Cmd) (o : Fin 2), Ready Instr.displayMode c rest s ∧ c.u 0 1 = o.val ∧
      modeBad (taken c rest s) c = none ∧ ((rasterRuns (taken c rest s) o || (modeOf c).tiled && rasterRuns (taken c rest s) (1 - o)) =
      false ∨ bit 3 (c.u 2 1) = true) ∧ changing (taken c rest s) o (modeOf c) = false ∧
      ((boundBanks (taken c rest s)).any fun b => decide (nearCeiling < nearLoad (planIn (taken c rest s) b) (modesWith (taken c rest s)
      (o.val) (modeOf c)) (taken c rest s).params.epochPeriod)) = true) ∧
    (∃ (s : State) (c : Cmd) (rest : List Cmd) (o : Fin 2), Ready Instr.displayMode c rest s ∧ c.u 0 1 = o.val ∧
      modeBad (taken c rest s) c = none ∧ ((rasterRuns (taken c rest s) o || (modeOf c).tiled && rasterRuns (taken c rest s) (1 - o)) =
      false ∨ bit 3 (c.u 2 1) = true) ∧ changing (taken c rest s) o (modeOf c) = false ∧
      ((boundBanks (taken c rest s)).any fun b => decide (nearCeiling < nearLoad (planIn (taken c rest s) b) (modesWith (taken c rest s)
      (o.val) (modeOf c)) (taken c rest s).params.epochPeriod)) = false) ∧
    (∃ (s : State) (c : Cmd) (rest : List Cmd) (o : Fin 2), Ready Instr.displayStart c rest s ∧ c.u 0 1 = o.val ∧
      (outRt (taken c rest s) o).running = true) ∧
    (∃ (s : State) (c : Cmd) (rest : List Cmd) (o : Fin 2), Ready Instr.displayStart c rest s ∧ c.u 0 1 = o.val ∧
      (outRt (taken c rest s) o).running = false ∧ (outRt (taken c rest s) o).hpd = false) ∧
    (∃ (s : State) (c : Cmd) (rest : List Cmd) (o : Fin 2), Ready Instr.displayStart c rest s ∧ c.u 0 1 = o.val ∧
      (outRt (taken c rest s) o).running = false ∧ (outRt (taken c rest s) o).hpd = true ∧ modeNow (taken c rest s) o = none) ∧
    (∃ (s : State) (c : Cmd) (rest : List Cmd) (o : Fin 2) (m : DispMode), modeNow (taken c rest s) o = some m ∧
      carries (outRt (taken c rest s) o) m = true ∧ Ready Instr.displayStart c rest s ∧ c.u 0 1 = o.val ∧
      (outRt (taken c rest s) o).running = false ∧ (outRt (taken c rest s) o).hpd = true) ∧
    (∃ (s : State) (c : Cmd) (rest : List Cmd) (o : Fin 2) (m : DispMode), modeNow (taken c rest s) o = some m ∧
      carries (outRt (taken c rest s) o) m = false ∧ Ready Instr.displayStart c rest s ∧ c.u 0 1 = o.val ∧
      (outRt (taken c rest s) o).running = false ∧ (outRt (taken c rest s) o).hpd = true) ∧
    (∃ (s : State) (c : Cmd) (rest : List Cmd) (o : Fin 2), Ready Instr.displayStop c rest s ∧ c.u 0 1 = o.val ∧
      rasterRuns (taken c rest s) o = true) ∧
    (∃ (s : State) (c : Cmd) (rest : List Cmd) (o : Fin 2), Ready Instr.displayStop c rest s ∧ c.u 0 1 = o.val ∧
      rasterRuns (taken c rest s) o = false) ∧
    (∃ (s : State) (c : Cmd) (rest : List Cmd) (o : Fin 2) (edid : List Byte), Ready (Instr.displayEdid edid) c rest s ∧
      c.u 0 1 = o.val ∧ (outRt (taken c rest s) o).hpd = true) ∧
    (∃ (s : State) (c : Cmd) (rest : List Cmd) (o : Fin 2) (edid : List Byte), Ready (Instr.displayEdid edid) c rest s ∧
      c.u 0 1 = o.val ∧ (outRt (taken c rest s) o).hpd = false) ∧
    (∃ (s : State) (c : Cmd) (rest : List Cmd) (o : Fin 2) (b : Fin 2), activeBank (taken c rest s) = some b ∧
      ((planIn (taken c rest s) b).viewsOf.any fun v => decide (v.snd.plane = some o)) = true ∧ Ready Instr.calderaClear c rest s ∧
      c.u 0 1 = o.val) ∧
    (∃ (s : State) (c : Cmd) (rest : List Cmd) (o : Fin 2) (b : Fin 2), activeBank (taken c rest s) = some b ∧
      ((planIn (taken c rest s) b).viewsOf.any fun v => decide (v.snd.plane = some o)) = false ∧ Ready Instr.calderaClear c rest s ∧
      c.u 0 1 = o.val) :=
  ⟨⟨ask 0x802 (num [(1, 2)]) up, _, [], ready_of_now [] rfl (by decide +kernel), by decide +kernel⟩,
   ⟨ask 0x803 (num [(1, 2)]) up, _, [], ready_of_now [] rfl (by decide +kernel), by decide +kernel⟩,
   ⟨ask 0x804 (num [(1, 255)]) up, _, [], [1#8, 2#8], ready_of_now [1, 2] rfl (by decide +kernel), by decide +kernel⟩,
   ⟨ask 0x805 (num [(1, 2)]) (onPlane up), _, [], ready_of_now [] rfl (by decide +kernel), by decide +kernel⟩,
   ⟨ask 0x801 (num [(1, 0), (1, 9)] ++ (modeReq 0).drop 2) up, _, [], _, rfl, ready_of_now [] rfl (by decide +kernel)⟩,
   ⟨ask 0x805 (num [(1, 0)]) up, _, [], ready_of_now [] rfl (by decide +kernel), by decide +kernel⟩,
   ⟨ask 0x801 (modeReq 0) (onOutput up), _, [], 0, ready_of_now [] rfl (by decide +kernel), by decide +kernel⟩,
   ⟨ask 0x801 (modeReq 8) (atOutput (fun x => { x with newMode := some mode480 }) (onOutput up)), _, [], 0,
     ready_of_now [] rfl (by decide +kernel), by decide +kernel⟩,
   ⟨ask 0x801 (modeReq 0) (under { (default : Plan) with sched := [{ (default : SchedE) with count := 10 ^ 12 }] } up), _, [], 0,
     ready_of_now [] rfl (by decide +kernel), by decide +kernel⟩,
   ⟨ask 0x801 (modeReq 0) up, _, [], 0, ready_of_now [] rfl (by decide +kernel), by decide +kernel⟩,
   ⟨ask 0x802 (num [(1, 0)]) (onOutput up), _, [], 0, ready_of_now [] rfl (by decide +kernel), by decide +kernel⟩,
   ⟨ask 0x802 (num [(1, 1)]) up, _, [], 1, ready_of_now [] rfl (by decide +kernel), by decide +kernel⟩,
   ⟨ask 0x802 (num [(1, 0)]) (atOutput (fun x => { x with hpd := true }) up), _, [], 0, ready_of_now [] rfl (by decide +kernel),
     by decide +kernel⟩,
   ⟨ask 0x802 (num [(1, 0)]) (atOutput (fun x => { x with running := false }) (onOutput up)), _, [], 0, _, rfl, rfl,
     ready_of_now [] rfl (by decide +kernel), by decide +kernel⟩,
   ⟨ask 0x802 (num [(1, 0)]) (atOutput (fun x =>
     { x with running := false, lanes := 1, mode := some { mode480 with pclkKhz := 594000 } }) (onOutput up)), _, [], 0, _, rfl, rfl,
     ready_of_now [] rfl (by decide +kernel), by decide +kernel⟩,
   ⟨ask 0x803 (num [(1, 0)]) (onOutput up), _, [], 0, ready_of_now [] rfl (by decide +kernel), by decide +kernel⟩,
   ⟨ask 0x803 (num [(1, 0)]) up, _, [], 0, ready_of_now [] rfl (by decide +kernel), by decide +kernel⟩,
   ⟨ask 0x804 (num [(1, 0)]) (onOutput up), _, [], 0, [1#8, 2#8], ready_of_now [1, 2] rfl (by decide +kernel), by decide +kernel⟩,
   ⟨ask 0x804 (num [(1, 0)]) up, _, [], 0, [1#8, 2#8], ready_of_now [1, 2] rfl (by decide +kernel), by decide +kernel⟩,
   ⟨ask 0x805 (num [(1, 0)]) (onPlane up), _, [], 0, _, rfl, rfl, ready_of_now [] rfl (by decide +kernel), by decide +kernel⟩,
   ⟨ask 0x805 (num [(1, 1)]) (onPlane up), _, [], 1, _, rfl, rfl, ready_of_now [] rfl (by decide +kernel), by decide +kernel⟩⟩

theorem witness_SequencerInstructions :
    (∃ (s : State) (q : Fin 16), runs s q 2 = true ∧ bit 7 (instrNow s q) = true) ∧
    (∃ (s : State) (q : Fin 16), runs s q 2 = true ∧ bit 7 (instrNow s q) = false ∧
      (satAdd (vget (s.seqr q).counters (iUnit (instrNow s q))) 1).toNat < bits 39 8 (instrNow s q)) ∧
    (∃ (s : State) (q : Fin 16), runs s q 2 = true ∧ bit 7 (instrNow s q) = false ∧
      bits 39 8 (instrNow s q) ≤ (satAdd (vget (s.seqr q).counters (iUnit (instrNow s q))) 1).toNat) ∧
    (∃ (s : State) (q : Fin 16), runs s q 2 = false) ∧
    (∃ (s : State) (q : Fin 16), runs s q 4 = true) ∧
    (∃ (s : State) (q : Fin 16), runs s q 4 = false) ∧
    (∃ (s : State) (q : Fin 16), runs s q 3 = true) ∧
    (∃ (s : State) (q : Fin 16), runs s q 3 = false) ∧
    (∃ (s : State) (q : Fin 16), runs s q 7 = true) ∧
    (∃ (s : State) (q : Fin 16), runs s q 7 = false) ∧
    (∃ (s : State) (q : Fin 16), runs s q 8 = true ∧ (bit 4 (instrNow s q) = false ∨ (s.seqr q).bank = none)) ∧
    (∃ (s : State) (q : Fin 16) (b : Fin 2), (s.seqr q).bank = some b ∧ runs s q 8 = true ∧ bit 4 (instrNow s q) = true) ∧
    (∃ (s : State) (q : Fin 16), runs s q 8 = false) ∧
    (∃ (s : State) (q : Fin 16), runs s q 0 = true ∧ (s.seqr q).switchAt = none) ∧
    (∃ (s : State) (q : Fin 16) (k : Nat) (b : Fin 2), (s.seqr q).switchAt = some (k, b) ∧ runs s q 0 = true) ∧
    (∃ (s : State) (q : Fin 16), runs s q 0 = false) :=
  ⟨⟨onSeq (progE (2 + 128)) up, 0, by decide +kernel⟩,
   ⟨onSeq (progE (2 + 5 * 256)) up, 0, by decide +kernel⟩,
   ⟨onSeq (progE (2 + 1 * 256 + 2 ^ 40)) up, 0, by decide +kernel⟩,
   ⟨onSeq (progE (2 + 128)) up, 1, by decide +kernel⟩,
   ⟨onSeq (progE (4 + 16)) up, 0, by decide +kernel⟩,
   ⟨onSeq (progE (2 + 128)) up, 0, by decide +kernel⟩,
   ⟨onSeq (progE (3 + 5 * 2 ^ 16)) up, 0, by decide +kernel⟩,
   ⟨onSeq (progE (2 + 128)) up, 0, by decide +kernel⟩,
   ⟨onSeq (progE (7 + 16 + 4096)) up, 0, by decide +kernel⟩,
   ⟨onSeq (progE (2 + 128)) up, 0, by decide +kernel⟩,
   ⟨onSeq (progE 8) up, 0, by decide +kernel⟩,
   ⟨onSeq (progE (8 + 16)) up, 0, _, rfl, by decide +kernel⟩,
   ⟨onSeq (progE (2 + 128)) up, 0, by decide +kernel⟩,
   ⟨onSeq (progE 0) up, 0, by decide +kernel⟩,
   ⟨atSeq (fun r => { r with switchAt := some (10000, 0) }) (onSeq (progE 0) up), 0, _, _, rfl, by decide +kernel⟩,
   ⟨onSeq (progE (2 + 128)) up, 0, by decide +kernel⟩⟩

theorem witness_TimersAndRelease :
    (∃ (s : State), dclk s = false) ∧
    (∃ (s : State) (q : Fin 16) (n : Fin 8), vget (s.seqr q).timers n = none) ∧
    (∃ (s : State) (q : Fin 16) (n : Fin 8) (tm : TimerRt), vget (s.seqr q).timers n = some tm ∧ timerExpiry s q tm = none) ∧
    (∃ (s : State) (q : Fin 16) (n : Fin 8) (tm : TimerRt) (e : Event), vget (s.seqr q).timers n = some tm ∧
      timerExpiry s q tm = some e ∧ dclk s = true) ∧
    (∃ (s : State) (q : Fin 16) (e : Event), firstEvent (s.seqr q).queue = some e ∧ dclk s = true ∧ (s.seqr q).switchAt = none ∧
      e.time + (progOf s q).alignUs * Config.usUnits ≤ now s) ∧
    (∃ (s : State) (q : Fin 16) (e : Event), firstEvent (s.seqr q).queue = some e ∧ dclk s = true ∧ (s.seqr q).switchAt = none ∧
      now s < e.time + (progOf s q).alignUs * Config.usUnits) ∧
    (∃ (s : State) (q : Fin 16), (s.seqr q).switchAt = none ∧ (s.seqr q).queue = []) ∧
    (∃ (s : State) (q : Fin 16) (k : Nat) (b : Fin 2), (s.seqr q).switchAt = some (k, b) ∧ switchDue s q k = true ∧ dclk s = true ∧
      (s.seqr q).queue = []) :=
  ⟨⟨State.reset, by decide +kernel⟩,
   ⟨atSeq (fun r => { r with timers := vset r.timers 0 (some (.at 5)) }) (onSeq (progE (1 + 337 * 128)) up), 0, 1, by decide +kernel⟩,
   ⟨atSeq (fun r => { r with timers := vset r.timers 0 (some (.at (11 * Config.secUnits))) }) (onSeq (progE (1 + 337 * 128)) up), 0, 0,
     _, rfl, rfl⟩,
   ⟨atSeq (fun r => { r with timers := vset r.timers 0 (some (.at 5)) }) (onSeq (progE (1 + 337 * 128)) up), 0, 0, _, _, rfl, rfl,
     by decide +kernel⟩,
   ⟨atSeq (fun r => { r with queue := [{ cond := 5, time := 9, anchor := none }, { cond := 4, time := 9, anchor := none }] }) (onSeq
     (progE (1 + 5 * 128)) up), 0, _, rfl, by decide +kernel⟩,
   ⟨atSeq (fun r => { r with queue := [{ cond := 5, time := 11 * Config.secUnits, anchor := none }] }) (onSeq (progE (1 + 5 * 128)) up),
     0, _, rfl, by decide +kernel⟩,
   ⟨atSeq (fun r => { r with timers := vset r.timers 0 (some (.at 5)) }) (onSeq (progE (1 + 337 * 128)) up), 0, by decide +kernel⟩,
   ⟨atSeq (fun r => { r with run := .halted, switchAt := some (9000, 1) }) (onSeq (progE 6) up), 0, _, _, rfl, rfl, by decide +kernel⟩⟩

theorem witness_WaitTakesEvents :
    (∃ (s : State) (q : Fin 16), (dclk s = false ∨ iOp (instrNow s q) ≠ 1 ∨ (s.seqr q).run ≠ SeqRun.executing ∧
      (s.seqr q).run ≠ SeqRun.waiting)) ∧
    (∃ (s : State) (q : Fin 16), dclk s = true ∧ iOp (instrNow s q) = 1 ∧
      ((s.seqr q).run = SeqRun.executing ∨ (s.seqr q).run = SeqRun.waiting) ∧ (s.seqr q).switchAt = none ∧ (∀ (n : Fin 8) (tm : TimerRt),
      vget (s.seqr q).timers n = some tm → timerExpiry s q tm = none) ∧ (∀ (e : Event), e ∈ (s.seqr q).queue →
      now s < e.time + (progOf s q).alignUs * Config.usUnits) ∧ (s.seqr q).released = []) ∧
    (∃ (s : State) (q : Fin 16) (t : Taking) (rest : List Taking), (s.seqr q).released = t :: rest ∧
      (waitTerms (instrNow s q)).contains t.event.cond = true ∧ dclk s = true ∧ iOp (instrNow s q) = 1 ∧
      ((s.seqr q).run = SeqRun.executing ∨ (s.seqr q).run = SeqRun.waiting) ∧ (s.seqr q).switchAt = none ∧ (∀ (n : Fin 8) (tm : TimerRt),
      vget (s.seqr q).timers n = some tm → timerExpiry s q tm = none) ∧ (∀ (e : Event), e ∈ (s.seqr q).queue →
      now s < e.time + (progOf s q).alignUs * Config.usUnits) ∧ bit 4 (instrNow s q) = false) ∧
    (∃ (s : State) (q : Fin 16) (t : Taking) (rest : List Taking), (s.seqr q).released = t :: rest ∧
      (waitTerms (instrNow s q)).contains t.event.cond = true ∧ (((List.range (waitTerms (instrNow s q)).length).all fun i => (keepTerms
      (instrNow s q) (if (s.seqr q).run = SeqRun.executing then [] else (s.seqr q).terms) t).any fun x => decide (x.fst = i)) = true) ∧
      dclk s = true ∧ iOp (instrNow s q) = 1 ∧ ((s.seqr q).run = SeqRun.executing ∨ (s.seqr q).run = SeqRun.waiting) ∧
      (s.seqr q).switchAt = none ∧ (∀ (n : Fin 8) (tm : TimerRt), vget (s.seqr q).timers n = some tm → timerExpiry s q tm = none) ∧
      (∀ (e : Event), e ∈ (s.seqr q).queue → now s < e.time + (progOf s q).alignUs * Config.usUnits) ∧ bit 4 (instrNow s q) = true) ∧
    (∃ (s : State) (q : Fin 16) (t : Taking) (rest : List Taking), (s.seqr q).released = t :: rest ∧
      (waitTerms (instrNow s q)).contains t.event.cond = true ∧ (((List.range (waitTerms (instrNow s q)).length).all fun i => (keepTerms
      (instrNow s q) (if (s.seqr q).run = SeqRun.executing then [] else (s.seqr q).terms) t).any fun x => decide (x.fst = i)) = false) ∧
      rest = [] ∧ dclk s = true ∧ iOp (instrNow s q) = 1 ∧ ((s.seqr q).run = SeqRun.executing ∨ (s.seqr q).run = SeqRun.waiting) ∧
      (s.seqr q).switchAt = none ∧ (∀ (n : Fin 8) (tm : TimerRt), vget (s.seqr q).timers n = some tm → timerExpiry s q tm = none) ∧
      (∀ (e : Event), e ∈ (s.seqr q).queue → now s < e.time + (progOf s q).alignUs * Config.usUnits) ∧ bit 4 (instrNow s q) = true) ∧
    (∃ (s : State) (q : Fin 16) (t : Taking) (rest : List Taking), (s.seqr q).released = t :: rest ∧
      (waitTerms (instrNow s q)).contains t.event.cond = false ∧ waitAbort (instrNow s q) = some t.event.cond ∧ dclk s = true ∧
      iOp (instrNow s q) = 1 ∧ ((s.seqr q).run = SeqRun.executing ∨ (s.seqr q).run = SeqRun.waiting) ∧ (s.seqr q).switchAt = none ∧
      (∀ (n : Fin 8) (tm : TimerRt), vget (s.seqr q).timers n = some tm → timerExpiry s q tm = none) ∧ (∀ (e : Event),
      e ∈ (s.seqr q).queue → now s < e.time + (progOf s q).alignUs * Config.usUnits)) ∧
    (∃ (s : State) (q : Fin 16) (t : Taking) (rest : List Taking), (s.seqr q).released = t :: rest ∧
      (waitTerms (instrNow s q)).contains t.event.cond = false ∧ rest = [] ∧ dclk s = true ∧ iOp (instrNow s q) = 1 ∧
      ((s.seqr q).run = SeqRun.executing ∨ (s.seqr q).run = SeqRun.waiting) ∧ (s.seqr q).switchAt = none ∧ (∀ (n : Fin 8) (tm : TimerRt),
      vget (s.seqr q).timers n = some tm → timerExpiry s q tm = none) ∧ (∀ (e : Event), e ∈ (s.seqr q).queue →
      now s < e.time + (progOf s q).alignUs * Config.usUnits) ∧ waitAbort (instrNow s q) ≠ some t.event.cond) :=
  ⟨⟨atSeq (fun r => { r with released := [{ event := { cond := 5, time := 9, anchor := none }, late := true }] }) (onSeq (progE (1 + 5 *
    128)) up), 1, by decide +kernel⟩,
   ⟨onSeq (progE (1 + 5 * 128)) up, 0, by decide +kernel⟩,
   ⟨atSeq (fun r => { r with released := [{ event := { cond := 5, time := 9, anchor := none }, late := true }] }) (onSeq (progE (1 + 5 *
     128)) up), 0, _, _, rfl, rfl, by decide +kernel⟩,
   ⟨atSeq (fun r => { r with released := [{ event := { cond := 6, time := 9, anchor := none }, late := false }] }) (onSeq (progE (1 +
     16 + 6 * 128)) up), 0, _, _, rfl, rfl, rfl, by decide +kernel⟩,
   ⟨atSeq (fun r => { r with released := [{ event := { cond := 6, time := 9, anchor := none }, late := false }] }) (onSeq (progE (1 +
     16 + 32 + 6 * 128 + 5 * 2 ^ 16)) up), 0, _, _, rfl, rfl, rfl, rfl, by decide +kernel⟩,
   ⟨atSeq (fun r => { r with released := [{ event := { cond := 6, time := 9, anchor := none }, late := false }] }) (onSeq (progE (1 + 5 *
     128 + 2 ^ 34 + 6 * 2 ^ 35 + 2 ^ 44)) up), 0, _, _, rfl, rfl, rfl, by decide +kernel⟩,
   ⟨atSeq (fun r => { r with released := [{ event := { cond := 6, time := 9, anchor := none }, late := false }] }) (onSeq (progE (1 + 5 *
     128)) up), 0, _, _, rfl, rfl, rfl, by decide +kernel⟩⟩

theorem witness_ArmingRules :
    (∃ (s : State) (q : Fin 16), runs s q 5 = false) ∧
    (∃ (s : State) (q : Fin 16), runs s q 5 = true ∧ (bit 5 (instrNow s q) = false ∨ s.fabric.role = Role.worker)) ∧
    (∃ (s : State) (q : Fin 16), runs s q 5 = true ∧ bit 5 (instrNow s q) = true ∧ s.fabric.role ≠ Role.worker) ∧
    (∃ (s : State) (q : Fin 16), runs s q 6 = true ∧ (progOf s q).requireArm = true ∧
      armedAt (s.seqr q).arms ((s.seqr q).mark.getD (s.seqr q).tt).event.time = false) :=
  ⟨⟨onSeq { progE (5 + 64) with armGroups := 1 } up, 1, by decide +kernel⟩,
   ⟨onSeq { progE (5 + 64) with armGroups := 1 } up, 0, by decide +kernel⟩,
   ⟨atFabric (fun x => { x with role := .manager }) (onSeq { progE (5 + 32 + 64) with armGroups := 1 } up), 0, by decide +kernel⟩,
   ⟨onSeq { progE 6 with requireArm := true } up, 0, by decide +kernel⟩⟩

theorem witness_FireEffects :
    (∃ (s : State) (q : Fin 16), runs s q 6 = false) ∧
    (∃ (s : State) (q : Fin 16), runs s q 6 = true ∧ ((progOf s q).requireArm = false ∨ armedAt (s.seqr q).arms ((s.seqr q).mark.getD
      (s.seqr q).tt).event.time = true) ∧ (insideHoldoff s q ((s.seqr q).mark.getD (s.seqr q).tt).event.time = true ∨ (progOf s
      q).forerunner = true ∧ 4 ≤ (s.seqr q).prov.length)) ∧
    (∃ (s : State) (q : Fin 16) (b : Fin 2), (s.seqr q).bank = some b ∧ runs s q 6 = true ∧
      ((progOf s q).requireArm = false ∨ armedAt (s.seqr q).arms ((s.seqr q).mark.getD (s.seqr q).tt).event.time = true) ∧
      (¬(insideHoldoff s q ((s.seqr q).mark.getD (s.seqr q).tt).event.time = true ∨ (progOf s q).forerunner = true ∧
      4 ≤ (s.seqr q).prov.length))) :=
  ⟨⟨atSeq (fun r => { r with holdoff := { mode := 1, view := 0, duration := 5 }, lastFire := some default }) (onSeq (progE 6) up), 1,
    by decide +kernel⟩,
   ⟨atSeq (fun r => { r with holdoff := { mode := 1, view := 0, duration := 5 }, lastFire := some default }) (onSeq (progE 6) up), 0,
     by decide +kernel⟩,
   ⟨onSeq { progE 6 with oneShot := true } up, 0, _, rfl, by decide +kernel⟩⟩

theorem witness_VerifyDecisions :
    (∃ (s : State) (q : Fin 16), (s.seqr q).prov = []) ∧
    (∃ (s : State) (q : Fin 16) (p : ProvFire) (rest : List ProvFire), (s.seqr q).prov = p :: rest ∧ dclk s = true ∧
      some (some true) ∈ List.map (verResult s q p) (coveringSet s q p)) ∧
    (∃ (s : State) (q : Fin 16) (p : ProvFire) (rest : List ProvFire), (s.seqr q).prov = p :: rest ∧ dclk s = true ∧
      (List.map (verResult s q p) (coveringSet s q p) ≠ [] ∧ ∀ (x : Option (Option Bool)),
      x ∈ List.map (verResult s q p) (coveringSet s q p) → x = some (some false))) ∧
    (∃ (s : State) (q : Fin 16) (p : ProvFire) (rest : List ProvFire), (s.seqr q).prov = p :: rest ∧ dclk s = true ∧
      ¬some (some true) ∈ List.map (verResult s q p) (coveringSet s q p) ∧ (¬(List.map (verResult s q p) (coveringSet s q p) ≠ [] ∧
      ∀ (x : Option (Option Bool)), x ∈ List.map (verResult s q p) (coveringSet s q p) → x = some (some false))) ∧
      boundaryTime s ((eventEpoch s p.event.event).getD 0 + 2) ≤ now s) ∧
    (∃ (s : State) (q : Fin 16) (p : ProvFire) (rest : List ProvFire), (s.seqr q).prov = p :: rest ∧ dclk s = true ∧
      (some (some true) ∈ List.map (verResult s q p) (coveringSet s q p) ∨ (List.map (verResult s q p) (coveringSet s q p) ≠ [] ∧
      ∀ (x : Option (Option Bool)), x ∈ List.map (verResult s q p) (coveringSet s q p) →
      x = some (some false)) ∨ now s < boundaryTime s ((eventEpoch s p.event.event).getD 0 + 2))) :=
  ⟨⟨atSeq (fun r => { r with prov := [provF], history := [{ bank := 0, gen := 0, start := 64, time := 0, result := some true }] }) (onSeq
    { progE 6 with forerunner := true } up), 1, by decide +kernel⟩,
   ⟨atSeq (fun r => { r with prov := [provF], history := [{ bank := 0, gen := 0, start := 64, time := 0, result := some true }] }) (onSeq
     { progE 6 with forerunner := true } up), 0, _, _, rfl, by decide +kernel⟩,
   ⟨atSeq (fun r => { r with prov := [provF], history := [{ bank := 0, gen := 0, start := 64, time := 0, result := some false }] })
     (onSeq { progE 6 with forerunner := true } up), 0, _, _, rfl, by decide +kernel⟩,
   ⟨atSeq (fun r => { r with prov := [provF] }) (onSeq { progE 6 with forerunner := true } up), 0, _, _, rfl, by decide +kernel⟩,
   ⟨atSeq (fun r => { r with prov := [provF], history := [{ bank := 0, gen := 0, start := 64, time := 0, result := some true }] }) (onSeq
     { progE 6 with forerunner := true } up), 0, _, _, rfl, by decide +kernel⟩⟩

theorem witness_GeyserCommands :
    (∃ (s : State) (c : Cmd) (rest : List Cmd) (i : Instr), Ready i c rest s ∧ i ∈ [Instr.geyserStop, Instr.geyserStart,
      Instr.geyserTrigger] ∧ activeBank (taken c rest s) = none) ∧
    (∃ (s : State) (c : Cmd) (rest : List Cmd) (i : Instr), Ready i c rest s ∧ activeBank (taken c rest s) ≠ none ∧
      i ∈ [Instr.geyserStop, Instr.geyserStart] ∧ (∀ (q : Fin 16), c.u 0 1 = q.val →
      ((planNow (taken c rest s)).seqOf q.val).present = false)) ∧
    (∃ (s : State) (c : Cmd) (rest : List Cmd), Ready Instr.geyserTrigger c rest s ∧ activeBank (taken c rest s) ≠ none ∧ 15 < c.u 0 1) ∧
    (∃ (s : State) (c : Cmd) (rest : List Cmd), Ready Instr.geyserTrigger c rest s ∧ activeBank (taken c rest s) ≠ none ∧ c.u 0 1 ≤ 15) ∧
    (∃ (s : State) (c : Cmd) (rest : List Cmd) (q : Fin 16), Ready Instr.geyserStop c rest s ∧ activeBank (taken c rest s) ≠ none ∧
      c.u 0 1 = q.val ∧ ((planNow (taken c rest s)).seqOf q.val).present = true ∧
      (((taken c rest s).seqr q).run = SeqRun.waiting ∨ ((taken c rest s).seqr q).run = SeqRun.executing)) ∧
    (∃ (s : State) (c : Cmd) (rest : List Cmd) (q : Fin 16), Ready Instr.geyserStop c rest s ∧ activeBank (taken c rest s) ≠ none ∧
      c.u 0 1 = q.val ∧ ((planNow (taken c rest s)).seqOf q.val).present = true ∧
      (¬(((taken c rest s).seqr q).run = SeqRun.waiting ∨ ((taken c rest s).seqr q).run = SeqRun.executing))) ∧
    (∃ (s : State) (c : Cmd) (rest : List Cmd) (q : Fin 16), Ready Instr.geyserStart c rest s ∧ activeBank (taken c rest s) ≠ none ∧
      c.u 0 1 = q.val ∧ ((planNow (taken c rest s)).seqOf q.val).present = true ∧
      (((taken c rest s).seqr q).run = SeqRun.waiting ∨ ((taken c rest s).seqr q).run = SeqRun.executing)) ∧
    (∃ (s : State) (c : Cmd) (rest : List Cmd) (q : Fin 16) (n : Fin 2), bankNow (taken c rest s) = some n ∧
      Ready Instr.geyserStart c rest s ∧ activeBank (taken c rest s) ≠ none ∧ c.u 0 1 = q.val ∧
      ((planNow (taken c rest s)).seqOf q.val).present = true ∧ (¬(((taken c rest s).seqr q).run = SeqRun.waiting ∨ ((taken c rest
      s).seqr q).run = SeqRun.executing))) :=
  ⟨⟨ask 0x601 (num [(1, 0)]) up, _, [], Instr.geyserStop, ready_of_now [] rfl (by decide +kernel), by decide +kernel⟩,
   ⟨ask 0x602 (num [(1, 3)]) (onSeq (progE 6) up), _, [], Instr.geyserStart, ready_of_now [] rfl (by decide +kernel), by decide +kernel⟩,
   ⟨ask 0x603 (num [(1, 16)]) (onSeq (progE 6) up), _, [], ready_of_now [] rfl (by decide +kernel), by decide +kernel⟩,
   ⟨ask 0x603 (num [(1, 15)]) (onSeq (progE 6) up), _, [], ready_of_now [] rfl (by decide +kernel), by decide +kernel⟩,
   ⟨ask 0x601 (num [(1, 0)]) (onSeq (progE 6) up), _, [], 0, ready_of_now [] rfl (by decide +kernel), by decide +kernel⟩,
   ⟨ask 0x601 (num [(1, 0)]) (atSeq (fun r => { r with run := .halted }) (onSeq (progE 6) up)), _, [], 0,
     ready_of_now [] rfl (by decide +kernel), by decide +kernel⟩,
   ⟨ask 0x602 (num [(1, 0)]) (onSeq (progE 6) up), _, [], 0, ready_of_now [] rfl (by decide +kernel), by decide +kernel⟩,
   ⟨ask 0x602 (num [(1, 0)]) (atSeq (fun r => { r with run := .halted }) (onSeq (progE 6) up)), _, [], 0, _, rfl,
     ready_of_now [] rfl (by decide +kernel), by decide +kernel⟩⟩

theorem witness_BasinWriter :
    (∃ (s : State) (i : Fin 16), (dclk s = false ∨ List.findSome? (fun r => Option.map (fun g => (r,
      g)) (Option.filter (fun g => r.cfg.present && tileFull (s.stream i) r g) (nextTile (s.stream i) r))) (ringsOldest s i) = none)) ∧
    (∃ (s : State) (i : Fin 16) (r : RingRt) (g : Nat), List.findSome? (fun r => Option.map (fun g => (r,
      g)) (Option.filter (fun g => r.cfg.present && tileFull (s.stream i) r g) (nextTile (s.stream i) r))) (ringsOldest s i) = some (r,
      g) ∧ dclk s = true ∧ (s.basinOf i).stop = none ∧ r.skipTo ≤ g ∧ queuedTiles s i < 64) ∧
    (∃ (s : State) (i : Fin 16) (r : RingRt) (g : Nat), List.findSome? (fun r => Option.map (fun g => (r,
      g)) (Option.filter (fun g => r.cfg.present && tileFull (s.stream i) r g) (nextTile (s.stream i) r))) (ringsOldest s i) = some (r,
      g) ∧ dclk s = true ∧ (s.basinOf i).stop = none ∧ r.skipTo ≤ g ∧ 64 ≤ queuedTiles s i) ∧
    (∃ (s : State) (i : Fin 16) (r : RingRt) (g : Nat), List.findSome? (fun r => Option.map (fun g => (r,
      g)) (Option.filter (fun g => r.cfg.present && tileFull (s.stream i) r g) (nextTile (s.stream i) r))) (ringsOldest s i) = some (r,
      g) ∧ dclk s = true ∧ ((s.basinOf i).stop.isSome = true ∨ g < r.skipTo)) ∧
    (∃ (s : State) (i : Fin 16), (dclk s = false ∨ queueHead s i = none)) ∧
    (∃ (s : State) (i : Fin 16) (r : RingRt) (q : QTile), queueHead s i = some (r, q) ∧ dclk s = true ∧
      ¬min ((q.grid + 1) * r.samples) (s.stream i).avail ≤ (s.stream i).checkedTo) ∧
    (∃ (s : State) (i : Fin 16) (r : RingRt) (q : QTile), queueHead s i = some (r, q) ∧ r.positionHeld r.nextSeq = true ∧ dclk s = true ∧
      min ((q.grid + 1) * r.samples) (s.stream i).avail ≤ (s.stream i).checkedTo) ∧
    (∃ (s : State) (i : Fin 16) (r : RingRt) (q : QTile), queueHead s i = some (r, q) ∧ r.positionHeld r.nextSeq = false ∧
      portTakes s i r = false ∧ dclk s = true ∧ min ((q.grid + 1) * r.samples) (s.stream i).avail ≤ (s.stream i).checkedTo) ∧
    (∃ (s : State) (i : Fin 16) (r : RingRt) (q : QTile), queueHead s i = some (r, q) ∧ r.positionHeld r.nextSeq = false ∧
      portTakes s i r = true ∧ dclk s = true ∧ min ((q.grid + 1) * r.samples) (s.stream i).avail ≤ (s.stream i).checkedTo) ∧
    (∃ (s : State) (i : Fin 16), ((s.basinOf i).stop = none ∨ s.plans.epoch = none)) ∧
    (∃ (s : State) (i : Fin 16) (info : StopInfo) (k : Nat), (s.basinOf i).stop = some info ∧ s.plans.epoch = some k ∧
      boundaryIndex s i k = none) ∧
    (∃ (s : State) (i : Fin 16) (info : StopInfo) (k : Nat) (b : Nat), (s.basinOf i).stop = some info ∧ s.plans.epoch = some k ∧
      boundaryIndex s i k = some b ∧ (¬(dclk s = true ∧ (s.basinOf i).ring.nextGrid ≤ ceilDiv b (s.basinOf i).ring.samples ∧
      (s.basinOf i).ring.positionHeld (s.basinOf i).ring.nextSeq = false))) ∧
    (∃ (s : State) (i : Fin 16) (info : StopInfo) (k : Nat) (b : Nat), (s.basinOf i).stop = some info ∧ s.plans.epoch = some k ∧
      boundaryIndex s i k = some b ∧ (dclk s = true ∧ (s.basinOf i).ring.nextGrid ≤ ceilDiv b (s.basinOf i).ring.samples ∧
      (s.basinOf i).ring.positionHeld (s.basinOf i).ring.nextSeq = false)) :=
  ⟨⟨atStream (fun t => { t with last := some 1007, segs := [{ start := 0, data := [{ i := 1, q := 2 }] }] }) (onRing up), 1,
    by decide +kernel⟩,
   ⟨atStream (fun t => { t with last := some 1007, segs := [{ start := 0, data := [{ i := 1, q := 2 }] }] }) (onRing up), 0, _, _, rfl,
     by decide +kernel⟩,
   ⟨atRing (fun r => { r with queue := List.replicate 64 { grid := 3, payload := [], delivered := 1 } }) (atStream (fun t =>
     { t with last := some 1007, segs := [{ start := 0, data := [{ i := 1, q := 2 }] }] }) (onRing up)), 0, _, _, rfl, by decide +kernel⟩,
   ⟨atBasin (fun b => { b with stop := some { reason := 1, first := 0, discarded := 0 } }) (atStream (fun t =>
     { t with last := some 1007, segs := [{ start := 0, data := [{ i := 1, q := 2 }] }] }) (onRing up)), 0, _, _, rfl, by decide +kernel⟩,
   ⟨atStream (fun t => { t with last := some 1007, segs := [{ start := 0, data := [{ i := 1, q := 2 }] }] }) (onRing up), 0,
     by decide +kernel⟩,
   ⟨atRing (fun r => { r with queue := List.replicate 64 { grid := 3, payload := [], delivered := 1 } }) (atStream (fun t =>
     { t with last := some 1007, segs := [{ start := 0, data := [{ i := 1, q := 2 }] }] }) (onRing up)), 0, _, _, rfl, by decide +kernel⟩,
   ⟨atRing (fun r => { r with nextSeq := 128, queue := [{ grid := 0, payload := [], delivered := 1 }] }) (withCap capC (atStream (fun t
     => { t with last := some 1007, checkedTo := 1008 }) (onRing up))), 0, _, _, rfl, rfl, by decide +kernel⟩,
   ⟨atPortD (fun d => { d with requests := [{ user := .writer 0, write := true, addr := 4096, len := 4096, data := [], held := 64, issued := 0 }] })
     (atRing (fun r => { r with cfg := { ringE with credits := 64 }, queue := [{ grid := 0, payload := [], delivered := 1 }] }) (atStream
     (fun t => { t with last := some 1007, checkedTo := 1008 }) (onRing up))), 0, _, _, rfl, rfl, rfl, by decide +kernel⟩,
   ⟨atRing (fun r => { r with queue := [{ grid := 0, payload := [], delivered := 1 }] }) (atStream (fun t =>
     { t with last := some 1007, checkedTo := 1008 }) (onRing up)), 0, _, _, rfl, rfl, rfl, by decide +kernel⟩,
   ⟨atStream (fun t => { t with last := some 1007, segs := [{ start := 0, data := [{ i := 1, q := 2 }] }] }) (onRing up), 0,
     by decide +kernel⟩,
   ⟨atPlans (fun p => { p with epoch := some 10000 }) (atBasin (fun b =>
     { b with stop := some { reason := 1, first := 0, discarded := 0 } }) (onRing up)), 0, _, _, rfl, rfl, rfl⟩,
   ⟨atRing (fun r => { r with nextGrid := 9999999 }) (atPlans (fun p => { p with epoch := some 10000 }) ((atBasin (fun b =>
     { b with stop := some { reason := 1, first := 0, discarded := 0 } }) (onRing up)).modBound 0 fun b =>
     { b with hist := [{ (default : EpochRec) with k := 10000, start := 5000 }] })), 0, _, _, _, rfl, rfl, rfl, by decide +kernel⟩,
   ⟨atPlans (fun p => { p with epoch := some 10000 }) ((atBasin (fun b =>
     { b with stop := some { reason := 1, first := 0, discarded := 0 } }) (onRing up)).modBound 0 fun b =>
     { b with hist := [{ (default : EpochRec) with k := 10000, start := 5000 }] }), 0, _, _, _, rfl, rfl, rfl, by decide +kernel⟩⟩

theorem witness_HeaderRewriteKeepsCrc :
    (∃ (s : State) (i : Fin 16) (seq : Nat), (dclk s = false ∨ List.filterMap (fun r => Option.map (fun t => (r,
      t)) (List.find? (fun t => decide (t.seq = seq)) r.tiles)) (ringsOf s i) = [])) ∧
    (∃ (s : State) (i : Fin 16) (seq : Nat) (r : RingRt) (x : TileInfo), dclk s = true ∧
      List.filterMap (fun r => Option.map (fun t => (r, t)) (List.find? (fun t => decide (t.seq = seq)) r.tiles)) (ringsOf s i) = [(r,
      x)] ∧ ((downPort s (cxlPort r.cfg.port)).requests.any fun q => q.write && decide (q.addr = r.tileAddr seq)) = true) ∧
    (∃ (s : State) (i : Fin 16) (seq : Nat) (r : RingRt) (x : TileInfo), dclk s = true ∧
      List.filterMap (fun r => Option.map (fun t => (r, t)) (List.find? (fun t => decide (t.seq = seq)) r.tiles)) (ringsOf s i) = [(r,
      x)] ∧ ((downPort s (cxlPort r.cfg.port)).requests.any fun q => q.write && decide (q.addr = r.tileAddr seq)) = false ∧
      windowHolds s (cxlPort r.cfg.port) (r.tileAddr seq) 4096 = true ∧ x.failed = false ∧ (∀ (d : Fin 8), (vget s.down.cxl d).wf)) ∧
    (∃ (s : State) (i : Fin 16) (seq : Nat) (r : RingRt) (x : TileInfo), dclk s = true ∧
      List.filterMap (fun r => Option.map (fun t => (r, t)) (List.find? (fun t => decide (t.seq = seq)) r.tiles)) (ringsOf s i) = [(r,
      x)] ∧ ((downPort s (cxlPort r.cfg.port)).requests.any fun q => q.write && decide (q.addr = r.tileAddr seq)) = false ∧
      (windowHolds s (cxlPort r.cfg.port) (r.tileAddr seq) 4096 = false ∨ x.failed = true)) :=
  ⟨⟨withCap { capC with provisional := true } (onRing up), 0, 1, by decide +kernel⟩,
   ⟨atPortD (fun d => { d with requests := [{ user := .writer 0, write := true, addr := ((withCap capC (onRing up)).basinOf 0).ring.tileAddr 0, len := 4096, data := [1, 2], held := 64, issued := 0 }] })
     (withCap { capC with provisional := true } (onRing up)), 0, 0, (((atPortD (fun d =>
     { d with requests := [{ user := .writer 0, write := true, addr := ((withCap capC (onRing up)).basinOf 0).ring.tileAddr 0, len := 4096, data := [1, 2], held := 64, issued := 0 }] })
     (withCap { capC with provisional := true } (onRing up))).basinOf 0).ring),
     (((atPortD (fun d => { d with requests := [{ user := .writer 0, write := true, addr := ((withCap capC (onRing up)).basinOf 0).ring.tileAddr 0, len := 4096, data := [1, 2], held := 64, issued := 0 }] })
     (withCap { capC with provisional := true } (onRing up))).basinOf 0).ring.tiles.head (by decide +kernel)), by decide +kernel,
     by decide +kernel, by decide +kernel⟩,
   ⟨withCap { capC with provisional := true } (onRing up), 0, 0, (((withCap { capC with provisional := true } (onRing up)).basinOf
     0).ring), (((withCap { capC with provisional := true } (onRing up)).basinOf 0).ring.tiles.head (by decide +kernel)),
     by decide +kernel, by decide +kernel, by decide +kernel, by decide +kernel, by decide +kernel, by decide +kernel⟩,
   ⟨atPortD (fun d => { d with linkUp := Vector.replicate 4 false }) (withCap { capC with provisional := true } (onRing up)), 0, 0,
     (((atPortD (fun d => { d with linkUp := Vector.replicate 4 false }) (withCap { capC with provisional := true } (onRing up))).basinOf
     0).ring), (((atPortD (fun d => { d with linkUp := Vector.replicate 4 false }) (withCap { capC with provisional := true } (onRing
     up))).basinOf 0).ring.tiles.head (by decide +kernel)), by decide +kernel, by decide +kernel, by decide +kernel, by decide +kernel⟩⟩

theorem witness_CapturesAndEnvelopes :
    (∃ (s : State) (i : Fin 16) (n : Fin 64), (dclk s = false ∨ List.findSome? (fun r => Option.map (fun c => (r,
      c)) (Option.filter (fun c => decide (c.state = CapState.opened) && capPassed s i r c) (vget r.slots n))) (ringsOldest s i) = none))
      ∧
    (∃ (s : State) (i : Fin 16) (n : Fin 64) (r : RingRt) (c : Capture), List.findSome? (fun r => Option.map (fun c => (r,
      c)) (Option.filter (fun c => decide (c.state = CapState.opened) && capPassed s i r c) (vget r.slots n))) (ringsOldest s i) = some
      (r, c) ∧ dclk s = true) ∧
    (∃ (s : State) (i : Fin 16), ((s.basinOf i).ring.cfg.releaseHe.bind fun l => Option.map (fun e => (l,
      e.snd)) (List.find? (fun e => decide (e.fst = (l, Consumer.ring i)) && decide (0 < e.snd)) s.down.crossings)) = none) ∧
    (∃ (s : State) (i : Fin 16) (l : Nat) (k : Nat), ((s.basinOf i).ring.cfg.releaseHe.bind fun l => Option.map (fun e => (l,
      e.snd)) (List.find? (fun e => decide (e.fst = (l, Consumer.ring i)) && decide (0 < e.snd)) s.down.crossings)) = some (l, k + 1)) ∧
    (∃ (s : State) (i : Fin 16), (engines s = false ∨ (s.basinOf i).env = [])) ∧
    (∃ (s : State) (i : Fin 16) (e : Envelope) (rest : List Envelope) (f : Nat), (s.basinOf i).env = e :: rest ∧
      ((if e.begun = true then some e.next else Option.map (max e.next) (firstTile (s.stream i).segs (2 ^ e.k) e.next)) = some f) ∧
      engines s = true ∧ (f + 64 ≤ min (if (s.stream i).map.run = true then (s.stream i).avail / 2 ^ e.k else ceilDiv (s.stream i).avail
      (2 ^ e.k)) ((Option.map (fun b => ceilDiv b (2 ^ e.k)) e.endAt).getD (if (s.stream i).map.run = true then (s.stream i).avail / 2 ^
      e.k else ceilDiv (s.stream i).avail (2 ^ e.k)))) ∧ min ((f + 64) * 2 ^ e.k) (s.stream i).avail ≤ (s.stream i).checkedTo) ∧
    (∃ (s : State) (i : Fin 16) (e : Envelope) (rest : List Envelope) (f : Nat) (c : Nat) (l : Nat), (s.basinOf i).env = e :: rest ∧
      ((if e.begun = true then some e.next else Option.map (max e.next) (firstTile (s.stream i).segs (2 ^ e.k) e.next)) = some f) ∧
      Option.map (fun b => ceilDiv b (2 ^ e.k)) e.endAt = some l ∧ (min (if (s.stream i).map.run = true then (s.stream i).avail / 2 ^ e.k
      else ceilDiv (s.stream i).avail (2 ^ e.k)) ((Option.map (fun b => ceilDiv b (2 ^ e.k)) e.endAt).getD (if (s.stream i).map.run =
      true then (s.stream i).avail / 2 ^ e.k else ceilDiv (s.stream i).avail (2 ^ e.k))) - f = c + 1) ∧ engines s = true ∧
      (min (if (s.stream i).map.run = true then (s.stream i).avail / 2 ^ e.k else ceilDiv (s.stream i).avail (2 ^ e.k)) ((Option.map
      (fun b => ceilDiv b (2 ^ e.k)) e.endAt).getD (if (s.stream i).map.run = true then (s.stream i).avail / 2 ^ e.k else ceilDiv
      (s.stream i).avail (2 ^ e.k))) < f + 64) ∧ (l ≤ if (s.stream i).map.run = true then (s.stream i).avail / 2 ^ e.k else ceilDiv
      (s.stream i).avail (2 ^ e.k)) ∧ min ((f + c + 1) * 2 ^ e.k) (s.stream i).avail ≤ (s.stream i).checkedTo) ∧
    (∃ (s : State) (i : Fin 16) (e : Envelope) (rest : List Envelope) (f : Nat), (s.basinOf i).env = e :: rest ∧
      ((if e.begun = true then some e.next else Option.map (max e.next) (firstTile (s.stream i).segs (2 ^ e.k) e.next)) = some f) ∧
      (Option.all (fun l => decide ((if (s.stream i).map.run = true then (s.stream i).avail / 2 ^ e.k else ceilDiv (s.stream i).avail (2
      ^ e.k)) < l)) (Option.map (fun b => ceilDiv b (2 ^ e.k)) e.endAt) = true) ∧ engines s = true ∧
      (min (if (s.stream i).map.run = true then (s.stream i).avail / 2 ^ e.k else ceilDiv (s.stream i).avail (2 ^ e.k)) ((Option.map
      (fun b => ceilDiv b (2 ^ e.k)) e.endAt).getD (if (s.stream i).map.run = true then (s.stream i).avail / 2 ^ e.k else ceilDiv
      (s.stream i).avail (2 ^ e.k))) < f + 64)) :=
  ⟨⟨atRing (fun r => { r with nextGrid := 1, order := [] }) (withCap { capC with state := .opened } (onRing up)), 0, 1, by decide +kernel⟩,
   ⟨atRing (fun r => { r with nextGrid := 1, order := [] }) (withCap { capC with state := .opened } (onRing up)), 0, 0, _, _, rfl,
     by decide +kernel⟩,
   ⟨atRing (fun r => { r with nextGrid := 1, order := [] }) (withCap { capC with state := .opened } (onRing up)), 0, by decide +kernel⟩,
   ⟨atDown (fun d => { d with crossings := [((9, .ring 0), 1)] }) (onRing up), 0, _, _, rfl⟩,
   ⟨atRing (fun r => { r with nextGrid := 1, order := [] }) (withCap { capC with state := .opened } (onRing up)), 0, by decide +kernel⟩,
   ⟨atBasin (fun b => { b with env := [{ k := 4, next := 0, begun := true, endAt := none }] }) (atStream (fun t =>
     { t with map := lineE, last := some 1023, checkedTo := 1024 }) (onRing up)), 0, _, _, _, rfl, rfl, by decide +kernel⟩,
   ⟨atBasin (fun b => { b with env := [{ k := 4, next := 0, begun := true, endAt := some 160 }] }) (atStream (fun t =>
     { t with map := lineE, last := some 1023, checkedTo := 1024 }) (onRing up)), 0, _, _, _, 9, 10, rfl, rfl, rfl, rfl,
     by decide +kernel⟩,
   ⟨atBasin (fun b => { b with env := [{ k := 4, next := 60, begun := true, endAt := none }] }) (atStream (fun t =>
     { t with map := { lineE with run := true }, last := some 1023, checkedTo := 1024 }) (onRing up)), 0, _, _, _, rfl, rfl, rfl,
     by decide +kernel⟩⟩

theorem witness_CaptureCommands :
    (∃ (s : State) (c : Cmd) (rest : List Cmd), Ready Instr.captureRead c rest s ∧ (¬∃ b,
      ((taken c rest s).bank b).state = BankState.active ∨ ((taken c rest s).bank b).state = BankState.draining)) ∧
    (∃ (s : State) (c : Cmd) (rest : List Cmd), Ready Instr.captureRead c rest s ∧ (∃ b,
      ((taken c rest s).bank b).state = BankState.active ∨ ((taken c rest s).bank b).state = BankState.draining) ∧ 1 < c.u 1 1) ∧
    (∃ (s : State) (c : Cmd) (rest : List Cmd), Ready Instr.captureRead c rest s ∧ (∃ b,
      ((taken c rest s).bank b).state = BankState.active ∨ ((taken c rest s).bank b).state = BankState.draining) ∧ c.u 1 1 ≤ 1 ∧
      15 < c.u 0 1) ∧
    (∃ (s : State) (c : Cmd) (rest : List Cmd), Ready Instr.captureRead c rest s ∧ (∃ b,
      ((taken c rest s).bank b).state = BankState.active ∨ ((taken c rest s).bank b).state = BankState.draining) ∧ c.u 1 1 ≤ 1 ∧
      c.u 0 1 ≤ 15 ∧ namedCap (taken c rest s) (c.u 0 1) (c.u 4 4) = none) ∧
    (∃ (s : State) (c : Cmd) (rest : List Cmd) (p : PortId) (i : Fin 16) (r : RingRt) (x : Capture),
      namedCap (taken c rest s) (c.u 0 1) (c.u 4 4) = some (i, r, x) ∧ Ready Instr.captureRead c rest s ∧ (∃ b,
      ((taken c rest s).bank b).state = BankState.active ∨ ((taken c rest s).bank b).state = BankState.draining) ∧ c.u 1 1 = p.val ∧
      ¬c.u 8 4 + c.u 12 4 ≤ tileBound r x) ∧
    (∃ (s : State) (c : Cmd) (rest : List Cmd) (p : PortId) (i : Fin 16) (r : RingRt) (x : Capture),
      namedCap (taken c rest s) (c.u 0 1) (c.u 4 4) = some (i, r, x) ∧ Ready Instr.captureRead c rest s ∧ (∃ b,
      ((taken c rest s).bank b).state = BankState.active ∨ ((taken c rest s).bank b).state = BankState.draining) ∧ c.u 1 1 = p.val ∧
      c.u 8 4 + c.u 12 4 ≤ tileBound r x ∧ c.u 16 8 % 64 ≠ 0) ∧
    (∃ (s : State) (c : Cmd) (rest : List Cmd) (p : PortId) (i : Fin 16) (r : RingRt) (x : Capture),
      namedCap (taken c rest s) (c.u 0 1) (c.u 4 4) = some (i, r, x) ∧ Ready Instr.captureRead c rest s ∧ (∃ b,
      ((taken c rest s).bank b).state = BankState.active ∨ ((taken c rest s).bank b).state = BankState.draining) ∧ c.u 1 1 = p.val ∧
      c.u 8 4 + c.u 12 4 ≤ tileBound r x ∧ c.u 16 8 % 64 = 0 ∧ (¬(x.state = CapState.opened ∨ x.state = CapState.closed))) ∧
    (∃ (s : State) (c : Cmd) (rest : List Cmd) (p : PortId) (i : Fin 16) (r : RingRt) (x : Capture),
      namedCap (taken c rest s) (c.u 0 1) (c.u 4 4) = some (i, r, x) ∧ Ready Instr.captureRead c rest s ∧ (∃ b,
      ((taken c rest s).bank b).state = BankState.active ∨ ((taken c rest s).bank b).state = BankState.draining) ∧ c.u 1 1 = p.val ∧
      c.u 8 4 + c.u 12 4 ≤ tileBound r x ∧ c.u 16 8 % 64 = 0 ∧ (x.state = CapState.opened ∨ x.state = CapState.closed) ∧
      (r.heldTiles x).length < c.u 8 4 + c.u 12 4) ∧
    (∃ (s : State) (c : Cmd) (rest : List Cmd) (p : PortId) (i : Fin 16) (r : RingRt) (x : Capture),
      namedCap (taken c rest s) (c.u 0 1) (c.u 4 4) = some (i, r, x) ∧ Ready Instr.captureRead c rest s ∧ (∃ b,
      ((taken c rest s).bank b).state = BankState.active ∨ ((taken c rest s).bank b).state = BankState.draining) ∧ c.u 1 1 = p.val ∧
      c.u 8 4 + c.u 12 4 ≤ tileBound r x ∧ c.u 16 8 % 64 = 0 ∧ (x.state = CapState.opened ∨ x.state = CapState.closed) ∧
      c.u 8 4 + c.u 12 4 ≤ (r.heldTiles x).length) ∧
    (∃ (s : State) (c : Cmd) (rest : List Cmd), Ready Instr.captureRelease c rest s ∧
      namedCap (taken c rest s) (c.u 0 1) (c.u 4 4) = none) ∧
    (∃ (s : State) (c : Cmd) (rest : List Cmd) (i : Fin 16) (r : RingRt) (x : Capture),
      namedCap (taken c rest s) (c.u 0 1) (c.u 4 4) = some (i, r, x) ∧ Ready Instr.captureRelease c rest s ∧
      (x.state ≠ CapState.closed ∨ x.provisional = true)) ∧
    (∃ (s : State) (c : Cmd) (rest : List Cmd) (i : Fin 16) (r : RingRt) (x : Capture),
      namedCap (taken c rest s) (c.u 0 1) (c.u 4 4) = some (i, r, x) ∧ x.state = CapState.closed ∧ x.provisional = false ∧
      Ready Instr.captureRelease c rest s) ∧
    (∃ (s : State) (c : Cmd) (rest : List Cmd), Ready Instr.basinRecover c rest s ∧ 1 < c.u 0 1) ∧
    (∃ (s : State) (c : Cmd) (rest : List Cmd) (b : Fin 2), Ready Instr.basinRecover c rest s ∧ c.u 0 1 = b.val ∧
      (anyBankBusy (taken c rest s) = true ∨ ((taken c rest s).bank b).state ≠ BankState.verified)) ∧
    (∃ (s : State) (c : Cmd) (rest : List Cmd) (b : Fin 2), Ready Instr.basinRecover c rest s ∧ c.u 0 1 = b.val ∧
      anyBankBusy (taken c rest s) = false ∧ ((taken c rest s).bank b).state = BankState.verified) ∧
    (∃ (s : State), firmware s = false) ∧
    (∃ (s : State) (i : Fin 16), firmware s = true ∧ (s.host.deferred.any fun d => match d.wait with | Wait.captureRead j captureId hostPort addr job due => decide (j = i) && decide (due ≤ now s) && jobDone (List.foldl (fun u p => pumpPort p u) s (List.finRange 4)) job | x => false) = false) ∧
    (∃ (s : State) (i : Fin 16) (d : Deferred) (id : Nat) (p : PortId) (a : Nat) (job : Nat) (due : Nat) (got : List (Nat × List Byte × Bool)), List.find? (fun d => match d.wait with | Wait.captureRead j captureId hostPort addr job due => decide (j = i) && decide (due ≤ now s) && jobDone (List.foldl (fun u p => pumpPort p u) s (List.finRange 4)) job | x => false) s.host.deferred = some d ∧ d.wait = Wait.captureRead i id p a job due ∧ got = (Option.map (fun x => x.answers) (jobOf (List.foldl (fun u p => pumpPort p u) s (List.finRange 4)) job)).getD [] ∧ firmware s = true) ∧
    (∃ (s : State), (s.plans.recovering = false ∨ firmware s = false)) ∧
    (∃ (s : State), s.plans.recovering = true ∧ firmware s = true ∧ recoveryRead (recoveryStep (List.foldl (fun u p => pumpPort p u) s
      (List.finRange 4))) = false) ∧
    (∃ (s : State), s.plans.recovering = true ∧ firmware s = true ∧ recoveryRead (recoveryStep (List.foldl (fun u p => pumpPort p u) s
      (List.finRange 4))) = true) :=
  ⟨⟨ask 0x701 (num [(1, 0), (1, 0), (2, 0), (4, 5), (4, 0), (4, 1), (8, 64)]) (withCap capC (onRing up)), _, [],
    ready_of_now [] rfl (by decide +kernel), by decide +kernel⟩,
   ⟨ask 0x701 (num [(1, 0), (1, 2), (2, 0), (4, 5), (4, 0), (4, 1), (8, 64)]) (under default (withCap capC (onRing up))), _, [],
     ready_of_now [] rfl (by decide +kernel), by decide +kernel⟩,
   ⟨ask 0x701 (num [(1, 16), (1, 0), (2, 0), (4, 5), (4, 0), (4, 1), (8, 64)]) (under default (withCap capC (onRing up))), _, [],
     ready_of_now [] rfl (by decide +kernel), by decide +kernel⟩,
   ⟨ask 0x701 (num [(1, 0), (1, 0), (2, 0), (4, 6), (4, 0), (4, 1), (8, 64)]) (under default (withCap capC (onRing up))), _, [],
     ready_of_now [] rfl (by decide +kernel), by decide +kernel⟩,
   ⟨ask 0x701 (num [(1, 0), (1, 0), (2, 0), (4, 5), (4, 0), (4, 2), (8, 64)]) (under default (withCap capC (onRing up))), _, [], 0, _, _,
     _, rfl, ready_of_now [] rfl (by decide +kernel), by decide +kernel⟩,
   ⟨ask 0x701 (num [(1, 0), (1, 1), (2, 0), (4, 5), (4, 0), (4, 1), (8, 32)]) (under default (withCap capC (onRing up))), _, [], 1, _, _,
     _, rfl, ready_of_now [] rfl (by decide +kernel), by decide +kernel⟩,
   ⟨ask 0x701 (num [(1, 0), (1, 0), (2, 0), (4, 5), (4, 0), (4, 1), (8,
     64)]) (under default (withCap { capC with state := .released } (onRing up))), _, [], 0, _, _, _, rfl,
     ready_of_now [] rfl (by decide +kernel), by decide +kernel⟩,
   ⟨ask 0x701 (num [(1, 0), (1, 0), (2, 0), (4, 5), (4, 0), (4, 1), (8,
     64)]) (under default (atRing (fun r => { r with tiles := [] }) (withCap { capC with state := .opened } (onRing up)))), _, [], 0, _,
     _, _, rfl, ready_of_now [] rfl (by decide +kernel), by decide +kernel⟩,
   ⟨ask 0x701 (num [(1, 0), (1, 0), (2, 0), (4, 5), (4, 0), (4, 1), (8, 64)]) (under default (withCap capC (onRing up))), _, [], 0, _, _,
     _, rfl, ready_of_now [] rfl (by decide +kernel), by decide +kernel⟩,
   ⟨ask 0x702 (num [(1, 16), (3, 0), (4, 5)]) (withCap capC (onRing up)), _, [], ready_of_now [] rfl (by decide +kernel),
     by decide +kernel⟩,
   ⟨ask 0x702 (num [(1, 0), (3, 0), (4, 5)]) (withCap { capC with provisional := true } (onRing up)), _, [], _, _, _, rfl,
     ready_of_now [] rfl (by decide +kernel), by decide +kernel⟩,
   ⟨ask 0x702 (num [(1, 0), (3, 0), (4, 5)]) (withCap capC (onRing up)), _, [], _, _, _, rfl, rfl, rfl,
     ready_of_now [] rfl (by decide +kernel)⟩,
   ⟨ask 0x703 (num [(1, 2)]) up, _, [], ready_of_now [] rfl (by decide +kernel), by decide +kernel⟩,
   ⟨ask 0x703 (num [(1, 1)]) (banked .verified up), _, [], 1, ready_of_now [] rfl (by decide +kernel), by decide +kernel⟩,
   ⟨ask 0x703 (num [(1, 0)]) (banked .verified up), _, [], 0, ready_of_now [] rfl (by decide +kernel), by decide +kernel⟩,
   ⟨State.reset, by decide +kernel⟩,
   ⟨ask 0x701 (num [(1, 0), (1, 0), (2, 0), (4, 5), (4, 0), (4, 1), (8, 64)]) (under default (withCap capC (onRing up))), 0,
     by decide +kernel⟩,
   ⟨waiting (.captureRead 0 5 0 64 1 0) (withCap capC (onRing
     ({ up with basin := { up.basin with jobs := [{ serial := 1, port := 0, pool := 0, left := [], waiting := 0, got := [(0, [1, 2], false)] }] } }))),
     0, _, _, _, _, _, _, _, rfl, rfl, rfl, by decide +kernel⟩,
   ⟨ask 0x701 (num [(1, 0), (1, 0), (2, 0), (4, 5), (4, 0), (4, 1), (8, 64)]) (under default (withCap capC (onRing up))),
     by decide +kernel⟩,
   ⟨atPlans (fun p => { p with recovering := true })
     { up with basin := { up.basin with recover := some 0, recovery := [{ stream := 0, cfg := ringE, packed := false, descs := 0, tiles := none }], jobs := [{ serial := 0, port := 0, pool := 0, left := [], waiting := 1, got := [] }] } },
     by decide +kernel⟩,
   ⟨atPlans (fun p => { p with recovering := true }) { up with basin := { up.basin with recover := some 0 } }, by decide +kernel⟩⟩

theorem witness_ArchiveCommands :
    (∃ (s : State) (c : Cmd) (rest : List Cmd) (i : Instr), Ready i c rest s ∧ i ∈ [Instr.archiveFormat, Instr.archiveAttach] ∧
      15 < c.u 0 1) ∧
    (∃ (s : State) (c : Cmd) (rest : List Cmd) (i : Instr), Ready i c rest s ∧ i ∈ [Instr.archiveFormat, Instr.archiveAttach] ∧
      c.u 0 1 ≤ 15 ∧ 3 < c.u 1 1) ∧
    (∃ (s : State) (c : Cmd) (rest : List Cmd) (i : Instr), Ready i c rest s ∧ i ∈ [Instr.archiveFormat, Instr.archiveAttach] ∧
      c.u 0 1 ≤ 15 ∧ c.u 1 1 ≤ 3 ∧ 3 < c.u 2 1) ∧
    (∃ (s : State) (c : Cmd) (rest : List Cmd) (a : Fin 16) (p : Fin 4) (sub : Fin 4), Ready Instr.archiveFormat c rest s ∧
      c.u 0 1 = a.val ∧ c.u 1 1 = p.val ∧ c.u 2 1 = sub.val ∧ 1 < c.u 3 1) ∧
    (∃ (s : State) (c : Cmd) (rest : List Cmd) (a : Fin 16) (p : Fin 4) (sub : Fin 4), Ready Instr.archiveFormat c rest s ∧
      c.u 0 1 = a.val ∧ c.u 1 1 = p.val ∧ c.u 2 1 = sub.val ∧ c.u 3 1 ≤ 1 ∧ (¬(attachedElse (taken c rest s) a p sub = false ∧
      driveUsable (taken c rest s) p sub = true))) ∧
    (∃ (s : State) (c : Cmd) (rest : List Cmd) (a : Fin 16) (p : Fin 4) (sub : Fin 4), Ready Instr.archiveFormat c rest s ∧
      c.u 0 1 = a.val ∧ c.u 1 1 = p.val ∧ c.u 2 1 = sub.val ∧ c.u 3 1 ≤ 1 ∧ (attachedElse (taken c rest s) a p sub = false ∧
      driveUsable (taken c rest s) p sub = true) ∧ (¬((vget (taken c rest s).down.drives (driveAt p sub)).lbaSize = 512 ∨ (vget (taken c
      rest s).down.drives (driveAt p sub)).lbaSize = 4096))) ∧
    (∃ (s : State) (c : Cmd) (rest : List Cmd) (a : Fin 16) (p : Fin 4) (sub : Fin 4), Ready Instr.archiveFormat c rest s ∧
      c.u 0 1 = a.val ∧ c.u 1 1 = p.val ∧ c.u 2 1 = sub.val ∧ c.u 3 1 ≤ 1 ∧ (attachedElse (taken c rest s) a p sub = false ∧
      driveUsable (taken c rest s) p sub = true) ∧ ((vget (taken c rest s).down.drives (driveAt p sub)).lbaSize = 512 ∨ (vget (taken c
      rest s).down.drives (driveAt p sub)).lbaSize = 4096) ∧ (vget (taken c rest s).down.drives (driveAt p sub)).data.wf) ∧
    (∃ (s : State) (c : Cmd) (rest : List Cmd) (a : Fin 16) (p : Fin 4) (sub : Fin 4), Ready Instr.archiveAttach c rest s ∧
      c.u 0 1 = a.val ∧ c.u 1 1 = p.val ∧ c.u 2 1 = sub.val ∧ driveUsable (taken c rest s) p sub = false) ∧
    (∃ (s : State) (c : Cmd) (rest : List Cmd) (a : Fin 16) (p : Fin 4) (sub : Fin 4), Ready Instr.archiveAttach c rest s ∧
      c.u 0 1 = a.val ∧ c.u 1 1 = p.val ∧ c.u 2 1 = sub.val ∧ driveUsable (taken c rest s) p sub = true ∧
      (¬((vget (taken c rest s).down.drives (driveAt p sub)).lbaSize = 512 ∨ (vget (taken c rest s).down.drives (driveAt p sub)).lbaSize
      = 4096))) ∧
    (∃ (s : State) (c : Cmd) (rest : List Cmd) (a : Fin 16) (p : Fin 4) (sub : Fin 4), Ready Instr.archiveAttach c rest s ∧
      c.u 0 1 = a.val ∧ c.u 1 1 = p.val ∧ c.u 2 1 = sub.val ∧ driveUsable (taken c rest s) p sub = true ∧
      ((vget (taken c rest s).down.drives (driveAt p sub)).lbaSize = 512 ∨ (vget (taken c rest s).down.drives (driveAt p sub)).lbaSize =
      4096) ∧ govHeader (taken c rest s) (driveAt p sub) = none) ∧
    (∃ (s : State) (c : Cmd) (rest : List Cmd) (a : Fin 16) (p : Fin 4) (sub : Fin 4) (h : List Byte),
      govHeader (taken c rest s) (driveAt p sub) = some h ∧ Ready Instr.archiveAttach c rest s ∧ c.u 0 1 = a.val ∧ c.u 1 1 = p.val ∧
      c.u 2 1 = sub.val ∧ driveUsable (taken c rest s) p sub = true ∧ ((vget (taken c rest s).down.drives (driveAt p sub)).lbaSize = 512
      ∨ (vget (taken c rest s).down.drives (driveAt p sub)).lbaSize = 4096)) ∧
    (∃ (s : State) (c : Cmd) (rest : List Cmd), Ready Instr.archiveDetach c rest s ∧ 15 < c.u 0 1) ∧
    (∃ (s : State) (c : Cmd) (rest : List Cmd) (a : Fin 16), Ready Instr.archiveDetach c rest s ∧ c.u 0 1 = a.val ∧
      (archiveOf (taken c rest s) a).job.isSome = true) ∧
    (∃ (s : State) (c : Cmd) (rest : List Cmd) (a : Fin 16), Ready Instr.archiveDetach c rest s ∧ c.u 0 1 = a.val ∧
      (archiveOf (taken c rest s) a).job = none ∧ (archiveOf (taken c rest s) a).attached = false) ∧
    (∃ (s : State) (c : Cmd) (rest : List Cmd) (a : Fin 16), Ready Instr.archiveDetach c rest s ∧ c.u 0 1 = a.val ∧
      (archiveOf (taken c rest s) a).job = none ∧ (archiveOf (taken c rest s) a).attached = true) :=
  ⟨⟨ask 0x705 (num [(1, 16), (1, 0), (1, 0), (1, 1), (4, 7)]) (pcieUp up), _, [], Instr.archiveFormat,
    ready_of_now [] rfl (by decide +kernel), by decide +kernel⟩,
   ⟨ask 0x705 (num [(1, 0), (1, 4), (1, 0), (1, 1), (4, 7)]) (pcieUp up), _, [], Instr.archiveFormat,
     ready_of_now [] rfl (by decide +kernel), by decide +kernel⟩,
   ⟨ask 0x706 (num [(1, 15), (1, 3), (1, 4)]) (pcieUp up), _, [], Instr.archiveAttach, ready_of_now [] rfl (by decide +kernel),
     by decide +kernel⟩,
   ⟨ask 0x705 (num [(1, 0), (1, 0), (1, 0), (1, 2), (4, 7)]) (pcieUp up), _, [], 0, 0, 0, ready_of_now [] rfl (by decide +kernel),
     by decide +kernel⟩,
   ⟨ask 0x705 (num [(1, 1), (1, 0), (1, 0), (1, 1), (4, 7)]) (onArchive up), _, [], 1, 0, 0, ready_of_now [] rfl (by decide +kernel),
     by decide +kernel⟩,
   ⟨ask 0x705 (num [(1, 0), (1, 0), (1, 0), (1, 1), (4, 7)]) (atDrive (fun d => { d with lbaSize := 4160 }) (pcieUp up)), _, [], 0, 0, 0,
     ready_of_now [] rfl (by decide +kernel), by decide +kernel⟩,
   ⟨ask 0x705 (num [(1, 0), (1, 0), (1, 0), (1, 1), (4, 7)]) (atDrive (fun d => { d with data := [(9000, 5), (70000, 5)] }) (pcieUp up)),
     _, [], 0, 0, 0, ready_of_now [] rfl (by decide +kernel), by decide +kernel⟩,
   ⟨ask 0x706 (num [(1, 0), (1, 0), (1, 0)]) up, _, [], 0, 0, 0, ready_of_now [] rfl (by decide +kernel), by decide +kernel⟩,
   ⟨ask 0x706 (num [(1, 0), (1, 0), (1, 0)]) (atDrive (fun d => { d with lbaSize := 4160 }) (pcieUp up)), _, [], 0, 0, 0,
     ready_of_now [] rfl (by decide +kernel), by decide +kernel⟩,
   ⟨ask 0x706 (num [(1, 0), (1, 0), (1, 0)]) (pcieUp up), _, [], 0, 0, 0, ready_of_now [] rfl (by decide +kernel), by decide +kernel⟩,
   ⟨ask 0x706 (num [(1, 0), (1, 0), (1, 0)]) (writeHeader 0 { ArchiveRt.reset with nsTiles := 17 } (pcieUp up)), _, [], 0, 0, 0, _,
     (Option.some_get (by decide +kernel)).symm, ready_of_now [] rfl (by decide +kernel), by decide +kernel⟩,
   ⟨ask 0x707 (num [(1, 16)]) (onArchive up), _, [], ready_of_now [] rfl (by decide +kernel), by decide +kernel⟩,
   ⟨ask 0x707 (num [(1, 0)]) (atArchive (fun v => { v with job := some job2 }) (onArchive up)), _, [], 0,
     ready_of_now [] rfl (by decide +kernel), by decide +kernel⟩,
   ⟨ask 0x707 (num [(1, 0)]) up, _, [], 0, ready_of_now [] rfl (by decide +kernel), by decide +kernel⟩,
   ⟨ask 0x707 (num [(1, 0)]) (onArchive up), _, [], 0, ready_of_now [] rfl (by decide +kernel), by decide +kernel⟩⟩

theorem witness_ArchiveAppends :
    (∃ (s : State) (a : Fin 16), archiveLink s a = false) ∧
    (∃ (s : State) (a : Fin 16), archiveLink s a = true ∧ (archiveOf s a).job = none ∧
      (handedMove s a = none ∨ (archiveOf s a).placed ≠ [])) ∧
    (∃ (s : State) (a : Fin 16) (c : Fin 32) (m : OpenMove) (x : CapMove), handedMove s a = some (c, m) ∧ m.capture = some x ∧
      archiveLink s a = true ∧ (archiveOf s a).job = none ∧ (archiveOf s a).placed = [] ∧
      ((archiveOf s a).full = false ∨ (archiveOf s a).wrapMode = true) ∧
      (archiveOf s a).append + (x.left.length + 1) ≤ (archiveOf s a).nsTiles) ∧
    (∃ (s : State) (a : Fin 16) (c : Fin 32) (m : OpenMove) (x : CapMove), handedMove s a = some (c, m) ∧ m.capture = some x ∧
      archiveLink s a = true ∧ (archiveOf s a).job = none ∧ (archiveOf s a).placed = [] ∧ (archiveOf s a).wrapMode = true ∧
      (archiveOf s a).nsTiles < (archiveOf s a).append + (x.left.length + 1) ∧ 16 + (x.left.length + 1) ≤ (archiveOf s a).nsTiles) ∧
    (∃ (s : State) (a : Fin 16) (c : Fin 32) (m : OpenMove) (x : CapMove), handedMove s a = some (c, m) ∧ m.capture = some x ∧
      archiveLink s a = true ∧ (archiveOf s a).job = none ∧ (archiveOf s a).placed = [] ∧ (archiveOf s a).full = false ∧
      (archiveOf s a).nsTiles < (archiveOf s a).append + (x.left.length + 1) ∧
      ((archiveOf s a).wrapMode = false ∨ (archiveOf s a).nsTiles < 16 + (x.left.length + 1))) ∧
    (∃ (s : State) (a : Fin 16) (c : Fin 32) (m : OpenMove) (x : CapMove), handedMove s a = some (c, m) ∧ m.capture = some x ∧
      archiveLink s a = true ∧ (archiveOf s a).job = none ∧ (archiveOf s a).placed = [] ∧ (archiveOf s a).full = true ∧
      ((archiveOf s a).wrapMode = false ∨ (archiveOf s a).nsTiles < (archiveOf s a).append + (x.left.length + 1) ∧
      (archiveOf s a).nsTiles < 16 + (x.left.length + 1))) ∧
    (∃ (s : State) (a : Fin 16) (j : Machine.Append), (archiveOf s a).job = some j ∧ archiveLink s a = true ∧
      (feeds s j = false ∨ 1023 ≤ (archiveOf s a).placed.length)) ∧
    (∃ (s : State) (a : Fin 16) (j : Machine.Append), (archiveOf s a).job = some j ∧ feeds s j = true ∧ archiveLink s a = true ∧
      (archiveOf s a).placed.length < 1023 ∧ j.written < j.count) ∧
    (∃ (s : State) (a : Fin 16) (j : Machine.Append), (archiveOf s a).job = some j ∧ feeds s j = true ∧ archiveLink s a = true ∧
      (archiveOf s a).placed.length < 1023 ∧ j.count ≤ j.written ∧ 0 < j.pending) ∧
    (∃ (s : State) (a : Fin 16) (j : Machine.Append), (archiveOf s a).job = some j ∧ feeds s j = true ∧ j.pending = 0 ∧
      j.flushed = false ∧ archiveLink s a = true ∧ (archiveOf s a).placed.length < 1023 ∧ j.count ≤ j.written ∧
      (vget s.down.drives (driveOf s a)).volatileCache = true) ∧
    (∃ (s : State) (a : Fin 16) (j : Machine.Append), (archiveOf s a).job = some j ∧ feeds s j = true ∧ j.pending = 0 ∧
      j.indexed = true ∧ archiveLink s a = true ∧ (archiveOf s a).placed.length < 1023 ∧ j.count ≤ j.written ∧
      ((vget s.down.drives (driveOf s a)).volatileCache = false ∨ j.flushed = true)) ∧
    (∃ (s : State) (a : Fin 16) (j : Machine.Append), (archiveOf s a).job = some j ∧ feeds s j = true ∧ j.pending = 0 ∧
      j.indexed = false ∧ archiveLink s a = true ∧ (archiveOf s a).placed.length < 1023 ∧ j.count ≤ j.written ∧
      ((vget s.down.drives (driveOf s a)).volatileCache = false ∨ j.flushed = true)) ∧
    (∃ (s : State) (a : Fin 16), (archiveOf s a).submitted = []) ∧
    (∃ (s : State) (a : Fin 16) (k : NvmeCmd) (rest : List NvmeCmd), (archiveOf s a).submitted = k :: rest ∧ (¬(archiveLink s a = true ∧
      (k.opcode = 1 → dataFetched s a k = true)))) ∧
    (∃ (s : State) (a : Fin 16) (k : NvmeCmd) (rest : List NvmeCmd), (archiveOf s a).submitted = k :: rest ∧ (archiveLink s a = true ∧
      (k.opcode = 1 → dataFetched s a k = true))) ∧
    (∃ (s : State) (a : Fin 16), List.find? (fun e => decide (e.fst.snd = Consumer.doorbell a) && decide (0 < e.snd)) s.down.crossings =
      none) ∧
    (∃ (s : State) (a : Fin 16), (List.find? (fun e => decide (e.fst.snd = Consumer.doorbell a) && decide (0 < e.snd))
      s.down.crossings).isSome = true) :=
  ⟨⟨atDma (fun d => { d with state := .waiting, reason := .request, moves := [{ moveOf (moveD 8 9 0 0 0) with capture := some { stream := 0, slot := 0, id := 5, left := [0, 1], cut := false } }] })
    (onArchive up), 1, by decide +kernel⟩,
   ⟨atDown (fun d => { d with crossings := [((9, .doorbell 0), 1)] }) (atArchive (fun v =>
     { v with newPlaced := 1, placed := [{ slot := 0, opcode := 1, tile := 16, count := 2 }] }) (onArchive up)), 0, by decide +kernel⟩,
   ⟨atDma (fun d => { d with state := .waiting, reason := .request, moves := [{ moveOf (moveD 8 9 0 0 0) with capture := some { stream := 0, slot := 0, id := 5, left := [0, 1], cut := false } }] })
     (onArchive up), 0, _, _, _, rfl, rfl, by decide +kernel⟩,
   ⟨(atDma (fun d => { d with state := .waiting, reason := .request, moves := [{ moveOf (moveD 8 9 0 0 0) with capture := some { stream := 0, slot := 0, id := 5, left := [0, 1], cut := false } }] })
     (atArchive (fun v => { v with append := 999, wrapMode := true }) (onArchive up))), 0, _, _, _, rfl, rfl, by decide +kernel⟩,
   ⟨(atDma (fun d => { d with state := .waiting, reason := .request, moves := [{ moveOf (moveD 8 9 0 0 0) with capture := some { stream := 0, slot := 0, id := 5, left := [0, 1], cut := false } }] })
     (atArchive (fun v => { v with append := 999, wrapMode := false }) (onArchive up))), 0, _, _, _, rfl, rfl, by decide +kernel⟩,
   ⟨(atDma (fun d => { d with state := .waiting, reason := .request, moves := [{ moveOf (moveD 8 9 0 0 0) with capture := some { stream := 0, slot := 0, id := 5, left := [0, 1], cut := false } }] })
     (atArchive (fun v => { v with append := 999, full := true, wrapMode := false }) (onArchive up))), 0, _, _, _, rfl, rfl,
     by decide +kernel⟩,
   ⟨atArchive (fun v => { v with job := some job2 }) (atDma (fun d => { d with state := .paused }) (onArchive up)), 0, _, rfl,
     by decide +kernel⟩,
   ⟨atArchive (fun v => { v with job := some job2 }) (atDma (fun d => { d with state := .running }) (onArchive up)), 0, _, rfl, rfl,
     by decide +kernel⟩,
   ⟨atArchive (fun v => { v with placed := [{ slot := 0, opcode := 1, tile := 16, count := 2 }], job := some { job2 with written := 2, pending := 1 } })
     (onArchive up), 0, _, rfl, rfl, by decide +kernel⟩,
   ⟨atDrive (fun d => { d with volatileCache := true }) (atArchive (fun v => { v with job := some { job2 with written := 2 } }) (atDma
     (fun d => { d with state := .running }) (onArchive up))), 0, _, rfl, rfl, rfl, rfl, by decide +kernel⟩,
   ⟨atArchive (fun v => { v with job := some { job2 with written := 2, indexed := true, flushed := true } }) (atDma (fun d =>
     { d with state := .running }) (onArchive up)), 0, _, rfl, rfl, rfl, rfl, by decide +kernel⟩,
   ⟨atArchive (fun v => { v with job := some { job2 with written := 2, flushed := true } }) (atDma (fun d =>
     { d with state := .running, moves := [{ moveOf (moveD 8 9 0 0 0) with waiting := 2, capture := some { stream := 0, slot := 0, id := 5, left := [0, 1], cut := false } }] })
     (onArchive up)), 0, _, rfl, rfl, rfl, rfl, by decide +kernel⟩,
   ⟨atDma (fun d => { d with state := .waiting, reason := .request, moves := [{ moveOf (moveD 8 9 0 0 0) with capture := some { stream := 0, slot := 0, id := 5, left := [0, 1], cut := false } }] })
     (onArchive up), 0, by decide +kernel⟩,
   ⟨atArchive (fun v => { v with job := some job2, placed := [{ slot := 0, opcode := 1, tile := 16, count := 2 }] }) (atDma (fun d =>
     { d with state := .running, moves := [{ moveOf (moveD 8 9 0 0 0) with waiting := 2, capture := some { stream := 0, slot := 0, id := 5, left := [0, 1], cut := false } }] })
     (onArchive up)), 0, _, _, rfl, by decide +kernel⟩,
   ⟨atArchive (fun v => { v with placed := [{ slot := 0, opcode := 1, tile := 16, count := 2 }], job := some { job2 with written := 2, pending := 1 } })
     (onArchive up), 0, _, _, rfl, by decide +kernel⟩,
   ⟨atDma (fun d => { d with state := .waiting, reason := .request, moves := [{ moveOf (moveD 8 9 0 0 0) with capture := some { stream := 0, slot := 0, id := 5, left := [0, 1], cut := false } }] })
     (onArchive up), 0, by decide +kernel⟩,
   ⟨atDown (fun d => { d with crossings := [((9, .doorbell 0), 1)] }) (atArchive (fun v =>
     { v with newPlaced := 1, placed := [{ slot := 0, opcode := 1, tile := 16, count := 2 }] }) (onArchive up)), 0, by decide +kernel⟩⟩

theorem witness_CxlTransfers :
    (∃ (s : State) (p : Fin 4), (locked s 4 = false ∨ engines s = false ∨ List.find? (fun r => vget (downPort s p).linkUp (subOf
      (downPort s p) r.addr) && windowHolds s p r.addr r.len) (downPort s p).requests = none)) ∧
    (∃ (s : State) (p : Fin 4) (x : CxlReq), List.find? (fun r => vget (downPort s p).linkUp (subOf (downPort s p) r.addr) && windowHolds
      s p r.addr r.len) (downPort s p).requests = some x ∧ x.write = true ∧ locked s 4 = true ∧ engines s = true ∧ (∀ (e : Fin 8),
      (vget s.down.cxl e).wf)) ∧
    (∃ (s : State) (p : Fin 4) (x : CxlReq) (poison : Option (Fin 64)),
      List.find? (fun r => vget (downPort s p).linkUp (subOf (downPort s p) r.addr) && windowHolds s p r.addr r.len) (downPort s
      p).requests = some x ∧ x.write = false ∧ Option.all (fun k => decide (x.count ≤ k.val)) poison = true ∧ locked s 4 = true ∧
      engines s = true) ∧
    (∃ (s : State) (p : Fin 4) (x : CxlReq) (poison : Option (Fin 64)) (k : Fin 64),
      List.find? (fun r => vget (downPort s p).linkUp (subOf (downPort s p) r.addr) && windowHolds s p r.addr r.len) (downPort s
      p).requests = some x ∧ x.write = false ∧ poison = some k ∧ locked s 4 = true ∧ engines s = true ∧ k.val < x.count) ∧
    (∃ (s : State) (p : Fin 4), (engines s = false ∨ Option.all (fun x => decide (now s < x.issued + 50 * Config.usUnits)) (downPort s
      p).requests.head? = true)) ∧
    (∃ (s : State) (p : Fin 4) (x : CxlReq) (rest : List CxlReq), (downPort s p).requests = x :: rest ∧ engines s = true ∧
      x.issued + 50 * Config.usUnits ≤ now s) :=
  ⟨⟨atPortD (fun d => { d with requests := [{ user := .writer 0, write := true, addr := 4096, len := 64, data := [1, 2], held := 1, issued := 0 }] })
    (cxlUp up), 1, by decide +kernel⟩,
   ⟨atPortD (fun d => { d with requests := [{ user := .writer 0, write := true, addr := 4096, len := 64, data := [1, 2], held := 1, issued := 0 }] })
     (cxlUp up), 0, _, rfl, rfl, by decide +kernel⟩,
   ⟨atPortD (fun d => { d with requests := [{ user := .dma 0 0 1 0 0 none, write := false, addr := 4096, len := 128, data := [], held := 2, issued := 0 }] })
     (cxlUp up), 0, _, none, rfl, rfl, rfl, by decide +kernel⟩,
   ⟨atPortD (fun d => { d with requests := [{ user := .dma 0 0 1 0 0 none, write := false, addr := 4096, len := 128, data := [], held := 2, issued := 0 }] })
     (cxlUp up), 0, _, some 1, _, rfl, rfl, rfl, by decide +kernel⟩,
   ⟨atPortD (fun d => { d with requests := [{ user := .writer 0, write := true, addr := 4096, len := 64, data := [1, 2], held := 1, issued := 0 }] })
     (cxlUp up), 1, by decide +kernel⟩,
   ⟨atPortD (fun d => { d with requests := [{ user := .writer 0, write := true, addr := 4096, len := 65, data := [1, 2], held := 1, issued := 0 }] })
     (cxlUp up), 0, _, _, rfl, by decide +kernel⟩⟩

theorem witness_NearMemoryRules :
    (∃ (s : State) (c : Cmd) (rest : List Cmd), Ready Instr.nearmemPasr c rest s ∧ bit 0 (c.u 0 1) = true) ∧
    (∃ (s : State) (c : Cmd) (rest : List Cmd), Ready Instr.nearmemPasr c rest s ∧ bit 0 (c.u 0 1) = false ∧
      segmentUsed (taken c rest s) (c.u 0 1) = true) ∧
    (∃ (s : State) (c : Cmd) (rest : List Cmd), Ready Instr.nearmemPasr c rest s ∧ bit 0 (c.u 0 1) = false ∧
      segmentUsed (taken c rest s) (c.u 0 1) = false) ∧
    (∃ (s : State), (¬(locked s 3 = true ∧ s.dev.state ≠ DevState.suspended))) ∧
    (∃ (s : State) (port : Nat) (address : U64), (¬((locked s 3 = true ∧ s.dev.state ≠ DevState.suspended) ∧ port < 7 ∧
      BitVec.toNat address / 64 * 64 < nearSize s ∧ bit (BitVec.toNat address / 64 * 64 / 256 % 16) s.down.near.trained.toNat = true))) ∧
    (∃ (s : State) (port : Nat) (address : U64), (locked s 3 = true ∧ s.dev.state ≠ DevState.suspended) ∧ (port < 7 ∧
      BitVec.toNat address / 64 * 64 < nearSize s ∧ bit (BitVec.toNat address / 64 * 64 / 256 % 16) s.down.near.trained.toNat = true)) :=
  ⟨⟨ask 0xE03 (num [(1, 3)]) up, _, [], ready_of_now [] rfl (by decide +kernel), by decide +kernel⟩,
   ⟨ask 0xE03 (num [(1, 2)]) (under { (default : Plan) with allocs := [{ (default : AllocE) with base := 2 ^ 33, bytes := 64 }] } up), _,
     [], ready_of_now [] rfl (by decide +kernel), by decide +kernel⟩,
   ⟨ask 0xE03 (num [(1, 2)]) up, _, [], ready_of_now [] rfl (by decide +kernel), by decide +kernel⟩,
   ⟨unlocked 3 up, by decide +kernel⟩,
   ⟨ask 0xE03 (num [(1, 3)]) up, 0, 0xffffffffffffffff#64, by decide +kernel⟩,
   ⟨ask 0xE03 (num [(1, 3)]) up, 0, 0#64, by decide +kernel⟩⟩

theorem witness_DownstreamLinks :
    (∃ (s : State) (p : Fin 4) (sub : Fin 4), (firmware s = true ∧ awaitsActive (downPort s p) sub = true)) ∧
    (∃ (s : State) (p : Fin 4) (sub : Fin 4) (width : Nat) (rate : Nat) (active : Bool), (¬((firmware s = true ∧
      awaitsActive (downPort s p) sub = true) ∧ active = true)) ∧ (¬(linkCanTrain s p sub = true ∧ cxlMode ↑(downPort s p).mode = true ∧
      trainedOk (downPort s p) width rate = true ∧ 2 ≤ rate))) ∧
    (∃ (s : State) (p : Fin 4) (sub : Fin 4) (width : Nat) (rate : Nat) (active : Bool), (¬((firmware s = true ∧
      awaitsActive (downPort s p) sub = true) ∧ active = true)) ∧ (linkCanTrain s p sub = true ∧ cxlMode ↑(downPort s p).mode = true ∧
      trainedOk (downPort s p) width rate = true ∧ 2 ≤ rate)) ∧
    (∃ (s : State) (p : Fin 4) (sub : Fin 4) (width : Nat) (rate : Nat), (¬(linkCanTrain s p sub = true ∧
      pcieMode ↑(downPort s p).mode = true ∧ trainedOk (downPort s p) width rate = true))) ∧
    (∃ (s : State) (p : Fin 4) (sub : Fin 4) (width : Nat) (rate : Nat), (linkCanTrain s p sub = true ∧
      pcieMode ↑(downPort s p).mode = true ∧ trainedOk (downPort s p) width rate = true)) ∧
    (∃ (s : State) (p : Fin 4) (sub : Fin 4), (¬(cxlMode ↑(downPort s p).mode = true ∧ vget (downPort s p).linkUp sub = true))) ∧
    (∃ (s : State) (p : Fin 4) (sub : Fin 4), cxlMode ↑(downPort s p).mode = true ∧ vget (downPort s p).linkUp sub = true) ∧
    (∃ (s : State) (p : Fin 4) (sub : Fin 4), (¬((firmware s = true ∧ awaitsActive (downPort s p) sub = true) ∧
      vget (downPort s p).upAt sub + Config.secUnits ≤ now s))) ∧
    (∃ (s : State) (p : Fin 4) (sub : Fin 4), ((firmware s = true ∧ awaitsActive (downPort s p) sub = true) ∧
      vget (downPort s p).upAt sub + Config.secUnits ≤ now s)) ∧
    (∃ (s : State) (p : Fin 4) (sub : Fin 4), (¬(pcieMode ↑(downPort s p).mode = true ∧ vget (downPort s p).linkUp sub = true))) ∧
    (∃ (s : State) (p : Fin 4) (sub : Fin 4), pcieMode ↑(downPort s p).mode = true ∧ vget (downPort s p).linkUp sub = true) ∧
    (∃ (s : State) (p : Fin 4), Option.all (fun x => decide (now s < x)) (downPort s p).perstAt = true) ∧
    (∃ (s : State) (p : Fin 4) (x : Nat), (downPort s p).perstAt = some x ∧ x ≤ now s) :=
  ⟨⟨cxlUp up, 0, 0, by decide +kernel⟩,
   ⟨atPortD (fun d => { d with linkUp := Vector.replicate 4 false }) (cxlUp up), 0, 0, 16, 16, true, by decide +kernel⟩,
   ⟨atPortD (fun d => { d with linkUp := Vector.replicate 4 false }) (cxlUp up), 0, 0, 16, 4, true, by decide +kernel⟩,
   ⟨atPortD (fun d => { d with linkUp := Vector.replicate 4 false }) (cxlUp up), 0, 0, 16, 16, by decide +kernel⟩,
   ⟨atPortD (fun d => { d with linkUp := Vector.replicate 4 false }) (pcieUp up), 0, 0, 4, 4, by decide +kernel⟩,
   ⟨atPortD (fun d => { d with linkUp := Vector.replicate 4 false }) (cxlUp up), 0, 0, by decide +kernel⟩,
   ⟨cxlUp up, 0, 0, by decide +kernel⟩,
   ⟨atPortD (fun d => { d with linkUp := Vector.replicate 4 false }) (cxlUp up), 0, 0, by decide +kernel⟩,
   ⟨cxlUp up, 0, 0, by decide +kernel⟩,
   ⟨atPortD (fun d => { d with linkUp := Vector.replicate 4 false }) (cxlUp up), 0, 0, by decide +kernel⟩,
   ⟨onArchive up, 0, 0, by decide +kernel⟩,
   ⟨atPortD (fun d => { d with linkUp := Vector.replicate 4 false }) (cxlUp up), 0, by decide +kernel⟩,
   ⟨atPortD (fun d => { d with perstAt := some 5 }) up, 0, _, rfl, by decide +kernel⟩⟩

theorem witness_PortModes :
    (∃ (s : State) (c : Cmd) (rest : List Cmd), Ready Instr.portMode c rest s ∧ 3 < c.u 0 1) ∧
    (∃ (s : State) (c : Cmd) (rest : List Cmd), Ready Instr.portMode c rest s ∧ c.u 0 1 ≤ 3 ∧ 5 < c.u 1 1) ∧
    (∃ (s : State) (c : Cmd) (rest : List Cmd) (p : Fin 4) (m : Fin 6), Ready Instr.portMode c rest s ∧ c.u 0 1 = p.val ∧
      c.u 1 1 = m.val ∧ (¬(c.u 2 1 ≤ 4 ∧ (cxlMode m.val = true → 2 ≤ c.u 2 1)))) ∧
    (∃ (s : State) (c : Cmd) (rest : List Cmd) (p : Fin 4) (m : Fin 6), Ready Instr.portMode c rest s ∧ c.u 0 1 = p.val ∧
      c.u 1 1 = m.val ∧ (c.u 2 1 ≤ 4 ∧ (cxlMode m.val = true → 2 ≤ c.u 2 1)) ∧ portBusy (taken c rest s) p = true) ∧
    (∃ (s : State) (c : Cmd) (rest : List Cmd) (p : Fin 4) (m : Fin 6) (r : Nat),
      portExceeds (taken c rest s) p (m.val) (c.u 2 1) = some r ∧ Ready Instr.portMode c rest s ∧ c.u 0 1 = p.val ∧ c.u 1 1 = m.val ∧
      (c.u 2 1 ≤ 4 ∧ (cxlMode m.val = true → 2 ≤ c.u 2 1)) ∧ portBusy (taken c rest s) p = false) ∧
    (∃ (s : State) (c : Cmd) (rest : List Cmd) (p : Fin 4) (m : Fin 6), Ready Instr.portMode c rest s ∧ c.u 0 1 = p.val ∧
      c.u 1 1 = m.val ∧ (c.u 2 1 ≤ 4 ∧ (cxlMode m.val = true → 2 ≤ c.u 2 1)) ∧ portBusy (taken c rest s) p = false ∧
      portExceeds (taken c rest s) p (m.val) (c.u 2 1) = none) ∧
    (∃ (s : State) (p : Fin 4), (firmware s = false ∨ (s.host.deferred.any fun d => match d.wait with | Wait.portMode q due => decide (q = p) | x => false) = false)) ∧
    (∃ (s : State) (p : Fin 4) (detected : BitVec 4) (d : Deferred) (x : Nat), List.find? (fun d => match d.wait with | Wait.portMode q due => decide (q = p) | x => false) s.host.deferred = some d ∧ d.wait = Wait.portMode p x ∧ firmware s = true ∧ ((downPort s p).absent = true ∨ ∀ (n : Fin 4), n ∈ (downPort s p).subs → vget (downPort s p).linkUp n = true ∨ cxlMode ↑(downPort s p).mode = false ∧ detected.getLsb n = false)) ∧
    (∃ (s : State) (p : Fin 4) (detected : BitVec 4) (d : Deferred) (x : Nat), List.find? (fun d => match d.wait with | Wait.portMode q due => decide (q = p) | x => false) s.host.deferred = some d ∧ d.wait = Wait.portMode p x ∧ firmware s = true ∧ (¬((downPort s p).absent = true ∨ ∀ (n : Fin 4), n ∈ (downPort s p).subs → vget (downPort s p).linkUp n = true ∨ cxlMode ↑(downPort s p).mode = false ∧ detected.getLsb n = false)) ∧ x ≤ now s) ∧
    (∃ (s : State) (p : Fin 4) (detected : BitVec 4) (d : Deferred) (x : Nat), List.find? (fun d => match d.wait with | Wait.portMode q due => decide (q = p) | x => false) s.host.deferred = some d ∧ d.wait = Wait.portMode p x ∧ firmware s = true ∧ (¬((downPort s p).absent = true ∨ ∀ (n : Fin 4), n ∈ (downPort s p).subs → vget (downPort s p).linkUp n = true ∨ cxlMode ↑(downPort s p).mode = false ∧ detected.getLsb n = false)) ∧ now s < x) :=
  ⟨⟨ask 0xE01 (num [(1, 4), (1, 1), (1, 4)]) up, _, [], ready_of_now [] rfl (by decide +kernel), by decide +kernel⟩,
   ⟨ask 0xE01 (num [(1, 0), (1, 6), (1, 4)]) up, _, [], ready_of_now [] rfl (by decide +kernel), by decide +kernel⟩,
   ⟨ask 0xE01 (num [(1, 0), (1, 1), (1, 5)]) up, _, [], 0, 1, ready_of_now [] rfl (by decide +kernel), by decide +kernel⟩,
   ⟨ask 0xE01 (num [(1, 0), (1, 1), (1, 4)]) (onArchive up), _, [], 0, 1, ready_of_now [] rfl (by decide +kernel), by decide +kernel⟩,
   ⟨ask 0xE01 (num [(1, 3), (1, 0), (1, 0)]) (under
     { (default : Plan) with device := { (default : DeviceE) with readCredits := [0, 0, 0, 1025] } } up), _, [], 3, 0, _, rfl,
     ready_of_now [] rfl (by decide +kernel), by decide +kernel⟩,
   ⟨ask 0xE01 (num [(1, 0), (1, 0), (1, 4)]) (cxlUp up), _, [], 0, 0, ready_of_now [] rfl (by decide +kernel), by decide +kernel⟩,
   ⟨ask 0xE01 (num [(1, 0), (1, 1), (1, 4)]) (onArchive up), 0, by decide +kernel⟩,
   ⟨waiting (.portMode 0 5) (cxlUp up), 0, 0#4, _, _, rfl, rfl, by decide +kernel⟩,
   ⟨waiting (.portMode 0 5) (atPortD (fun d => { d with linkUp := Vector.replicate 4 false }) (cxlUp up)), 0, 0#4, _, _, rfl, rfl,
     by decide +kernel⟩,
   ⟨waiting (.portMode 0 (11 * Config.secUnits)) (atPortD (fun d => { d with linkUp := Vector.replicate 4 false }) (cxlUp up)), 0, 0#4,
     _, _, rfl, rfl, by decide +kernel⟩⟩

theorem witness_DmaDescriptors :
    (∃ (s : State) (c : Fin 32), (¬(engines s = true ∧ (s.dma c).executes = true ∧ Option.map dOp (s.dma c).desc = some 1))) ∧
    (∃ (s : State) (c : Fin 32), (¬(engines s = true ∧ (s.dma c).executes = true ∧ Option.map dOp (s.dma c).desc = some 2))) ∧
    (∃ (s : State) (c : Fin 32), (¬(engines s = true ∧ (s.dma c).executes = true ∧ Option.map dOp (s.dma c).desc = some 3))) ∧
    (∃ (s : State) (c : Fin 32), (¬(engines s = true ∧ (s.dma c).executes = true ∧ Option.map dOp (s.dma c).desc = some 4))) ∧
    (∃ (s : State) (c : Fin 32), (¬(engines s = true ∧ (s.dma c).executes = true ∧ Option.map dOp (s.dma c).desc = some 5))) ∧
    (∃ (s : State) (c : Fin 32), (¬(engines s = true ∧ (s.dma c).executes = true ∧
      ((s.dma c).desc = none ∨ Option.map dOp (s.dma c).desc = some 0)))) ∧
    (∃ (s : State) (c : Fin 32), engines s = true ∧ (s.dma c).executes = true ∧
      ((s.dma c).desc = none ∨ Option.map dOp (s.dma c).desc = some 0)) ∧
    (∃ (s : State) (c : Fin 32) (x : Nat), (s.dma c).desc = some x ∧ dOp x = 1 ∧ engines s = true ∧ (s.dma c).executes = true) ∧
    (∃ (s : State) (c : Fin 32) (x : Nat), (s.dma c).desc = some x ∧ dOp x = 2 ∧ engines s = true ∧ (s.dma c).executes = true) ∧
    (∃ (s : State) (c : Fin 32) (x : Nat), (s.dma c).desc = some x ∧ dOp x = 3 ∧ (s.dma c).pulses (dLine x) = 0 ∧ engines s = true ∧
      (s.dma c).executes = true) ∧
    (∃ (s : State) (c : Fin 32) (x : Nat) (n : Nat), (s.dma c).desc = some x ∧ dOp x = 3 ∧ (s.dma c).pulses (dLine x) = n + 1 ∧
      engines s = true ∧ (s.dma c).executes = true) ∧
    (∃ (s : State) (c : Fin 32) (x : Nat), (s.dma c).desc = some x ∧ dOp x = 4 ∧ engines s = true ∧ (s.dma c).executes = true ∧
      ((s.dma c).moves.any fun m => !m.dead) = true) ∧
    (∃ (s : State) (c : Fin 32) (x : Nat), (s.dma c).desc = some x ∧ dOp x = 4 ∧ engines s = true ∧ (s.dma c).executes = true ∧
      ((s.dma c).moves.any fun m => !m.dead) = false) ∧
    (∃ (s : State) (c : Fin 32) (x : Nat), (s.dma c).desc = some x ∧ dOp x = 5 ∧ engines s = true ∧ (s.dma c).executes = true ∧
      (dIter x = 0 ∨ (Option.map (fun x => x.snd) (List.find? (fun e => decide (e.fst = (s.dma c).pc)) (s.dma c).loops)).getD 0 < dIter
      x)) ∧
    (∃ (s : State) (c : Fin 32) (x : Nat), (s.dma c).desc = some x ∧ dOp x = 5 ∧ engines s = true ∧ (s.dma c).executes = true ∧
      dIter x ≠ 0 ∧ dIter x ≤ (Option.map (fun x => x.snd) (List.find? (fun e => decide (e.fst = (s.dma c).pc)) (s.dma c).loops)).getD 0)
      :=
  ⟨⟨onDma [moveD 1 6 128 64 64] up, 1, by decide +kernel⟩,
   ⟨onDma [moveD 1 6 128 64 64] up, 0, by decide +kernel⟩,
   ⟨onDma [moveD 1 6 128 64 64] up, 0, by decide +kernel⟩,
   ⟨onDma [moveD 1 6 128 64 64] up, 0, by decide +kernel⟩,
   ⟨onDma [moveD 1 6 128 64 64] up, 0, by decide +kernel⟩,
   ⟨onDma [moveD 1 6 128 64 64] up, 0, by decide +kernel⟩,
   ⟨onDma [0] up, 0, by decide +kernel⟩,
   ⟨onDma [moveD 1 6 128 64 64] up, 0, _, rfl, rfl, by decide +kernel⟩,
   ⟨onDma [moveD 2 1 4096 0 4096 + 1] up, 0, _, rfl, rfl, by decide +kernel⟩,
   ⟨onDma [3 + 9 * 2 ^ 24] up, 0, _, rfl, rfl, rfl, by decide +kernel⟩,
   ⟨atDma (fun d => { d with pendingPulses := [(9, 2)] }) (onDma [3 + 9 * 2 ^ 24] up), 0, _, _, rfl, rfl, rfl, by decide +kernel⟩,
   ⟨atDma (fun d => { d with moves := [{ moveOf (moveD 1 6 64 0 0) with issuedAll := true }] }) (onDma [4 + 9 * 2 ^ 24] up), 0, _, rfl,
     rfl, by decide +kernel⟩,
   ⟨onDma [4 + 9 * 2 ^ 24] up, 0, _, rfl, rfl, by decide +kernel⟩,
   ⟨atDma (fun d => { d with loops := [(0, 2)] }) (onDma [5 + 3 * 2 ^ 200] up), 0, _, rfl, rfl, by decide +kernel⟩,
   ⟨atDma (fun d => { d with loops := [(0, 3)] }) (onDma [5 + 3 * 2 ^ 200] up), 0, _, rfl, rfl, by decide +kernel⟩⟩

theorem witness_DmaBursts :
    (∃ (s : State) (c : Fin 32), (s.dma c).current = none) ∧
    (∃ (s : State) (c : Fin 32) (m : OpenMove), (s.dma c).current = some m ∧ (¬(engines s = true ∧ (touchesNear m.desc = true →
      locked s 3 = true)))) ∧
    (∃ (s : State) (c : Fin 32) (m : OpenMove), (s.dma c).current = some m ∧ (engines s = true ∧ (touchesNear m.desc = true →
      locked s 3 = true)) ∧ ¬mayIssue s c m = true) ∧
    (∃ (s : State) (c : Fin 32) (m : OpenMove), (s.dma c).current = some m ∧ mayIssue s c m = true ∧ (engines s = true ∧
      (touchesNear m.desc = true → locked s 3 = true)) ∧ ¬budgetCovers (dmaEntry s c) (s.dma c) (touchesNear m.desc) (burstPort s m)
      (burstLen (s.dma c) m) = true) ∧
    (∃ (s : State) (c : Fin 32) (m : OpenMove), (s.dma c).current = some m ∧ mayIssue s c m = true ∧
      budgetCovers (dmaEntry s c) (s.dma c) (touchesNear m.desc) (burstPort s m) (burstLen (s.dma c) m) = true ∧
      creditsCover s (burstPort s m) (burstLen (s.dma c) m) = false ∧ (engines s = true ∧ (touchesNear m.desc = true →
      locked s 3 = true))) ∧
    (∃ (s : State) (c : Fin 32) (m : OpenMove) (p : PortId), (s.dma c).current = some m ∧ mayIssue s c m = true ∧
      budgetCovers (dmaEntry s c) (s.dma c) (touchesNear m.desc) (burstPort s m) (burstLen (s.dma c) m) = true ∧
      creditsCover s (burstPort s m) (burstLen (s.dma c) m) = true ∧ dSrcSpace m.desc = 1 ∧ dDstSpace m.desc = 6 + p.val ∧
      (engines s = true ∧ (touchesNear m.desc = true → locked s 3 = true)) ∧ (vget s.hostMem p).wf) ∧
    (∃ (s : State) (c : Fin 32) (m : OpenMove) (p : PortId), (s.dma c).current = some m ∧ mayIssue s c m = true ∧
      budgetCovers (dmaEntry s c) (s.dma c) (touchesNear m.desc) (burstPort s m) (burstLen (s.dma c) m) = true ∧
      creditsCover s (burstPort s m) (burstLen (s.dma c) m) = true ∧ dSrcSpace m.desc = 6 + p.val ∧ dDstSpace m.desc = 1 ∧
      (engines s = true ∧ (touchesNear m.desc = true → locked s 3 = true)) ∧ (s.port p).linkUp = true ∧ s.down.near.data.wf) ∧
    (∃ (s : State) (c : Fin 32) (m : OpenMove) (p : Fin 4), (s.dma c).current = some m ∧ mayIssue s c m = true ∧
      budgetCovers (dmaEntry s c) (s.dma c) (touchesNear m.desc) (burstPort s m) (burstLen (s.dma c) m) = true ∧
      creditsCover s (burstPort s m) (burstLen (s.dma c) m) = true ∧ dSrcSpace m.desc = 2 + p.val ∧ (engines s = true ∧
      (touchesNear m.desc = true → locked s 3 = true))) ∧
    (∃ (s : State) (c : Fin 32) (m : OpenMove) (y : CapMove) (r : RingRt) (q : Nat) (more : List Nat), (s.dma c).current = some m ∧
      mayIssue s c m = true ∧ budgetCovers (dmaEntry s c) (s.dma c) (touchesNear m.desc) (burstPort s m) (burstLen (s.dma c) m) = true ∧
      creditsCover s (burstPort s m) (burstLen (s.dma c) m) = true ∧ dSrcSpace m.desc = 8 ∧ m.capture = some y ∧ capRing s m = some r ∧
      y.left = q :: more ∧ (engines s = true ∧ (touchesNear m.desc = true → locked s 3 = true))) ∧
    (∃ (s : State) (c : Fin 32), Option.all (fun m => !m.complete) (List.find? (fun m => !m.dead) (s.dma c).moves) = true) ∧
    (∃ (s : State) (c : Fin 32) (m : OpenMove), List.find? (fun m => !m.dead) (s.dma c).moves = some m ∧ m.complete = true) ∧
    (∃ (s : State) (c : Fin 32), List.find? (fun m => m.asked && (decide (0 < m.waiting) || !m.issuedAll)) (s.dma c).moves.reverse = none) ∧
    (∃ (s : State) (c : Fin 32) (m : OpenMove), List.find? (fun m => m.asked && (decide (0 < m.waiting) || !m.issuedAll)) (s.dma
      c).moves.reverse = some m) ∧
    (∃ (s : State) (c : Fin 32) (k : Fin 64), Option.all (fun b => decide (b.len ≤ 64 * k.val)) (s.dma c).lastHost = true) ∧
    (∃ (s : State) (c : Fin 32) (b : HostBurst) (k : Fin 64), (s.dma c).lastHost = some b ∧ 64 * k.val < b.len ∧ s.down.near.data.wf) ∧
    (∃ (s : State) (c : Fin 32), oldestWrite s c = none) ∧
    (∃ (s : State) (c : Fin 32) (a : Fin 16) (y : NvmeCmd), oldestWrite s c = some (a, y)) :=
  ⟨⟨atDma (fun d => { d with moves := [moveOf (moveD 1 6 128 4032 64)], src := 4032, dst := 64, count := 128 }) (onDma [moveD 1 6 128
    4032 64] up), 1, by decide +kernel⟩,
   ⟨unlocked 3 (atDma (fun d => { d with moves := [moveOf (moveD 1 6 128 4032 64)], src := 4032, dst := 64, count := 128 }) (onDma [moveD
     1 6 128 4032 64] up)), 0, _, rfl, by decide +kernel⟩,
   ⟨atDma (fun d => { d with moves := [moveOf (moveD 8 10 0 0 0)] }) (onDma [moveD 8 10 0 0 0] up), 0, _, rfl, by decide +kernel⟩,
   ⟨atDma (fun d => { d with moves := [moveOf (moveD 1 6 128 4032 64)], src := 4032, dst := 64, count := 128 }) (onDma [moveD 1 6 128
     4032 64] up), 0, _, rfl, rfl, by decide +kernel⟩,
   ⟨under { (default : Plan) with dma := [{ (default : DmaE) with present := true, nearBytes := 4096, cxlBytes := [4096], descs := [] }] }
     (atDma (fun d => { d with moves := [moveOf (moveD 2 6 128 4032 64)], src := 4032, dst := 64, count := 128 }) (onDma [moveD 2 6 128
     4032 64] (cxlUp up))), 0, _, rfl, rfl, rfl, rfl, by decide +kernel⟩,
   ⟨under (dmaPlan false []) (atDma (fun d => { d with moves := [moveOf (moveD 1 6 128 4032 64)], src := 4032, dst := 64, count := 128 })
     (onDma [moveD 1 6 128 4032 64] up)), 0, _, 0, rfl, rfl, rfl, rfl, rfl, rfl, by decide +kernel⟩,
   ⟨under (dmaPlan false []) (atDma (fun d => { d with moves := [moveOf (moveD 7 1 128 4032 64)], src := 4032, dst := 64, count := 128 })
     (onDma [moveD 7 1 128 4032 64] { up with hostMem := Vector.replicate 2 [(4033, 7)] })), 0, _, 1, rfl, rfl, rfl, rfl, rfl, rfl,
     by decide +kernel⟩,
   ⟨under { (default : Plan) with device := { (default : DeviceE) with readCredits := [64] }, dma := [{ (default : DmaE) with present := true, nearBytes := 4096, cxlBytes := [4096], descs := [] }] }
     (atDma (fun d => { d with moves := [moveOf (moveD 2 6 128 4032 64)], src := 4032, dst := 64, count := 128 }) (onDma [moveD 2 6 128
     4032 64] (cxlUp up))), 0, _, 0, rfl, rfl, rfl, rfl, rfl, by decide +kernel⟩,
   ⟨under { (default : Plan) with device := { (default : DeviceE) with readCredits := [64] }, dma := [{ (default : DmaE) with present := true, nearBytes := 8192, cxlBytes := [8192], descs := [] }] }
     (atDma (fun d => { d with moves := [{ moveOf (moveD 8 1 0 0 64) with capture := some { stream := 0, slot := 0, id := 5, left := [0, 1], cut := false } }], src := 0, dst := 64, count := 8192 })
     (onDma [moveD 8 1 0 0 64] (withCap capC (onRing up)))), 0, _, _, _, _, _, rfl, rfl, rfl, rfl, rfl, rfl, rfl, rfl, by decide +kernel⟩,
   ⟨atDma (fun d => { d with moves := [moveOf (moveD 1 6 128 4032 64)], src := 4032, dst := 64, count := 128 }) (onDma [moveD 1 6 128
     4032 64] up), 0, by decide +kernel⟩,
   ⟨atDma (fun d => { d with moves := [{ moveOf (moveD 1 6 128 64 64) with issuedAll := true }] }) (onDma [] up), 0, _, rfl, rfl⟩,
   ⟨atDma (fun d => { d with moves := [moveOf (moveD 1 6 128 4032 64)], src := 4032, dst := 64, count := 128 }) (onDma [moveD 1 6 128
     4032 64] up), 0, by decide +kernel⟩,
   ⟨atDma (fun d => { d with moves := [moveOf (moveD 8 10 0 0 0)] }) (onDma [moveD 8 10 0 0 0] up), 0, _, rfl⟩,
   ⟨atDma (fun d => { d with moves := [moveOf (moveD 1 6 128 4032 64)], src := 4032, dst := 64, count := 128 }) (onDma [moveD 1 6 128
     4032 64] up), 0, 0, by decide +kernel⟩,
   ⟨atDma (fun d => { d with lastHost := some { serial := 0, num := 0, dst := 4096, len := 128 }, count := 64 }) (onDma [moveD 6 1 192 0
     4096] up), 0, _, 0, rfl, by decide +kernel⟩,
   ⟨atDma (fun d => { d with moves := [moveOf (moveD 1 6 128 4032 64)], src := 4032, dst := 64, count := 128 }) (onDma [moveD 1 6 128
     4032 64] up), 0, by decide +kernel⟩,
   ⟨atDma (fun d => { d with moves := [{ moveOf (moveD 8 9 0 0 0) with capture := some { stream := 0, slot := 0, id := 5, left := [0, 1], cut := false } }] })
     (onDma [moveD 8 9 0 0 0] (atArchive (fun v =>
     { v with job := some job2, placed := [{ slot := 0, opcode := 1, tile := 16, count := 2 }] }) (onArchive up))), 0, _, _, rfl⟩⟩

theorem witness_EventLinePulses :
    (∃ (s : State) (l : Fin 128) (consumer : Consumer), List.find? (fun e => decide (e.fst = (l.val,
      consumer)) && decide (0 < e.snd)) s.down.crossings = none) ∧
    (∃ (s : State) (l : Fin 128) (consumer : Consumer) (key : Nat × Consumer) (n : Nat), List.find? (fun e => decide (e.fst = (l.val,
      consumer)) && decide (0 < e.snd)) s.down.crossings = some (key, n + 1)) :=
  ⟨⟨atDown (fun d => { d with crossings := [((9, .dma 0), 1)] }) (onDma [4] up), 0, Consumer.dma 0, by decide +kernel⟩,
   ⟨atDown (fun d => { d with crossings := [((9, .dma 0), 1)] }) (onDma [4] up), 9, Consumer.dma 0, _, _, rfl⟩⟩

theorem witness_DmaCommands :
    (∃ (s : State) (c : Cmd) (rest : List Cmd) (i : Instr), Ready i c rest s ∧ i ∈ [Instr.dmaLoad, Instr.dmaStart, Instr.dmaPause,
      Instr.dmaResume, Instr.dmaStop] ∧ activeBank (taken c rest s) = none) ∧
    (∃ (s : State) (c : Cmd) (rest : List Cmd) (i : Instr) (b : Fin 2), activeBank (taken c rest s) = some b ∧ Ready i c rest s ∧
      i ∈ [Instr.dmaLoad, Instr.dmaStart, Instr.dmaPause, Instr.dmaResume, Instr.dmaStop] ∧ (∀ (ch : Fin 32), c.u 0 1 = ch.val →
      ((planIn (taken c rest s) b).dmaOf ch.val).present = false)) ∧
    (∃ (s : State) (c : Cmd) (rest : List Cmd) (ch : Fin 32) (b : Fin 2), activeBank (taken c rest s) = some b ∧
      ((planIn (taken c rest s) b).dmaOf ch.val).present = true ∧ ((planIn (taken c rest s) b).dmaOf ch.val).host = false ∧
      Ready Instr.dmaLoad c rest s ∧ c.u 0 1 = ch.val) ∧
    (∃ (s : State) (c : Cmd) (rest : List Cmd) (ch : Fin 32) (b : Fin 2), activeBank (taken c rest s) = some b ∧
      ((planIn (taken c rest s) b).dmaOf ch.val).present = true ∧ ((planIn (taken c rest s) b).dmaOf ch.val).host = true ∧
      Ready Instr.dmaLoad c rest s ∧ c.u 0 1 = ch.val ∧ (¬(((taken c rest s).dma ch).state = DmaState.stopped ∨ ((taken c rest s).dma
      ch).state = DmaState.errorAlign ∨ ((taken c rest s).dma ch).state = DmaState.errorBeat ∨ ((taken c rest s).dma ch).state =
      DmaState.errorTail))) ∧
    (∃ (s : State) (c : Cmd) (rest : List Cmd) (ch : Fin 32) (b : Fin 2), activeBank (taken c rest s) = some b ∧
      ((planIn (taken c rest s) b).dmaOf ch.val).present = true ∧ ((planIn (taken c rest s) b).dmaOf ch.val).host = true ∧
      Ready Instr.dmaLoad c rest s ∧ c.u 0 1 = ch.val ∧ (((taken c rest s).dma ch).state = DmaState.stopped ∨ ((taken c rest s).dma
      ch).state = DmaState.errorAlign ∨ ((taken c rest s).dma ch).state = DmaState.errorBeat ∨ ((taken c rest s).dma ch).state =
      DmaState.errorTail) ∧ (c.u 2 1 = 0 ∨ 14 < c.u 2 1)) ∧
    (∃ (s : State) (c : Cmd) (rest : List Cmd) (ch : Fin 32) (b : Fin 2), activeBank (taken c rest s) = some b ∧
      ((planIn (taken c rest s) b).dmaOf ch.val).present = true ∧ ((planIn (taken c rest s) b).dmaOf ch.val).host = true ∧
      Ready Instr.dmaLoad c rest s ∧ c.u 0 1 = ch.val ∧ (((taken c rest s).dma ch).state = DmaState.stopped ∨ ((taken c rest s).dma
      ch).state = DmaState.errorAlign ∨ ((taken c rest s).dma ch).state = DmaState.errorBeat ∨ ((taken c rest s).dma ch).state =
      DmaState.errorTail) ∧ 0 < c.u 2 1 ∧ c.u 2 1 ≤ 14 ∧ (c.u 1 1 ≠ (if c.u 1 1 = 0 then [] else ((taken c rest s).dma
      ch).partialProg).length)) ∧
    (∃ (s : State) (c : Cmd) (rest : List Cmd) (ch : Fin 32) (b : Fin 2), activeBank (taken c rest s) = some b ∧
      ((planIn (taken c rest s) b).dmaOf ch.val).present = true ∧ ((planIn (taken c rest s) b).dmaOf ch.val).host = true ∧
      Ready Instr.dmaLoad c rest s ∧ c.u 0 1 = ch.val ∧ (((taken c rest s).dma ch).state = DmaState.stopped ∨ ((taken c rest s).dma
      ch).state = DmaState.errorAlign ∨ ((taken c rest s).dma ch).state = DmaState.errorBeat ∨ ((taken c rest s).dma ch).state =
      DmaState.errorTail) ∧ 0 < c.u 2 1 ∧ c.u 2 1 ≤ 14 ∧ (c.u 1 1 = (if c.u 1 1 = 0 then [] else ((taken c rest s).dma
      ch).partialProg).length) ∧ 256 < c.u 1 1 + c.u 2 1) ∧
    (∃ (s : State) (c : Cmd) (rest : List Cmd) (ch : Fin 32) (b : Fin 2), activeBank (taken c rest s) = some b ∧
      ((planIn (taken c rest s) b).dmaOf ch.val).present = true ∧ ((planIn (taken c rest s) b).dmaOf ch.val).host = true ∧
      Ready Instr.dmaLoad c rest s ∧ c.u 0 1 = ch.val ∧ (((taken c rest s).dma ch).state = DmaState.stopped ∨ ((taken c rest s).dma
      ch).state = DmaState.errorAlign ∨ ((taken c rest s).dma ch).state = DmaState.errorBeat ∨ ((taken c rest s).dma ch).state =
      DmaState.errorTail) ∧ 0 < c.u 2 1 ∧ c.u 2 1 ≤ 14 ∧ (c.u 1 1 = (if c.u 1 1 = 0 then [] else ((taken c rest s).dma
      ch).partialProg).length) ∧ c.u 1 1 + c.u 2 1 ≤ 256 ∧ bit 0 (c.u 3 1) = false) ∧
    (∃ (s : State) (c : Cmd) (rest : List Cmd) (ch : Fin 32) (b : Fin 2), activeBank (taken c rest s) = some b ∧
      ((planIn (taken c rest s) b).dmaOf ch.val).present = true ∧ ((planIn (taken c rest s) b).dmaOf ch.val).host = true ∧
      Ready Instr.dmaLoad c rest s ∧ c.u 0 1 = ch.val ∧ (((taken c rest s).dma ch).state = DmaState.stopped ∨ ((taken c rest s).dma
      ch).state = DmaState.errorAlign ∨ ((taken c rest s).dma ch).state = DmaState.errorBeat ∨ ((taken c rest s).dma ch).state =
      DmaState.errorTail) ∧ 0 < c.u 2 1 ∧ c.u 2 1 ≤ 14 ∧ (c.u 1 1 = (if c.u 1 1 = 0 then [] else ((taken c rest s).dma
      ch).partialProg).length) ∧ c.u 1 1 + c.u 2 1 ≤ 256 ∧ bit 0 (c.u 3 1) = true ∧
      (¬programOk (planNow (taken c rest s)) ((planIn (taken c rest s) b).dmaOf ch.val) (nearSize (taken c rest s)) ((if c.u 1 1 = 0 then
      [] else ((taken c rest s).dma ch).partialProg) ++ partDescs c) = true)) ∧
    (∃ (s : State) (c : Cmd) (rest : List Cmd) (ch : Fin 32) (b : Fin 2), activeBank (taken c rest s) = some b ∧
      ((planIn (taken c rest s) b).dmaOf ch.val).present = true ∧ ((planIn (taken c rest s) b).dmaOf ch.val).host = true ∧
      (programOk (planNow (taken c rest s)) ((planIn (taken c rest s) b).dmaOf ch.val) (nearSize (taken c rest s)) ((if c.u 1 1 = 0 then
      [] else ((taken c rest s).dma ch).partialProg) ++ partDescs c) = true) ∧ Ready Instr.dmaLoad c rest s ∧ c.u 0 1 = ch.val ∧
      (((taken c rest s).dma ch).state = DmaState.stopped ∨ ((taken c rest s).dma ch).state = DmaState.errorAlign ∨ ((taken c rest s).dma
      ch).state = DmaState.errorBeat ∨ ((taken c rest s).dma ch).state = DmaState.errorTail) ∧ 0 < c.u 2 1 ∧ c.u 2 1 ≤ 14 ∧
      (c.u 1 1 = (if c.u 1 1 = 0 then [] else ((taken c rest s).dma ch).partialProg).length) ∧ c.u 1 1 + c.u 2 1 ≤ 256 ∧
      bit 0 (c.u 3 1) = true) ∧
    (∃ (s : State) (c : Cmd) (rest : List Cmd) (ch : Fin 32) (b : Fin 2), activeBank (taken c rest s) = some b ∧
      ((planIn (taken c rest s) b).dmaOf ch.val).present = true ∧ Ready Instr.dmaStart c rest s ∧ c.u 0 1 = ch.val ∧
      (((taken c rest s).dma ch).busy = true ∨ ((planIn (taken c rest s) b).dmaOf ch.val).host = true ∧
      ((taken c rest s).dma ch).loaded = false)) ∧
    (∃ (s : State) (c : Cmd) (rest : List Cmd) (ch : Fin 32) (b : Fin 2), activeBank (taken c rest s) = some b ∧
      ((planIn (taken c rest s) b).dmaOf ch.val).present = true ∧ (firstMisaligned (taken c rest s) (if ((planIn (taken c rest s)
      b).dmaOf ch.val).host = true then ((taken c rest s).dma ch).program else ((planIn (taken c rest s) b).dmaOf ch.val).descs) = none)
      ∧ Ready Instr.dmaStart c rest s ∧ c.u 0 1 = ch.val ∧ ((taken c rest s).dma ch).busy = false ∧
      (((planIn (taken c rest s) b).dmaOf ch.val).host = true → ((taken c rest s).dma ch).loaded = true)) ∧
    (∃ (s : State) (c : Cmd) (rest : List Cmd) (ch : Fin 32) (b : Fin 2) (k : Nat), activeBank (taken c rest s) = some b ∧
      ((planIn (taken c rest s) b).dmaOf ch.val).present = true ∧ (firstMisaligned (taken c rest s) (if ((planIn (taken c rest s)
      b).dmaOf ch.val).host = true then ((taken c rest s).dma ch).program else ((planIn (taken c rest s) b).dmaOf ch.val).descs) = some
      k) ∧ Ready Instr.dmaStart c rest s ∧ c.u 0 1 = ch.val ∧ ((taken c rest s).dma ch).busy = false ∧
      (((planIn (taken c rest s) b).dmaOf ch.val).host = true → ((taken c rest s).dma ch).loaded = true)) ∧
    (∃ (s : State) (c : Cmd) (rest : List Cmd) (ch : Fin 32) (b : Fin 2), activeBank (taken c rest s) = some b ∧
      ((planIn (taken c rest s) b).dmaOf ch.val).present = true ∧ Ready Instr.dmaPause c rest s ∧ c.u 0 1 = ch.val ∧
      ((taken c rest s).dma ch).state = DmaState.paused) ∧
    (∃ (s : State) (c : Cmd) (rest : List Cmd) (ch : Fin 32) (b : Fin 2), activeBank (taken c rest s) = some b ∧
      ((planIn (taken c rest s) b).dmaOf ch.val).present = true ∧ Ready Instr.dmaPause c rest s ∧ c.u 0 1 = ch.val ∧
      ((taken c rest s).dma ch).state = DmaState.waiting ∧ outstanding (taken c rest s) ch = false) ∧
    (∃ (s : State) (c : Cmd) (rest : List Cmd) (ch : Fin 32) (b : Fin 2), activeBank (taken c rest s) = some b ∧
      ((planIn (taken c rest s) b).dmaOf ch.val).present = true ∧ Ready Instr.dmaPause c rest s ∧ c.u 0 1 = ch.val ∧
      (((taken c rest s).dma ch).state = DmaState.running ∨ ((taken c rest s).dma ch).state = DmaState.waiting ∧
      outstanding (taken c rest s) ch = true)) ∧
    (∃ (s : State) (c : Cmd) (rest : List Cmd) (ch : Fin 32) (b : Fin 2), activeBank (taken c rest s) = some b ∧
      ((planIn (taken c rest s) b).dmaOf ch.val).present = true ∧ Ready Instr.dmaPause c rest s ∧ c.u 0 1 = ch.val ∧
      ((taken c rest s).dma ch).state ≠ DmaState.paused ∧ ((taken c rest s).dma ch).state ≠ DmaState.running ∧
      ((taken c rest s).dma ch).state ≠ DmaState.waiting) ∧
    (∃ (s : State) (c : Cmd) (rest : List Cmd) (ch : Fin 32) (b : Fin 2), activeBank (taken c rest s) = some b ∧
      ((planIn (taken c rest s) b).dmaOf ch.val).present = true ∧ Ready Instr.dmaResume c rest s ∧ c.u 0 1 = ch.val ∧
      ((taken c rest s).dma ch).state ≠ DmaState.paused) ∧
    (∃ (s : State) (c : Cmd) (rest : List Cmd) (ch : Fin 32) (b : Fin 2), activeBank (taken c rest s) = some b ∧
      ((planIn (taken c rest s) b).dmaOf ch.val).present = true ∧ Ready Instr.dmaResume c rest s ∧ c.u 0 1 = ch.val ∧
      ((taken c rest s).dma ch).state = DmaState.paused) ∧
    (∃ (s : State) (c : Cmd) (rest : List Cmd) (ch : Fin 32) (b : Fin 2), activeBank (taken c rest s) = some b ∧
      ((planIn (taken c rest s) b).dmaOf ch.val).present = true ∧ Ready Instr.dmaStop c rest s ∧ c.u 0 1 = ch.val ∧
      ((taken c rest s).dma ch).state = DmaState.errorAlign) ∧
    (∃ (s : State) (c : Cmd) (rest : List Cmd) (ch : Fin 32) (b : Fin 2), activeBank (taken c rest s) = some b ∧
      ((planIn (taken c rest s) b).dmaOf ch.val).present = true ∧ Ready Instr.dmaStop c rest s ∧ c.u 0 1 = ch.val ∧
      ((taken c rest s).dma ch).state ≠ DmaState.errorAlign ∧ outstanding (taken c rest s) ch = true) ∧
    (∃ (s : State) (c : Cmd) (rest : List Cmd) (ch : Fin 32) (b : Fin 2), activeBank (taken c rest s) = some b ∧
      ((planIn (taken c rest s) b).dmaOf ch.val).present = true ∧ Ready Instr.dmaStop c rest s ∧ c.u 0 1 = ch.val ∧
      ((taken c rest s).dma ch).state ≠ DmaState.errorAlign ∧ outstanding (taken c rest s) ch = false) :=
  ⟨⟨ask 0xF01 (num [(1, 0), (1, 0), (1, 1), (1, 1), (4, 0), (32, 0)]) up, _, [], Instr.dmaLoad, ready_of_now [] rfl (by decide +kernel),
    by decide +kernel⟩,
   ⟨ask 0xF05 (num [(1, 31)]) (under (dmaPlan true []) up), _, [], Instr.dmaStop, _, rfl, ready_of_now [] rfl (by decide +kernel),
     by decide +kernel⟩,
   ⟨ask 0xF01 (num [(1, 0), (1, 0), (1, 1), (1, 1), (4, 0), (32, 0)]) (under (dmaPlan false []) up), _, [], 0, _, rfl, rfl, rfl,
     ready_of_now [] rfl (by decide +kernel), by decide +kernel⟩,
   ⟨ask 0xF01 (num [(1, 0), (1, 0), (1, 1), (1, 1), (4, 0), (32, 0)]) (onDma [] (under (dmaPlan true []) up)), _, [], 0, _, rfl, rfl,
     rfl, ready_of_now [] rfl (by decide +kernel), by decide +kernel⟩,
   ⟨ask 0xF01 (num [(1, 0), (1, 0), (1, 0), (1, 1), (4, 0)]) (under (dmaPlan true []) up), _, [], 0, _, rfl, rfl, rfl,
     ready_of_now [] rfl (by decide +kernel), by decide +kernel⟩,
   ⟨ask 0xF01 (num [(1, 0), (1, 1), (1, 1), (1, 1), (4, 0), (32, 0)]) (under (dmaPlan true []) up), _, [], 0, _, rfl, rfl, rfl,
     ready_of_now [] rfl (by decide +kernel), by decide +kernel⟩,
   ⟨ask 0xF01 (num [(1, 0), (1, 255), (1, 2), (1, 1), (4, 0), (64, 0)]) (atDma (fun d => { d with partialProg := List.replicate 255 0 })
     (under (dmaPlan true []) up)), _, [], 0, _, rfl, rfl, rfl, ready_of_now [] rfl (by decide +kernel), by decide +kernel⟩,
   ⟨ask 0xF01 (num [(1, 0), (1, 0), (1, 14), (1, 0), (4, 0), (448, 0)]) (under (dmaPlan true []) up), _, [], 0, _, rfl, rfl, rfl,
     ready_of_now [] rfl (by decide +kernel), by decide +kernel⟩,
   ⟨ask 0xF01 (num [(1, 0), (1, 0), (1, 1), (1, 1), (4, 0), (32, 1)]) (under (dmaPlan true []) up), _, [], 0, _, rfl, rfl, rfl,
     ready_of_now [] rfl (by decide +kernel), by decide +kernel⟩,
   ⟨ask 0xF01 (num [(1, 0), (1, 0), (1, 1), (1, 1), (4, 0), (32, 0)]) (under (dmaPlan true []) up), _, [], 0, _, rfl, rfl, rfl, rfl,
     ready_of_now [] rfl (by decide +kernel), by decide +kernel⟩,
   ⟨ask 0xF02 (num [(1, 0)]) (onDma [0] (under (dmaPlan false [0]) up)), _, [], 0, _, rfl, rfl, ready_of_now [] rfl (by decide +kernel),
     by decide +kernel⟩,
   ⟨ask 0xF02 (num [(1, 0)]) (under (dmaPlan false [0]) up), _, [], 0, _, rfl, rfl, rfl, ready_of_now [] rfl (by decide +kernel),
     by decide +kernel⟩,
   ⟨ask 0xF02 (num [(1, 0)]) (under (dmaPlan false [4, moveD 1 6 65 64 64]) up), _, [], 0, _, _, rfl, rfl, rfl,
     ready_of_now [] rfl (by decide +kernel), by decide +kernel⟩,
   ⟨ask 0xF03 (num [(1, 0)]) (atDma (fun d => { d with state := .paused }) (under (dmaPlan false [0]) up)), _, [], 0, _, rfl, rfl,
     ready_of_now [] rfl (by decide +kernel), by decide +kernel⟩,
   ⟨ask 0xF03 (num [(1, 0)]) (atDma (fun d => { d with state := .waiting, reason := .event }) (under (dmaPlan false [0]) up)), _, [], 0,
     _, rfl, rfl, ready_of_now [] rfl (by decide +kernel), by decide +kernel⟩,
   ⟨ask 0xF03 (num [(1, 0)]) (onDma [0] (under (dmaPlan false [0]) up)), _, [], 0, _, rfl, rfl, ready_of_now [] rfl (by decide +kernel),
     by decide +kernel⟩,
   ⟨ask 0xF03 (num [(1, 0)]) (under (dmaPlan false [0]) up), _, [], 0, _, rfl, rfl, ready_of_now [] rfl (by decide +kernel),
     by decide +kernel⟩,
   ⟨ask 0xF04 (num [(1, 0)]) (under (dmaPlan false [0]) up), _, [], 0, _, rfl, rfl, ready_of_now [] rfl (by decide +kernel),
     by decide +kernel⟩,
   ⟨ask 0xF04 (num [(1, 0)]) (atDma (fun d => { d with state := .paused, resume := .event }) (under (dmaPlan false [0]) up)), _, [], 0,
     _, rfl, rfl, ready_of_now [] rfl (by decide +kernel), by decide +kernel⟩,
   ⟨ask 0xF05 (num [(1, 0)]) (atDma (fun d => { d with state := .errorAlign }) (under (dmaPlan false [0]) up)), _, [], 0, _, rfl, rfl,
     ready_of_now [] rfl (by decide +kernel), by decide +kernel⟩,
   ⟨ask 0xF05 (num [(1, 0)]) (atDma (fun d => { d with moves := [{ moveOf 1 with waiting := 1 }] }) (onDma [0] (under (dmaPlan false [0])
     up))), _, [], 0, _, rfl, rfl, ready_of_now [] rfl (by decide +kernel), by decide +kernel⟩,
   ⟨ask 0xF05 (num [(1, 0)]) (onDma [0] (under (dmaPlan false [0]) up)), _, [], 0, _, rfl, rfl, ready_of_now [] rfl (by decide +kernel),
     by decide +kernel⟩⟩

theorem witness_DmaPausesEnd :
    (∃ (s : State) (c : Fin 32), ((s.dma c).state ≠ DmaState.pausing ∨ outstanding s c = true)) ∧
    (∃ (s : State) (c : Fin 32), (s.dma c).state = DmaState.pausing ∧ outstanding s c = false ∧
      List.find? (fun w => decide (w.wait = Wait.dmaPause c)) s.host.deferred = none) ∧
    (∃ (s : State) (c : Fin 32) (w : Deferred), List.find? (fun w => decide (w.wait = Wait.dmaPause c)) s.host.deferred = some w ∧
      (s.dma c).state = DmaState.pausing ∧ outstanding s c = false) ∧
    (∃ (s : State) (c : Fin 32), ((s.dma c).stopping = false ∨ outstanding s c = true)) ∧
    (∃ (s : State) (c : Fin 32), (s.dma c).stopping = true ∧ outstanding s c = false) :=
  ⟨⟨waiting (.dmaPause 0) (atDma (fun d => { d with state := .pausing }) up), 1, by decide +kernel⟩,
   ⟨atDma (fun d => { d with state := .pausing }) up, 0, by decide +kernel⟩,
   ⟨waiting (.dmaPause 0) (atDma (fun d => { d with state := .pausing }) up), 0, _, rfl, by decide +kernel⟩,
   ⟨waiting (.dmaPause 0) (atDma (fun d => { d with state := .pausing }) up), 0, by decide +kernel⟩,
   ⟨waiting (.dmaStop 0) (atDma (fun d => { d with stopping := true }) (onDma [0] up)), 0, by decide +kernel⟩⟩

theorem witness_RecordAssignment :
    (∃ (mask : Nat) (i : Fin 25), bit (i.val) mask = false) ∧
    (∃ (s : State) (mask : Nat) (r : Record) (i : Fin 25), bit (i.val) mask = true ∧ (¬(pathSpace i s < r.size ∧
      (i.val < 16 ∨ i.val = 24 ∨ Option.any (fun d => (vget s.records.udp d).enabled) (destOf i) = true))) ∧ (¬(pathReady i s = true ∧
      accepts i r.eventClass r.size s = true))) ∧
    (∃ (s : State) (mask : Nat) (r : Record) (i : Fin 25), bit (i.val) mask = true ∧ (¬(pathSpace i s < r.size ∧
      (i.val < 16 ∨ i.val = 24 ∨ Option.any (fun d => (vget s.records.udp d).enabled) (destOf i) = true))) ∧ (pathReady i s = true ∧
      accepts i r.eventClass r.size s = true) ∧ i.val < 16) ∧
    (∃ (s : State) (mask : Nat) (r : Record) (i : Fin 25) (d : Fin 8), destOf i = some d ∧ bit (i.val) mask = true ∧
      (¬(pathSpace i s < r.size ∧ (i.val < 16 ∨ i.val = 24 ∨ Option.any (fun d => (vget s.records.udp d).enabled) (destOf i) = true))) ∧
      (pathReady i s = true ∧ accepts i r.eventClass r.size s = true)) ∧
    (∃ (s : State) (mask : Nat) (r : Record) (i : Fin 25), bit (i.val) mask = true ∧ (¬(pathSpace i s < r.size ∧
      (i.val < 16 ∨ i.val = 24 ∨ Option.any (fun d => (vget s.records.udp d).enabled) (destOf i) = true))) ∧ (pathReady i s = true ∧
      accepts i r.eventClass r.size s = true) ∧ i.val = 24) :=
  ⟨⟨0, 0, by decide +kernel⟩,
   ⟨up, 65536, rec0, 16, by decide +kernel⟩,
   ⟨onHostRing id up, 1, rec0, 0, by decide +kernel⟩,
   ⟨atUdp (fun u => { u with enabled := true, mtu := 1500, ports := 0, mac := some 0x01020304, flushUs := 100 }) up, 65536, rec0, 16, _,
     rfl, by decide +kernel⟩,
   ⟨asWorker .member up, 16777216, rec0, 24, by decide +kernel⟩⟩

theorem witness_RingEntries :
    (∃ (s : State) (r : Fin 16), ((vget s.records.paths (ringPath r)).queue = [] ∨ engines s = false)) ∧
    (∃ (s : State) (r : Fin 16) (q : Queued) (rest : List Queued), (vget s.records.paths (ringPath r)).queue = q :: rest ∧
      engines s = true ∧ (¬(((ringRt s r).isUp = true ∧ (s.port (ringRt s r).port).linkUp = true) ∧
      ((ringRt s r).unpassed + if (ringRt s r).slots - (ringRt s r).slot < ceilDiv (16 + (q.item.bytes q.seq).length) 64 then (ringRt s
      r).slots - (ringRt s r).slot else 0) + ceilDiv (16 + (q.item.bytes q.seq).length) 64 ≤ (ringRt s r).slots))) ∧
    (∃ (s : State) (r : Fin 16) (q : Queued) (rest : List Queued), (vget s.records.paths (ringPath r)).queue = q :: rest ∧
      engines s = true ∧ ((ringRt s r).isUp = true ∧ (s.port (ringRt s r).port).linkUp = true) ∧
      (((ringRt s r).unpassed + if (ringRt s r).slots - (ringRt s r).slot < ceilDiv (16 + (q.item.bytes q.seq).length) 64 then (ringRt s
      r).slots - (ringRt s r).slot else 0) + ceilDiv (16 + (q.item.bytes q.seq).length) 64 ≤ (ringRt s r).slots) ∧
      (vget s.hostMem (ringRt s r).port).wf) ∧
    (∃ (s : State) (r : Fin 16), (¬((ringRt s r).isUp = true ∧ (ringRt s r).waiting = true ∧
      Option.all (fun x => decide (x + (ringRt s r).holdoffUs * Config.usUnits ≤ now s)) (ringRt s r).lastMsg = true))) ∧
    (∃ (s : State) (r : Fin 16), ((ringRt s r).isUp = true ∧ (ringRt s r).waiting = true ∧
      Option.all (fun x => decide (x + (ringRt s r).holdoffUs * Config.usUnits ≤ now s)) (ringRt s r).lastMsg = true)) :=
  ⟨⟨onHostRing id up, 1, by decide +kernel⟩,
   ⟨onHostRing (fun g => { g with written := 4096, slot := 0 }) up, 0, _, _, rfl, by decide +kernel⟩,
   ⟨onHostRing id up, 0, _, _, rfl, by decide +kernel⟩,
   ⟨onHostRing id up, 0, by decide +kernel⟩,
   ⟨onHostRing (fun g => { g with waiting := true, lastMsg := some 0, holdoffUs := 10 }) up, 0, by decide +kernel⟩⟩

theorem witness_UdpDestinations :
    (∃ (s : State) (d : Fin 8), (¬(engines s = true ∧ (vget s.records.udp d).pending ≠ [] ∧
      (vget s.records.udp d).placedAt + (vget s.records.udp d).flushUs * Config.usUnits ≤ now s))) ∧
    (∃ (s : State) (d : Fin 8), (engines s = true ∧ (vget s.records.udp d).pending ≠ [] ∧
      (vget s.records.udp d).placedAt + (vget s.records.udp d).flushUs * Config.usUnits ≤ now s) ∧
      udpReady (vget s.records.udp d) s = true) ∧
    (∃ (s : State) (d : Fin 8), (engines s = true ∧ (vget s.records.udp d).pending ≠ [] ∧
      (vget s.records.udp d).placedAt + (vget s.records.udp d).flushUs * Config.usUnits ≤ now s) ∧
      udpReady (vget s.records.udp d) s = false) ∧
    (∃ (s : State) (d : Fin 8), (¬(firmware s = true ∧ (vget s.records.udp d).enabled = true ∧ (vget s.records.udp d).mac = none))) ∧
    (∃ (s : State) (d : Fin 8), (firmware s = true ∧ (vget s.records.udp d).enabled = true ∧ (vget s.records.udp d).mac = none)) :=
  ⟨⟨atUdp (fun u => { u with enabled := true, pending := [[1, 2]], placedAt := 0, flushUs := 5 }) up, 1, by decide +kernel⟩,
   ⟨atUdp (fun u => { u with enabled := true, mac := some 0x01020304, pending := [[1, 2]], placedAt := 5 }) up, 0, by decide +kernel⟩,
   ⟨atUdp (fun u => { u with enabled := true, pending := [[1, 2]], placedAt := 0, flushUs := 5 }) up, 0, by decide +kernel⟩,
   ⟨atUdp (fun u => { u with enabled := true, pending := [[1, 2]], placedAt := 0, flushUs := 5 }) up, 1, by decide +kernel⟩,
   ⟨atUdp (fun u => { u with enabled := true, pending := [[1, 2]], placedAt := 0, flushUs := 5 }) up, 0, by decide +kernel⟩⟩

theorem witness_DeliveryCommands :
    (∃ (s : State) (c : Cmd) (rest : List Cmd), Ready Instr.ringSetup c rest s ∧ (∃ r, c.u 0 1 = r.val ∧
      (ringRt (taken c rest s) r).isUp = true)) ∧
    (∃ (s : State) (c : Cmd) (rest : List Cmd), Ready Instr.ringSetup c rest s ∧ (¬∃ r, c.u 0 1 = r.val ∧
      (ringRt (taken c rest s) r).isUp = true) ∧ ¬c.u 8 8 % 4096 = 0) ∧
    (∃ (s : State) (c : Cmd) (rest : List Cmd), Ready Instr.ringSetup c rest s ∧ (¬∃ r, c.u 0 1 = r.val ∧
      (ringRt (taken c rest s) r).isUp = true) ∧ c.u 8 8 % 4096 = 0 ∧ 15 < c.u 0 1) ∧
    (∃ (s : State) (c : Cmd) (rest : List Cmd), Ready Instr.ringSetup c rest s ∧ (¬∃ r, c.u 0 1 = r.val ∧
      (ringRt (taken c rest s) r).isUp = true) ∧ c.u 8 8 % 4096 = 0 ∧ c.u 0 1 ≤ 15 ∧ 1 < c.u 1 1) ∧
    (∃ (s : State) (c : Cmd) (rest : List Cmd), Ready Instr.ringSetup c rest s ∧ (¬∃ r, c.u 0 1 = r.val ∧
      (ringRt (taken c rest s) r).isUp = true) ∧ c.u 8 8 % 4096 = 0 ∧ c.u 0 1 ≤ 15 ∧ c.u 1 1 ≤ 1 ∧ 31 < c.u 2 1) ∧
    (∃ (s : State) (c : Cmd) (rest : List Cmd) (r : Fin 16) (p : PortId) (v : Fin 32), Ready Instr.ringSetup c rest s ∧ (¬∃ r,
      c.u 0 1 = r.val ∧ (ringRt (taken c rest s) r).isUp = true) ∧ c.u 8 8 % 4096 = 0 ∧ c.u 0 1 = r.val ∧ c.u 1 1 = p.val ∧
      c.u 2 1 = v.val ∧ (¬(18 ≤ c.u 3 1 ∧ c.u 3 1 ≤ 32))) ∧
    (∃ (s : State) (c : Cmd) (rest : List Cmd) (r : Fin 16) (p : PortId) (v : Fin 32), Ready Instr.ringSetup c rest s ∧ (¬∃ r,
      c.u 0 1 = r.val ∧ (ringRt (taken c rest s) r).isUp = true) ∧ c.u 8 8 % 4096 = 0 ∧ c.u 0 1 = r.val ∧ c.u 1 1 = p.val ∧
      c.u 2 1 = v.val ∧ (18 ≤ c.u 3 1 ∧ c.u 3 1 ≤ 32) ∧ ¬c.u 4 4 ≤ 10000) ∧
    (∃ (s : State) (c : Cmd) (rest : List Cmd) (r : Fin 16) (p : PortId) (v : Fin 32), Ready Instr.ringSetup c rest s ∧ (¬∃ r,
      c.u 0 1 = r.val ∧ (ringRt (taken c rest s) r).isUp = true) ∧ c.u 8 8 % 4096 = 0 ∧ c.u 0 1 = r.val ∧ c.u 1 1 = p.val ∧
      c.u 2 1 = v.val ∧ (18 ≤ c.u 3 1 ∧ c.u 3 1 ≤ 32) ∧ c.u 4 4 ≤ 10000 ∧ ((taken c rest s).port p).linkUp = false) ∧
    (∃ (s : State) (c : Cmd) (rest : List Cmd) (r : Fin 16) (p : PortId) (v : Fin 32), Ready Instr.ringSetup c rest s ∧ (¬∃ r,
      c.u 0 1 = r.val ∧ (ringRt (taken c rest s) r).isUp = true) ∧ c.u 8 8 % 4096 = 0 ∧ c.u 0 1 = r.val ∧ c.u 1 1 = p.val ∧
      c.u 2 1 = v.val ∧ (18 ≤ c.u 3 1 ∧ c.u 3 1 ≤ 32) ∧ c.u 4 4 ≤ 10000 ∧ ((taken c rest s).port p).linkUp = true) ∧
    (∃ (s : State) (c : Cmd) (rest : List Cmd), Ready Instr.ringTeardown c rest s ∧ 15 < c.u 0 1) ∧
    (∃ (s : State) (c : Cmd) (rest : List Cmd) (r : Fin 16), Ready Instr.ringTeardown c rest s ∧ c.u 0 1 = r.val ∧
      (ringRt (taken c rest s) r).isUp = false) ∧
    (∃ (s : State) (c : Cmd) (rest : List Cmd) (r : Fin 16), Ready Instr.ringTeardown c rest s ∧ c.u 0 1 = r.val ∧
      (ringRt (taken c rest s) r).isUp = true) ∧
    (∃ (s : State) (c : Cmd) (rest : List Cmd) (x : Nat), udpBad c = some x ∧ Ready Instr.udpDestSet c rest s) ∧
    (∃ (s : State) (c : Cmd) (rest : List Cmd) (d : Fin 8), Ready Instr.udpDestSet c rest s ∧ c.u 0 1 = d.val ∧ udpBad c = none ∧
      bit 0 (c.u 1 1) = true ∧ (vget (taken c rest s).records.udp d).enabled = true) ∧
    (∃ (s : State) (c : Cmd) (rest : List Cmd) (d : Fin 8), Ready Instr.udpDestSet c rest s ∧ c.u 0 1 = d.val ∧ udpBad c = none ∧
      bit 0 (c.u 1 1) = true ∧ (vget (taken c rest s).records.udp d).enabled = false) ∧
    (∃ (s : State) (c : Cmd) (rest : List Cmd) (d : Fin 8), Ready Instr.udpDestSet c rest s ∧ c.u 0 1 = d.val ∧ udpBad c = none ∧
      bit 0 (c.u 1 1) = false) :=
  ⟨⟨ask 0x901 (num [(1, 0), (1, 0), (1, 4), (1, 18), (4, 10), (8, 4096)]) (onHostRing id up), _, [],
    ready_of_now [] rfl (by decide +kernel), by decide +kernel⟩,
   ⟨ask 0x901 (num [(1, 0), (1, 0), (1, 4), (1, 18), (4, 10), (8, 4097)]) up, _, [], ready_of_now [] rfl (by decide +kernel),
     by decide +kernel⟩,
   ⟨ask 0x901 (num [(1, 16), (1, 0), (1, 4), (1, 18), (4, 10), (8, 4096)]) up, _, [], ready_of_now [] rfl (by decide +kernel),
     by decide +kernel⟩,
   ⟨ask 0x901 (num [(1, 0), (1, 2), (1, 4), (1, 18), (4, 10), (8, 4096)]) up, _, [], ready_of_now [] rfl (by decide +kernel),
     by decide +kernel⟩,
   ⟨ask 0x901 (num [(1, 0), (1, 0), (1, 32), (1, 18), (4, 10), (8, 4096)]) up, _, [], ready_of_now [] rfl (by decide +kernel),
     by decide +kernel⟩,
   ⟨ask 0x901 (num [(1, 0), (1, 0), (1, 4), (1, 17), (4, 10), (8, 4096)]) up, _, [], 0, 0, 4, ready_of_now [] rfl (by decide +kernel),
     by decide +kernel⟩,
   ⟨ask 0x901 (num [(1, 0), (1, 0), (1, 4), (1, 18), (4, 10001), (8, 4096)]) up, _, [], 0, 0, 4, ready_of_now [] rfl (by decide +kernel),
     by decide +kernel⟩,
   ⟨ask 0x901 (num [(1, 0), (1, 1), (1, 4), (1, 18), (4, 10), (8, 4096)]) (up.modPort 1 fun h => { h with linkUp := false }), _, [], 0,
     1, 4, ready_of_now [] rfl (by decide +kernel), by decide +kernel⟩,
   ⟨ask 0x901 (num [(1, 0), (1, 0), (1, 4), (1, 18), (4, 10), (8, 4096)]) up, _, [], 0, 0, 4, ready_of_now [] rfl (by decide +kernel),
     by decide +kernel⟩,
   ⟨ask 0x902 (num [(1, 16)]) up, _, [], ready_of_now [] rfl (by decide +kernel), by decide +kernel⟩,
   ⟨ask 0x902 (num [(1, 0)]) up, _, [], 0, ready_of_now [] rfl (by decide +kernel), by decide +kernel⟩,
   ⟨ask 0x902 (num [(1, 0)]) (onHostRing id up), _, [], 0, ready_of_now [] rfl (by decide +kernel), by decide +kernel⟩,
   ⟨ask 0x903 ((udpReq 1).set 2 3) up, _, [], _, rfl, ready_of_now [] rfl (by decide +kernel)⟩,
   ⟨ask 0x903 (udpReq 1) (atUdp (fun u => { u with enabled := true }) up), _, [], 0, ready_of_now [] rfl (by decide +kernel),
     by decide +kernel⟩,
   ⟨ask 0x903 (udpReq 1) up, _, [], 0, ready_of_now [] rfl (by decide +kernel), by decide +kernel⟩,
   ⟨ask 0x903 (udpReq 0) (atUdp (fun u => { u with enabled := true, pending := [[1, 2]] }) up), _, [], 0,
     ready_of_now [] rfl (by decide +kernel), by decide +kernel⟩⟩

theorem witness_FabricLinks :
    (∃ (s : State), (¬(engines s = true ∧ locked s 6 = true))) ∧
    (∃ (s : State) (f : Fin 12) (cause : Fin 4), (¬((s.fabLane f).state = LinkState.linking ∧ cause ≠ 0))) ∧
    (∃ (s : State) (f : Fin 12) (cause : Fin 4), (engines s = true ∧ locked s 6 = true) ∧ (s.fabLane f).state = LinkState.linking ∧
      cause ≠ 0) ∧
    (∃ (s : State) (f : Fin 12), (¬(((s.fabLane f).state = LinkState.linking ∨ (s.fabLane f).state = LinkState.failed ∧
      (s.fabLane f).failCause ≤ 3) ∧ (s.fabLane f).peak.isSome = true))) ∧
    (∃ (s : State) (f : Fin 12) (p : Nat), (engines s = true ∧ locked s 6 = true) ∧
      (((s.fabLane f).state = LinkState.linking ∨ (s.fabLane f).state = LinkState.failed ∧ (s.fabLane f).failCause ≤ 3) ∧
      (s.fabLane f).peak.isSome = true) ∧ p ≠ 5696) ∧
    (∃ (s : State) (f : Fin 12) (p : Nat), p = 5696 ∧ (engines s = true ∧ locked s 6 = true) ∧
      (((s.fabLane f).state = LinkState.linking ∨ (s.fabLane f).state = LinkState.failed ∧ (s.fabLane f).failCause ≤ 3) ∧
      (s.fabLane f).peak.isSome = true)) ∧
    (∃ (s : State) (f : Fin 12), measured (s.fabLane f) = false) ∧
    (∃ (s : State) (f : Fin 12) (node : Nat) (depth : Nat), (engines s = true ∧ locked s 6 = true) ∧ measured (s.fabLane f) = true ∧
      topologyOk s f node depth = true) ∧
    (∃ (s : State) (f : Fin 12) (node : Nat) (depth : Nat), (engines s = true ∧ locked s 6 = true) ∧ measured (s.fabLane f) = true ∧
      topologyOk s f node depth = false) ∧
    (∃ (s : State) (f : Fin 12) (m : FabricMsg) (n : Nat), m.body = FabBody.probe n ∧ NewMessage f m s) ∧
    (∃ (s : State) (f : Fin 12) (m : FabricMsg) (n : Nat), m.body = FabBody.echo n ∧ NewMessage f m s ∧
      ((s.fabLane f).state ≠ LinkState.measuring ∨ 64 ≤ (s.fabLane f).probes.length)) ∧
    (∃ (s : State) (f : Fin 12) (m : FabricMsg) (n : Nat), m.body = FabBody.echo n ∧ NewMessage f m s ∧
      (s.fabLane f).state = LinkState.measuring ∧ (s.fabLane f).probes.length < 63) ∧
    (∃ (s : State) (f : Fin 12) (m : FabricMsg) (n : Nat) (x : Nat), m.body = FabBody.echo n ∧ NewMessage f m s ∧
      (s.fabLane f).state = LinkState.measuring ∧ (s.fabLane f).probes.length = 63 ∧ (s.fabLane f).probes.sum + x ≤ 90000 * 128) ∧
    (∃ (s : State) (f : Fin 12) (m : FabricMsg) (n : Nat) (x : Nat), m.body = FabBody.echo n ∧ NewMessage f m s ∧
      (s.fabLane f).state = LinkState.measuring ∧ (s.fabLane f).probes.length = 63 ∧ 90000 * 128 < (s.fabLane f).probes.sum + x) ∧
    (∃ (s : State) (f : Fin 12), (¬(engines s = true ∧ (s.fabLane f).state = LinkState.up ∧ (s.fabLane f).lastBeat + 8000 ≤ s.time.tclk))) ∧
    (∃ (s : State) (f : Fin 12), (engines s = true ∧ (s.fabLane f).state = LinkState.up ∧ (s.fabLane f).lastBeat + 8000 ≤ s.time.tclk)) :=
  ⟨⟨State.reset, by decide +kernel⟩,
   ⟨atLink (fun l => { l with state := .linking, use := 1, peak := some 5 }) (asWorker .unjoined up), 0, 0, by decide +kernel⟩,
   ⟨atLink (fun l => { l with state := .linking, use := 1, peak := some 5 }) (asWorker .unjoined up), 0, 1, by decide +kernel⟩,
   ⟨atLink (fun l => { l with state := .linking, use := 1, peak := some 5 }) (asWorker .unjoined up), 1, by decide +kernel⟩,
   ⟨atLink (fun l => { l with state := .linking, use := 1, peak := some 5 }) (asWorker .unjoined up), 0, 0, by decide +kernel⟩,
   ⟨atLink (fun l => { l with state := .linking, use := 1, peak := some 5 }) (asWorker .unjoined up), 0, _, rfl, by decide +kernel⟩,
   ⟨atLink (fun l => { l with state := .linking, use := 1, peak := some 5 }) (asWorker .unjoined up), 0, by decide +kernel⟩,
   ⟨atLink (fun l => { l with state := .measuring, probes := List.replicate 64 50000 }) (asWorker .unjoined up), 0, 0, 0,
     by decide +kernel⟩,
   ⟨atLink (fun l => { l with state := .measuring, probes := List.replicate 64 50000 }) (asWorker .unjoined up), 0, 0, 1,
     by decide +kernel⟩,
   ⟨asWorker .unjoined up, 0,
     { src := 0, dst := 5, mseq := 9, wait := 0, copy := false, first := true, last := true, crcOk := true, body := FabBody.probe 7 }, _,
     rfl, ⟨by decide +kernel, by decide +kernel, by decide +kernel⟩⟩,
   ⟨asManager up, 0, { src := 3, dst := 0, mseq := 9, wait := 0, copy := false, first := true, last := true, crcOk := true, body := FabBody.echo 5 },
     _, rfl, ⟨by decide +kernel, by decide +kernel, by decide +kernel⟩, by decide +kernel⟩,
   ⟨atLink (fun l => { l with state := .measuring }) (asWorker .unjoined up), 0,
     { src := 0, dst := 5, mseq := 9, wait := 0, copy := false, first := true, last := true, crcOk := true, body := FabBody.echo 7 }, _,
     rfl, ⟨by decide +kernel, by decide +kernel, by decide +kernel⟩, by decide +kernel⟩,
   ⟨atLink (fun l => { l with state := .measuring, probes := List.replicate 63 50000 }) (asWorker .unjoined up), 0,
     { src := 0, dst := 5, mseq := 9, wait := 0, copy := false, first := true, last := true, crcOk := true, body := FabBody.echo 7 }, _,
     50000, rfl, ⟨by decide +kernel, by decide +kernel, by decide +kernel⟩, by decide +kernel⟩,
   ⟨atLink (fun l => { l with state := .measuring, probes := List.replicate 63 50000 }) (asWorker .unjoined up), 0,
     { src := 0, dst := 5, mseq := 9, wait := 0, copy := false, first := true, last := true, crcOk := true, body := FabBody.echo 7 }, _,
     9000000, rfl, ⟨by decide +kernel, by decide +kernel, by decide +kernel⟩, by decide +kernel⟩,
   ⟨atLink (fun l => { l with state := .linking, use := 1, peak := some 5 }) (asWorker .unjoined up), 0, by decide +kernel⟩,
   ⟨asWorker .unjoined up, 0, by decide +kernel⟩⟩

theorem witness_FabricHeartbeats :
    (∃ (s : State), (engines s = false ∨ s.fabric.role = Role.off)) ∧
    (∃ (s : State), engines s = true ∧ s.fabric.role ≠ Role.off) ∧
    (∃ (s : State) (f : Fin 12) (m : FabricMsg) (sent : Nat) (r : NodeReport), m.body = FabBody.heartbeat sent r ∧
      linkTakes s f m = true ∧ m.crcOk = true) ∧
    (∃ (s : State) (f : Fin 12) (m : FabricMsg) (k : Nat), NewMessage f m s ∧ m.body = FabBody.epochMark k ∧ markAgrees s k = true) ∧
    (∃ (s : State) (f : Fin 12) (m : FabricMsg) (k : Nat), NewMessage f m s ∧ m.body = FabBody.epochMark k ∧ markAgrees s k = false) :=
  ⟨⟨up, by decide +kernel⟩,
   ⟨asWorker .unjoined up, by decide +kernel⟩,
   ⟨asWorker .member up, 0,
     { src := 0, dst := 63, mseq := 9, wait := 0, copy := false, first := true, last := true, crcOk := true, body := FabBody.heartbeat 5 { state := 0, depth := 0, timeValid := false, source := 0, streams := 0#16, planId := 0 } },
     _, _, rfl, by decide +kernel⟩,
   ⟨asWorker .member up, 0,
     { src := 0, dst := 63, mseq := 9, wait := 0, copy := false, first := true, last := true, crcOk := true, body := FabBody.epochMark 10000 },
     10000, ⟨by decide +kernel, by decide +kernel, by decide +kernel⟩, by decide +kernel⟩,
   ⟨asWorker .member up, 0,
     { src := 0, dst := 63, mseq := 9, wait := 0, copy := false, first := true, last := true, crcOk := true, body := FabBody.epochMark 9999 },
     9999, ⟨by decide +kernel, by decide +kernel, by decide +kernel⟩, by decide +kernel⟩⟩

theorem witness_FabricReception :
    (∃ (s : State) (f : Fin 12) (m : FabricMsg) (x : Nat) (i : Instr × Bool), i ∈ receptionRows f m x ∧ linkTakes s f m = false) ∧
    (∃ (s : State) (f : Fin 12) (m : FabricMsg) (x : Nat) (i : Instr × Bool), i ∈ receptionRows f m x ∧ linkTakes s f m = true ∧
      i.snd = true ∧ m.crcOk = false) ∧
    (∃ (s : State) (f : Fin 12) (m : FabricMsg) (x : Nat) (i : Instr × Bool), i ∈ receptionRows f m x ∧ linkTakes s f m = true ∧
      m.body = FabBody.other ∧ m.crcOk = true) ∧
    (∃ (f : Fin 12) (m : FabricMsg) (x : Nat) (i : Instr × Bool), i ∈ receptionRows f m x ∧ i.snd = false ∧ m.body ≠ FabBody.other) ∧
    (∃ (s : State) (f : Fin 12) (m : FabricMsg) (x : Nat) (i : Instr × Bool), i ∈ receptionRows f m x ∧ linkTakes s f m = true ∧
      i.snd = true ∧ m.crcOk = true ∧ forwardedLate (s.fabLane f) m = true) ∧
    (∃ (s : State) (f : Fin 12) (m : FabricMsg) (x : Nat) (i : Instr × Bool), i ∈ receptionRows f m x ∧ linkTakes s f m = true ∧
      i.snd = true ∧ i.fst ≠ Instr.heartbeat f m ∧ m.crcOk = true ∧ (m.src, seenClass s f m, m.mseq) ∈ s.fabric.seen) ∧
    (∃ (s : State) (f : Fin 12) (m : FabricMsg) (k : Nat) (r : NodeReport), m.body = FabBody.join k r ∧ NewMessage f m s ∧
      m.dst ≠ nodeId s ∧ s.fabric.role ≠ Role.manager) ∧
    (∃ (s : State) (f : Fin 12) (m : FabricMsg) (j : Nat) (a : Nat) (b : Bool) (r : Nat), m.body = FabBody.joinAck j a b r ∧
      NewMessage f m s ∧ m.dst ≠ nodeId s) ∧
    (∃ (s : State) (f : Fin 12) (m : FabricMsg) (p : Nat) (g : Nat) (d : List Byte), m.body = FabBody.tunnelCmd p g d ∧
      NewMessage f m s ∧ m.dst ≠ nodeId s) ∧
    (∃ (s : State) (f : Fin 12) (m : FabricMsg) (p : Nat) (g : Nat) (d : List Byte), m.body = FabBody.tunnelRsp p g d ∧
      NewMessage f m s ∧ m.dst ≠ nodeId s) ∧
    (∃ (s : State) (f : Fin 12) (m : FabricMsg) (p : Nat) (g : Nat) (d : List Byte), m.body = FabBody.tunnelData p g d ∧
      NewMessage f m s ∧ m.dst ≠ nodeId s) :=
  ⟨⟨asWorker .member up, 1,
    { src := 0, dst := 63, mseq := 9, wait := 0, copy := false, first := true, last := true, crcOk := false, body := FabBody.arm 9 3 false 1 },
    0, (Instr.probe 1 { src := 0, dst := 63, mseq := 9, wait := 0, copy := false, first := true, last := true, crcOk := false, body := FabBody.arm 9 3 false 1 },
    false), by decide +kernel⟩,
   ⟨asWorker .member up, 0,
     { src := 0, dst := 63, mseq := 9, wait := 0, copy := false, first := true, last := true, crcOk := false, body := FabBody.arm 9 3 false 1 },
     0, (Instr.fabricArm 0
     { src := 0, dst := 63, mseq := 9, wait := 0, copy := false, first := true, last := true, crcOk := false, body := FabBody.arm 9 3 false 1 },
     true), by decide +kernel⟩,
   ⟨asWorker .member up, 0,
     { src := 0, dst := 63, mseq := 9, wait := 0, copy := false, first := true, last := true, crcOk := true, body := FabBody.other }, 0,
     (Instr.probe 0 { src := 0, dst := 63, mseq := 9, wait := 0, copy := false, first := true, last := true, crcOk := true, body := FabBody.other },
     false), by decide +kernel⟩,
   ⟨0, { src := 0, dst := 63, mseq := 9, wait := 0, copy := false, first := true, last := true, crcOk := false, body := FabBody.arm 9 3 false 1 },
     0, (Instr.probe 0 { src := 0, dst := 63, mseq := 9, wait := 0, copy := false, first := true, last := true, crcOk := false, body := FabBody.arm 9 3 false 1 },
     false), by decide +kernel⟩,
   ⟨asWorker .member up, 0,
     { src := 0, dst := 63, mseq := 9, wait := 1000000, copy := false, first := true, last := true, crcOk := true, body := FabBody.arm 9 3 false 1 },
     0, (Instr.fabricArm 0
     { src := 0, dst := 63, mseq := 9, wait := 1000000, copy := false, first := true, last := true, crcOk := true, body := FabBody.arm 9 3 false 1 },
     true), by decide +kernel⟩,
   ⟨atFabric (fun b => { b with seen := [(0, 0, 9)] }) (asWorker .member up), 0,
     { src := 0, dst := 63, mseq := 9, wait := 0, copy := false, first := true, last := true, crcOk := true, body := FabBody.arm 9 3 false 1 },
     0, (Instr.fabricArm 0
     { src := 0, dst := 63, mseq := 9, wait := 0, copy := false, first := true, last := true, crcOk := true, body := FabBody.arm 9 3 false 1 },
     true), by decide +kernel⟩,
   ⟨asWorker .member up, 0,
     { src := 3, dst := 7, mseq := 9, wait := 0, copy := false, first := true, last := true, crcOk := true, body := FabBody.join 10001 { state := 0, depth := 1, timeValid := false, source := 0, streams := 0#16, planId := 0 } },
     _, _, rfl, ⟨by decide +kernel, by decide +kernel, by decide +kernel⟩, by decide +kernel⟩,
   ⟨asWorker .member up, 0,
     { src := 0, dst := 7, mseq := 9, wait := 0, copy := false, first := true, last := true, crcOk := true, body := FabBody.joinAck 10002 3 true 0 },
     _, _, _, _, rfl, ⟨by decide +kernel, by decide +kernel, by decide +kernel⟩, by decide +kernel⟩,
   ⟨asWorker .member up, 0,
     { src := 0, dst := 7, mseq := 9, wait := 0, copy := false, first := true, last := true, crcOk := true, body := FabBody.tunnelCmd 0 77 [1#8, 2#8] },
     _, _, _, rfl, ⟨by decide +kernel, by decide +kernel, by decide +kernel⟩, by decide +kernel⟩,
   ⟨asWorker .member up, 0,
     { src := 0, dst := 7, mseq := 9, wait := 0, copy := false, first := true, last := true, crcOk := true, body := FabBody.tunnelRsp 0 77 [1#8, 2#8] },
     _, _, _, rfl, ⟨by decide +kernel, by decide +kernel, by decide +kernel⟩, by decide +kernel⟩,
   ⟨asWorker .member up, 0,
     { src := 0, dst := 7, mseq := 9, wait := 0, copy := false, first := true, last := true, crcOk := true, body := FabBody.tunnelData 0 77 [1#8, 2#8, 3#8] },
     _, _, _, rfl, ⟨by decide +kernel, by decide +kernel, by decide +kernel⟩, by decide +kernel⟩⟩

theorem witness_FabricMembership :
    (∃ (s : State), (¬(engines s = true ∧ s.fabric.role = Role.worker ∧ activeUplink s ≠ [] ∧
      (s.fabric.member = Member.unjoined ∨ s.fabric.member = Member.orphan ∨ s.fabric.member = Member.joining ∧
      s.fabric.joining = none)))) ∧
    (∃ (s : State) (f : Fin 12), activeUplink s = [f] ∧ (engines s = true ∧ s.fabric.role = Role.worker ∧ activeUplink s ≠ [] ∧
      (s.fabric.member = Member.unjoined ∨ s.fabric.member = Member.orphan ∨ s.fabric.member = Member.joining ∧
      s.fabric.joining = none))) ∧
    (∃ (s : State) (f : Fin 12) (m : FabricMsg) (k : Nat) (r : NodeReport) (n : Fin 64) (reason : Nat), m.body = FabBody.join k r ∧
      NewMessage f m s ∧ joinRefused s n k = some reason ∧ s.fabric.role = Role.manager ∧ m.src = n.val) ∧
    (∃ (s : State) (f : Fin 12) (m : FabricMsg) (k : Nat) (r : NodeReport) (n : Fin 64), m.body = FabBody.join k r ∧ NewMessage f m s ∧
      joinRefused s n k = none ∧ s.fabric.role = Role.manager ∧ m.src = n.val) ∧
    (∃ (s : State) (f : Fin 12) (m : FabricMsg) (j : Nat) (armed : Nat) (accept : Bool) (reason : Nat),
      m.body = FabBody.joinAck j armed accept reason ∧ NewMessage f m s ∧ m.dst = nodeId s ∧ (¬(s.fabric.role = Role.worker ∧
      s.fabric.member = Member.joining))) ∧
    (∃ (s : State) (f : Fin 12) (m : FabricMsg) (j : Nat) (armed : Nat) (accept : Bool) (reason : Nat),
      m.body = FabBody.joinAck j armed accept reason ∧ accept = true ∧ NewMessage f m s ∧ m.dst = nodeId s ∧
      (s.fabric.role = Role.worker ∧ s.fabric.member = Member.joining)) ∧
    (∃ (s : State) (f : Fin 12) (m : FabricMsg) (j : Nat) (armed : Nat) (accept : Bool) (reason : Nat),
      m.body = FabBody.joinAck j armed accept reason ∧ accept = false ∧ NewMessage f m s ∧ m.dst = nodeId s ∧
      (s.fabric.role = Role.worker ∧ s.fabric.member = Member.joining)) ∧
    (∃ (s : State), (¬(engines s = true ∧ s.fabric.role = Role.worker ∧
      (s.fabLane s.fabric.activeUp).lastOwn + 2000 ≤ s.time.tclk) ∨ (List.filter (fun u => decide (u ≠ s.fabric.activeUp)) (uplinks
      s)).head? = none)) ∧
    (∃ (s : State) (g : Fin 12), (List.filter (fun u => decide (u ≠ s.fabric.activeUp)) (uplinks s)).head? = some g ∧ (engines s = true ∧
      s.fabric.role = Role.worker ∧ (s.fabLane s.fabric.activeUp).lastOwn + 2000 ≤ s.time.tclk)) ∧
    (∃ (s : State) (n : Fin 64), (¬(engines s = true ∧ s.fabric.role = Role.manager ∧
      ((s.nodeRt n).state = NodeState.joining ∨ (s.nodeRt n).state = NodeState.member) ∧ (s.nodeRt n).lastBeat + 8000 ≤ s.time.tclk))) ∧
    (∃ (s : State) (n : Fin 64), (engines s = true ∧ s.fabric.role = Role.manager ∧
      ((s.nodeRt n).state = NodeState.joining ∨ (s.nodeRt n).state = NodeState.member) ∧ (s.nodeRt n).lastBeat + 8000 ≤ s.time.tclk)) ∧
    (∃ (s : State), (¬(engines s = true ∧ s.fabric.role = Role.worker ∧ s.fabric.member = Member.member ∧
      s.fabric.lastManager + 8000 ≤ s.time.tclk))) ∧
    (∃ (s : State), (engines s = true ∧ s.fabric.role = Role.worker ∧ s.fabric.member = Member.member ∧
      s.fabric.lastManager + 8000 ≤ s.time.tclk)) :=
  ⟨⟨atNode (fun n => { n with state := .lost }) (asManager up), by decide +kernel⟩,
   ⟨asWorker .joining up, _, rfl, by decide +kernel⟩,
   ⟨atNode (fun n => { n with state := .lost }) (asManager up), 0,
     { src := 3, dst := 0, mseq := 9, wait := 0, copy := false, first := true, last := true, crcOk := true, body := FabBody.join 10002 { state := 0, depth := 1, timeValid := false, source := 0, streams := 0#16, planId := 0 } },
     10002, _, 3, 2, rfl, ⟨by decide +kernel, by decide +kernel, by decide +kernel⟩, by decide +kernel⟩,
   ⟨atNode (fun n => { n with state := .lost }) (asManager up), 0,
     { src := 3, dst := 0, mseq := 9, wait := 0, copy := false, first := true, last := true, crcOk := true, body := FabBody.join 10001 { state := 0, depth := 1, timeValid := false, source := 0, streams := 0#16, planId := 0 } },
     10001, _, 3, rfl, ⟨by decide +kernel, by decide +kernel, by decide +kernel⟩, by decide +kernel⟩,
   ⟨asWorker .member up, 0,
     { src := 0, dst := 5, mseq := 9, wait := 0, copy := false, first := true, last := true, crcOk := true, body := FabBody.joinAck 10002 3 true 0 },
     _, _, _, _, rfl, ⟨by decide +kernel, by decide +kernel, by decide +kernel⟩, by decide +kernel⟩,
   ⟨asWorker .joining up, 0,
     { src := 0, dst := 5, mseq := 9, wait := 0, copy := false, first := true, last := true, crcOk := true, body := FabBody.joinAck 10002 3 true 0 },
     _, _, _, _, rfl, rfl, ⟨by decide +kernel, by decide +kernel, by decide +kernel⟩, by decide +kernel⟩,
   ⟨asWorker .joining up, 0,
     { src := 0, dst := 5, mseq := 9, wait := 0, copy := false, first := true, last := true, crcOk := true, body := FabBody.joinAck 10002 3 false 2 },
     _, _, _, _, rfl, rfl, ⟨by decide +kernel, by decide +kernel, by decide +kernel⟩, by decide +kernel⟩,
   ⟨asWorker .joining up, by decide +kernel⟩,
   ⟨(asWorker .member up).modFabLane 1 fun l => { l with state := .up, use := 2 }, _, rfl, by decide +kernel⟩,
   ⟨asWorker .joining up, 0, by decide +kernel⟩,
   ⟨asManager up, 3, by decide +kernel⟩,
   ⟨asWorker .joining up, by decide +kernel⟩,
   ⟨(asWorker .member up).modFabLane 1 fun l => { l with state := .up, use := 2 }, by decide +kernel⟩⟩

theorem witness_FabricTriggers :
    (∃ (s : State) (f : Fin 12) (m : FabricMsg) (e : Nat) (mask : Nat) (d : Bool) (seq : Nat), m.body = FabBody.arm e mask d seq ∧
      NewMessage f m s ∧ (s.fabric.role = Role.worker ∧ fromBelow s f = true)) ∧
    (∃ (s : State) (f : Fin 12) (m : FabricMsg) (e : Nat) (mask : Nat) (d : Bool) (seq : Nat), m.body = FabBody.arm e mask d seq ∧
      NewMessage f m s ∧ (s.fabric.role = Role.manager ∨ s.fabric.role = Role.worker ∧ fromBelow s f = false)) ∧
    (∃ (s : State) (f : Fin 12) (m : FabricMsg) (ts : Nat), m.body = FabBody.sync ts ∧ NewMessage f m s ∧ (s.fabric.role = Role.worker ∧
      fromBelow s f = true)) ∧
    (∃ (s : State) (f : Fin 12) (m : FabricMsg) (ts : Nat), m.body = FabBody.sync ts ∧ NewMessage f m s ∧
      (s.fabric.role = Role.manager ∨ s.fabric.role = Role.worker ∧ fromBelow s f = false)) ∧
    (∃ (s : State) (f : Fin 12) (m : FabricMsg) (x : FireMsg), m.body = FabBody.fire x ∧ NewMessage f m s ∧ m.src = nodeId s ∧
      s.fabric.role = Role.manager) ∧
    (∃ (s : State) (f : Fin 12) (m : FabricMsg) (x : FireMsg), m.body = FabBody.fire x ∧ NewMessage f m s ∧ m.src = nodeId s ∧
      s.fabric.role = Role.worker ∧ fromBelow s f = false) ∧
    (∃ (s : State) (f : Fin 12) (m : FabricMsg) (x : FireMsg), m.body = FabBody.fire x ∧ NewMessage f m s ∧ m.src ≠ nodeId s ∧
      (¬(s.fabric.role = Role.manager → memberAt s m.src x.time = true))) ∧
    (∃ (s : State) (f : Fin 12) (m : FabricMsg) (x : FireMsg), m.body = FabBody.fire x ∧ NewMessage f m s ∧
      (s.fabric.role = Role.worker ∧ fromBelow s f = true)) ∧
    (∃ (s : State) (f : Fin 12) (m : FabricMsg) (x : FireMsg), m.body = FabBody.fire x ∧ x.kind = FireClass.fire ∧ NewMessage f m s ∧
      m.src ≠ nodeId s ∧ (s.fabric.role = Role.manager → memberAt s m.src x.time = true) ∧
      (s.fabric.role = Role.manager ∨ s.fabric.role = Role.worker ∧ fromBelow s f = false)) ∧
    (∃ (s : State) (f : Fin 12) (m : FabricMsg) (x : FireMsg), m.body = FabBody.fire x ∧ x.kind = FireClass.provisional ∧
      NewMessage f m s ∧ m.src ≠ nodeId s ∧ (s.fabric.role = Role.manager → memberAt s m.src x.time = true) ∧
      (s.fabric.role = Role.manager ∨ s.fabric.role = Role.worker ∧ fromBelow s f = false)) ∧
    (∃ (s : State) (f : Fin 12) (m : FabricMsg) (x : FireMsg) (p : RemoteProv), m.body = FabBody.fire x ∧ x.kind = FireClass.confirm ∧
      List.find? (fun p => p.named m.src x) s.geyser.remote = some p ∧ NewMessage f m s ∧ m.src ≠ nodeId s ∧
      (s.fabric.role = Role.manager → memberAt s m.src x.time = true) ∧ (s.fabric.role = Role.manager ∨ s.fabric.role = Role.worker ∧
      fromBelow s f = false)) ∧
    (∃ (s : State) (f : Fin 12) (m : FabricMsg) (x : FireMsg) (p : RemoteProv), m.body = FabBody.fire x ∧ x.kind = FireClass.retract ∧
      List.find? (fun p => p.named m.src x) s.geyser.remote = some p ∧ NewMessage f m s ∧ m.src ≠ nodeId s ∧
      (s.fabric.role = Role.manager → memberAt s m.src x.time = true) ∧ (s.fabric.role = Role.manager ∨ s.fabric.role = Role.worker ∧
      fromBelow s f = false)) ∧
    (∃ (s : State) (f : Fin 12) (m : FabricMsg) (x : FireMsg), m.body = FabBody.fire x ∧
      List.find? (fun p => p.named m.src x) s.geyser.remote = none ∧ NewMessage f m s ∧ m.src ≠ nodeId s ∧
      (s.fabric.role = Role.manager → memberAt s m.src x.time = true) ∧ (s.fabric.role = Role.manager ∨ s.fabric.role = Role.worker ∧
      fromBelow s f = false) ∧ (x.kind = FireClass.confirm ∨ x.kind = FireClass.retract)) ∧
    (∃ (s : State), (engines s = false ∨ List.find? (fun p => decide (boundaryTime s (p.epoch + 2) ≤ now s)) s.geyser.remote = none)) ∧
    (∃ (s : State) (p : RemoteProv), List.find? (fun p => decide (boundaryTime s (p.epoch + 2) ≤ now s)) s.geyser.remote = some p ∧
      engines s = true) :=
  ⟨⟨atLink (fun l => { l with use := 3, partner := 7 }) (asWorker .member up), 0,
    { src := 7, dst := 63, mseq := 9, wait := 0, copy := false, first := true, last := true, crcOk := true, body := FabBody.arm 10002 1 false 1 },
    _, _, _, _, rfl, ⟨by decide +kernel, by decide +kernel, by decide +kernel⟩, by decide +kernel⟩,
   ⟨onSeq { progE 6 with armGroups := 1 } (asWorker .member up), 0,
     { src := 0, dst := 63, mseq := 9, wait := 0, copy := false, first := true, last := true, crcOk := true, body := FabBody.arm 10002 1 false 1 },
     _, _, _, _, rfl, ⟨by decide +kernel, by decide +kernel, by decide +kernel⟩, by decide +kernel⟩,
   ⟨atLink (fun l => { l with use := 3, partner := 7 }) (asWorker .member up), 0,
     { src := 7, dst := 63, mseq := 9, wait := 0, copy := false, first := true, last := true, crcOk := true, body := FabBody.sync 720896000000000 },
     _, rfl, ⟨by decide +kernel, by decide +kernel, by decide +kernel⟩, by decide +kernel⟩,
   ⟨asWorker .member up, 0,
     { src := 0, dst := 63, mseq := 9, wait := 0, copy := false, first := true, last := true, crcOk := true, body := FabBody.sync 720896000000000 },
     _, rfl, ⟨by decide +kernel, by decide +kernel, by decide +kernel⟩, by decide +kernel⟩,
   ⟨asManager up, 0, { src := 0, dst := 63, mseq := 9, wait := 0, copy := false, first := true, last := true, crcOk := true, body := FabBody.fire { kind := FireClass.fire, time := 655360000000000, seq := 2, index := 0, channel := 4, sequencer := 1, anchorValid := false, anchorStream := 0, reason := 0 } },
     _, rfl, ⟨by decide +kernel, by decide +kernel, by decide +kernel⟩, by decide +kernel⟩,
   ⟨waits292 (asWorker .member up), 0,
     { src := 5, dst := 63, mseq := 9, wait := 0, copy := false, first := true, last := true, crcOk := true, body := FabBody.fire { kind := FireClass.fire, time := 655360000000000, seq := 2, index := 0, channel := 4, sequencer := 1, anchorValid := false, anchorStream := 0, reason := 0 } },
     _, rfl, ⟨by decide +kernel, by decide +kernel, by decide +kernel⟩, by decide +kernel⟩,
   ⟨asManager up, 0, { src := 3, dst := 63, mseq := 9, wait := 0, copy := false, first := true, last := true, crcOk := true, body := FabBody.fire { kind := FireClass.fire, time := 655360000000000, seq := 2, index := 0, channel := 4, sequencer := 1, anchorValid := false, anchorStream := 0, reason := 0 } },
     _, rfl, ⟨by decide +kernel, by decide +kernel, by decide +kernel⟩, by decide +kernel⟩,
   ⟨atLink (fun l => { l with use := 3, partner := 7 }) (asWorker .member up), 0,
     { src := 7, dst := 63, mseq := 9, wait := 0, copy := false, first := true, last := true, crcOk := true, body := FabBody.fire { kind := FireClass.fire, time := 655360000000000, seq := 2, index := 0, channel := 4, sequencer := 1, anchorValid := false, anchorStream := 0, reason := 0 } },
     _, rfl, ⟨by decide +kernel, by decide +kernel, by decide +kernel⟩, by decide +kernel⟩,
   ⟨waits292 (asWorker .member up), 0,
     { src := 0, dst := 63, mseq := 9, wait := 0, copy := false, first := true, last := true, crcOk := true, body := FabBody.fire { kind := FireClass.fire, time := 655360000000000, seq := 2, index := 0, channel := 4, sequencer := 1, anchorValid := false, anchorStream := 0, reason := 0 } },
     _, rfl, rfl, ⟨by decide +kernel, by decide +kernel, by decide +kernel⟩, by decide +kernel⟩,
   ⟨waits292 (asWorker .member up), 0,
     { src := 0, dst := 63, mseq := 9, wait := 0, copy := false, first := true, last := true, crcOk := true, body := FabBody.fire { kind := FireClass.provisional, time := 655360000000000, seq := 2, index := 0, channel := 4, sequencer := 1, anchorValid := false, anchorStream := 0, reason := 0 } },
     _, rfl, rfl, ⟨by decide +kernel, by decide +kernel, by decide +kernel⟩, by decide +kernel⟩,
   ⟨{ waits292 (asWorker .member up) with geyser := { (waits292 (asWorker .member up)).geyser with remote := [remoteP] } }, 0,
     { src := 0, dst := 63, mseq := 9, wait := 0, copy := false, first := true, last := true, crcOk := true, body := FabBody.fire { kind := FireClass.confirm, time := 655360000000000, seq := 2, index := 0, channel := 4, sequencer := 1, anchorValid := false, anchorStream := 0, reason := 0 } },
     _, _, rfl, rfl, rfl, ⟨by decide +kernel, by decide +kernel, by decide +kernel⟩, by decide +kernel⟩,
   ⟨{ waits292 (asWorker .member up) with geyser := { (waits292 (asWorker .member up)).geyser with remote := [remoteP] } }, 0,
     { src := 0, dst := 63, mseq := 9, wait := 0, copy := false, first := true, last := true, crcOk := true, body := FabBody.fire { kind := FireClass.retract, time := 655360000000000, seq := 2, index := 0, channel := 4, sequencer := 1, anchorValid := false, anchorStream := 0, reason := 0 } },
     _, _, rfl, rfl, rfl, ⟨by decide +kernel, by decide +kernel, by decide +kernel⟩, by decide +kernel⟩,
   ⟨waits292 (asWorker .member up), 0,
     { src := 0, dst := 63, mseq := 9, wait := 0, copy := false, first := true, last := true, crcOk := true, body := FabBody.fire { kind := FireClass.confirm, time := 655360000000000, seq := 2, index := 0, channel := 4, sequencer := 1, anchorValid := false, anchorStream := 0, reason := 0 } },
     _, rfl, rfl, ⟨by decide +kernel, by decide +kernel, by decide +kernel⟩, by decide +kernel⟩,
   ⟨onSeq { progE 6 with armGroups := 1 } (asWorker .member up), by decide +kernel⟩,
   ⟨{ waits292 (asWorker .member up) with geyser := { (waits292 (asWorker .member up)).geyser with remote := [remoteP] } }, remoteP,
     by decide +kernel⟩⟩

theorem witness_ManagerReceives :
    (∃ (s : State) (f : Fin 12) (m : FabricMsg) (seq : U32) (r : Record), m.body = FabBody.recordFrag seq r ∧ NewMessage f m s ∧
      s.fabric.role = Role.worker) ∧
    (∃ (s : State) (f : Fin 12) (m : FabricMsg) (seq : U32) (r : Record) (n : Fin 64), m.body = FabBody.recordFrag seq r ∧
      NewMessage f m s ∧ s.fabric.role = Role.manager ∧ m.src = n.val) :=
  ⟨⟨atLink (fun l => { l with use := 3, partner := 7 }) (asWorker .member up), 0,
    { src := 7, dst := 0, mseq := 9, wait := 0, copy := false, first := true, last := true, crcOk := true, body := FabBody.recordFrag 9#32 { type := 9, kind := 0, node := 0, stream := none, view := none, flags := 0#16, epoch := 0, time := 0, body := [7#8, 7#8, 7#8, 7#8, 7#8, 7#8, 7#8, 7#8, 7#8, 7#8, 7#8, 7#8, 7#8, 7#8, 7#8, 7#8, 7#8, 7#8, 7#8, 7#8, 7#8, 7#8, 7#8, 7#8, 7#8, 7#8, 7#8, 7#8, 7#8, 7#8, 7#8, 7#8] } },
    _, _, rfl, ⟨by decide +kernel, by decide +kernel, by decide +kernel⟩, by decide +kernel⟩,
   ⟨atNode (fun n => { n with fabSeq := some 5 }) (asManager up), 0,
     { src := 3, dst := 0, mseq := 9, wait := 0, copy := false, first := true, last := true, crcOk := true, body := FabBody.recordFrag 9#32 { type := 9, kind := 0, node := 0, stream := none, view := none, flags := 0#16, epoch := 0, time := 0, body := [7#8, 7#8, 7#8, 7#8, 7#8, 7#8, 7#8, 7#8, 7#8, 7#8, 7#8, 7#8, 7#8, 7#8, 7#8, 7#8, 7#8, 7#8, 7#8, 7#8, 7#8, 7#8, 7#8, 7#8, 7#8, 7#8, 7#8, 7#8, 7#8, 7#8, 7#8, 7#8] } },
     _, _, 3, rfl, ⟨by decide +kernel, by decide +kernel, by decide +kernel⟩, by decide +kernel⟩⟩

theorem witness_MailboxTunnel :
    (∃ (s : State) (m : FabricMsg), ((if m.first = true then some [] else Option.map (fun x => x.snd) (List.find? (fun p => decide (p.fst
      = m.src)) s.fabric.partials)) = none)) ∧
    (∃ (s : State) (m : FabricMsg) (bs : List Byte), ((if m.first = true then some [] else Option.map (fun x => x.snd) (List.find? (fun p
      => decide (p.fst = m.src)) s.fabric.partials)) = some bs) ∧ m.last = true) ∧
    (∃ (s : State) (m : FabricMsg) (bs : List Byte), ((if m.first = true then some [] else Option.map (fun x => x.snd) (List.find? (fun p
      => decide (p.fst = m.src)) s.fabric.partials)) = some bs) ∧ m.last = false) ∧
    (∃ (s : State) (f : Fin 12) (m : FabricMsg) (port : Nat) (tag : Nat) (data : List Byte), m.body = FabBody.tunnelCmd port tag data ∧
      NewMessage f m s ∧ m.dst = nodeId s ∧ ((assemblePart m data (noted f m s)).snd = none ∨ s.fabric.role ≠ Role.worker)) ∧
    (∃ (s : State) (f : Fin 12) (m : FabricMsg) (port : Nat) (tag : Nat) (data : List Byte) (bs : List Byte) (e : Nat × List Byte),
      m.body = FabBody.tunnelCmd port tag data ∧ (assemblePart m data (noted f m s)).snd = some bs ∧
      List.find? (fun e => decide (e.fst = tag)) (vget s.fabric.stored (tunnelOwner port).tunnelIndex) = some e ∧ NewMessage f m s ∧
      m.dst = nodeId s ∧ s.fabric.role = Role.worker) ∧
    (∃ (s : State) (f : Fin 12) (m : FabricMsg) (port : Nat) (tag : Nat) (data : List Byte) (bs : List Byte),
      m.body = FabBody.tunnelCmd port tag data ∧ (assemblePart m data (noted f m s)).snd = some bs ∧
      List.find? (fun e => decide (e.fst = tag)) (vget s.fabric.stored (tunnelOwner port).tunnelIndex) = none ∧ NewMessage f m s ∧
      m.dst = nodeId s ∧ s.fabric.role = Role.worker ∧ (Source.tunnel (tunnelOwner port) tag ∈ List.map (fun x => x.source) s.host.serial
      ∨ Source.tunnel (tunnelOwner port) tag ∈ List.map (fun x => x.cmd.source) s.host.deferred)) ∧
    (∃ (s : State) (f : Fin 12) (m : FabricMsg) (port : Nat) (tag : Nat) (data : List Byte) (bs : List Byte),
      m.body = FabBody.tunnelCmd port tag data ∧ (assemblePart m data (noted f m s)).snd = some bs ∧
      List.find? (fun e => decide (e.fst = tag)) (vget s.fabric.stored (tunnelOwner port).tunnelIndex) = none ∧ NewMessage f m s ∧
      m.dst = nodeId s ∧ s.fabric.role = Role.worker ∧ (¬(Source.tunnel (tunnelOwner port) tag ∈ List.map (fun x => x.source)
      s.host.serial ∨ Source.tunnel (tunnelOwner port) tag ∈ List.map (fun x => x.cmd.source) s.host.deferred))) ∧
    (∃ (s : State) (f : Fin 12) (m : FabricMsg) (port : Nat) (tag : Nat) (data : List Byte), m.body = FabBody.tunnelRsp port tag data ∧
      NewMessage f m s ∧ m.dst = nodeId s ∧ ((assemblePart m data (noted f m s)).snd = none ∨ List.find? (fun d => tunnelWait port m.src
      tag d.wait) s.host.deferred = none)) ∧
    (∃ (s : State) (f : Fin 12) (m : FabricMsg) (port : Nat) (tag : Nat) (data : List Byte) (bs : List Byte) (d : Deferred),
      m.body = FabBody.tunnelRsp port tag data ∧ (assemblePart m data (noted f m s)).snd = some bs ∧
      List.find? (fun d => tunnelWait port m.src tag d.wait) s.host.deferred = some d ∧ NewMessage f m s ∧ m.dst = nodeId s) ∧
    (∃ (s : State) (tag : Nat), (firmware s = false ∨ List.find? (fun d => match d.wait with | Wait.tunnel port target t x => decide (t = tag) && decide (x ≤ now s) | x => false) s.host.deferred = none)) ∧
    (∃ (s : State) (tag : Nat) (d : Deferred), List.find? (fun d => match d.wait with | Wait.tunnel port target t x => decide (t = tag) && decide (x ≤ now s) | x => false) s.host.deferred = some d ∧ firmware s = true) ∧
    (∃ (s : State) (f : Fin 12) (m : FabricMsg) (port : Nat) (tag : Nat) (data : List Byte), m.body = FabBody.tunnelData port tag data ∧
      NewMessage f m s ∧ m.dst = nodeId s) :=
  ⟨⟨waiting (.tunnel 0 3 77 5) (asManager up),
    { src := 0, dst := 0, mseq := 0, wait := 0, copy := false, first := false, last := false, crcOk := false, body := FabBody.heartbeat 0 { state := 0, depth := 0, timeValid := false, source := 0, streams := 0#16, planId := 0 } },
    by decide +kernel⟩,
   ⟨asWorker .member up,
     { src := 0, dst := 5, mseq := 9, wait := 0, copy := false, first := true, last := true, crcOk := true, body := FabBody.tunnelCmd 0 77 [1#8, 0#8, 0#8, 0#8, 1#8, 1#8, 0#8, 0#8, 0#8, 0#8, 0#8, 0#8, 0#8, 0#8, 0#8, 0#8, 0#8, 0#8, 0#8, 0#8, 0#8, 0#8, 0#8, 0#8, 0#8, 0#8, 0#8, 0#8, 0#8, 0#8, 0#8, 0#8] },
     _, rfl, by decide +kernel⟩,
   ⟨asWorker .member up,
     { src := 0, dst := 5, mseq := 9, wait := 0, copy := false, first := true, last := false, crcOk := true, body := FabBody.tunnelCmd 0 77 [1#8, 2#8] },
     _, rfl, by decide +kernel⟩,
   ⟨asWorker .member up, 0,
     { src := 0, dst := 5, mseq := 9, wait := 0, copy := false, first := true, last := false, crcOk := true, body := FabBody.tunnelCmd 0 77 [1#8, 2#8] },
     _, _, _, rfl, ⟨by decide +kernel, by decide +kernel, by decide +kernel⟩, by decide +kernel⟩,
   ⟨atFabric (fun b => { b with stored := vset b.stored 0 [(77, [1, 2])] }) (asWorker .member up), 0,
     { src := 0, dst := 5, mseq := 9, wait := 0, copy := false, first := true, last := true, crcOk := true, body := FabBody.tunnelCmd 0 77 [1#8, 0#8, 0#8, 0#8, 1#8, 1#8, 0#8, 0#8, 0#8, 0#8, 0#8, 0#8, 0#8, 0#8, 0#8, 0#8, 0#8, 0#8, 0#8, 0#8, 0#8, 0#8, 0#8, 0#8, 0#8, 0#8, 0#8, 0#8, 0#8, 0#8, 0#8, 0#8] },
     _, _, _, _, _, rfl, rfl, rfl, ⟨by decide +kernel, by decide +kernel, by decide +kernel⟩, by decide +kernel⟩,
   ⟨{ asWorker .member up with host := { up.host with serial := [{ req 0x101 [] with source := .tunnel .tunnelA 77 }] } }, 0,
     { src := 0, dst := 5, mseq := 9, wait := 0, copy := false, first := true, last := true, crcOk := true, body := FabBody.tunnelCmd 0 77 [1#8, 2#8] },
     _, _, _, _, rfl, rfl, rfl, ⟨by decide +kernel, by decide +kernel, by decide +kernel⟩, by decide +kernel⟩,
   ⟨asWorker .member up, 0,
     { src := 0, dst := 5, mseq := 9, wait := 0, copy := false, first := true, last := true, crcOk := true, body := FabBody.tunnelCmd 0 77 [1#8, 0#8, 0#8, 0#8, 1#8, 1#8, 0#8, 0#8, 0#8, 0#8, 0#8, 0#8, 0#8, 0#8, 0#8, 0#8, 0#8, 0#8, 0#8, 0#8, 0#8, 0#8, 0#8, 0#8, 0#8, 0#8, 0#8, 0#8, 0#8, 0#8, 0#8, 0#8] },
     _, _, _, _, rfl, rfl, rfl, ⟨by decide +kernel, by decide +kernel, by decide +kernel⟩, by decide +kernel⟩,
   ⟨asManager up, 0, { src := 3, dst := 0, mseq := 9, wait := 0, copy := false, first := true, last := true, crcOk := true, body := FabBody.tunnelRsp 0 77 [5#8, 0#8, 0#8, 0#8, 0#8, 0#8, 0#8, 0#8, 0#8, 0#8, 0#8, 0#8, 0#8, 0#8, 0#8, 0#8, 0#8, 0#8, 0#8, 0#8, 0#8, 0#8, 0#8, 0#8, 0#8, 0#8, 0#8, 0#8, 0#8, 0#8, 0#8, 0#8] },
     _, _, _, rfl, ⟨by decide +kernel, by decide +kernel, by decide +kernel⟩, by decide +kernel⟩,
   ⟨waiting (.tunnel 0 3 77 (11 * Config.secUnits)) (asManager up), 0,
     { src := 3, dst := 0, mseq := 9, wait := 0, copy := false, first := true, last := true, crcOk := true, body := FabBody.tunnelRsp 0 77 [5#8, 0#8, 0#8, 0#8, 0#8, 0#8, 0#8, 0#8, 0#8, 0#8, 0#8, 0#8, 0#8, 0#8, 0#8, 0#8, 0#8, 0#8, 0#8, 0#8, 0#8, 0#8, 0#8, 0#8, 0#8, 0#8, 0#8, 0#8, 0#8, 0#8, 0#8, 0#8] },
     _, _, _, _, _, rfl, rfl, rfl, ⟨by decide +kernel, by decide +kernel, by decide +kernel⟩, by decide +kernel⟩,
   ⟨asWorker .member up, 0, by decide +kernel⟩,
   ⟨waiting (.tunnel 0 3 77 5) (asManager up), 77, _, rfl, by decide +kernel⟩,
   ⟨asWorker .member up, 0,
     { src := 0, dst := 5, mseq := 9, wait := 0, copy := false, first := true, last := true, crcOk := true, body := FabBody.tunnelData 0 77 [1#8, 2#8, 3#8] },
     _, _, _, rfl, ⟨by decide +kernel, by decide +kernel, by decide +kernel⟩, by decide +kernel⟩⟩

theorem witness_FabricCommands :
    (∃ (s : State) (c : Cmd) (rest : List Cmd) (o : Nat), configBad c = some o ∧ Ready Instr.fabricConfig c rest s) ∧
    (∃ (s : State) (c : Cmd) (rest : List Cmd), Ready Instr.fabricConfig c rest s ∧ configBad c = none ∧
      (Role.ofCode (c.u 0 1) ≠ (taken c rest s).fabric.role ∨ c.u 1 1 ≠ (taken c rest s).fabric.node) ∧
      anyBankBusy (taken c rest s) = true) ∧
    (∃ (s : State) (c : Cmd) (rest : List Cmd), Ready Instr.fabricConfig c rest s ∧ configBad c = none ∧
      (Role.ofCode (c.u 0 1) ≠ (taken c rest s).fabric.role ∨ c.u 1 1 ≠ (taken c rest s).fabric.node →
      anyBankBusy (taken c rest s) = false)) ∧
    (∃ (s : State) (c : Cmd) (rest : List Cmd), Ready Instr.fabricNodes c rest s ∧ ¬(taken c rest s).fabric.role = Role.manager) ∧
    (∃ (s : State) (c : Cmd) (rest : List Cmd), Ready Instr.fabricNodes c rest s ∧ (taken c rest s).fabric.role = Role.manager ∧
      63 < c.u 0 1) ∧
    (∃ (s : State) (c : Cmd) (rest : List Cmd), Ready Instr.fabricNodes c rest s ∧ (taken c rest s).fabric.role = Role.manager ∧
      c.u 0 1 ≤ 63 ∧ (¬(0 < c.u 1 1 ∧ c.u 1 1 ≤ 32 ∧ c.u 0 1 + c.u 1 1 ≤ 64))) ∧
    (∃ (s : State) (c : Cmd) (rest : List Cmd), Ready Instr.fabricNodes c rest s ∧ (taken c rest s).fabric.role = Role.manager ∧
      c.u 0 1 ≤ 63 ∧ (0 < c.u 1 1 ∧ c.u 1 1 ≤ 32 ∧ c.u 0 1 + c.u 1 1 ≤ 64)) ∧
    (∃ (s : State) (c : Cmd) (rest : List Cmd), Ready Instr.fabricTunnel c rest s ∧ (¬((taken c rest s).fabric.role = Role.manager ∧
      c.u 0 1 % 64 ≠ 0))) ∧
    (∃ (s : State) (c : Cmd) (rest : List Cmd), Ready Instr.fabricTunnel c rest s ∧ ((taken c rest s).fabric.role = Role.manager ∧
      c.u 0 1 % 64 ≠ 0) ∧ c.u 12 2 = 3076) ∧
    (∃ (s : State) (c : Cmd) (rest : List Cmd), Ready Instr.fabricTunnel c rest s ∧ ((taken c rest s).fabric.role = Role.manager ∧
      c.u 0 1 % 64 ≠ 0) ∧ c.u 12 2 ≠ 3076 ∧ 440 < c.u 16 2) ∧
    (∃ (s : State) (c : Cmd) (rest : List Cmd), Ready Instr.fabricTunnel c rest s ∧ ((taken c rest s).fabric.role = Role.manager ∧
      c.u 0 1 % 64 ≠ 0) ∧ c.u 12 2 ≠ 3076 ∧ c.u 16 2 ≤ 440 ∧ hasPath (taken c rest s) (c.u 0 1 % 64) = false) ∧
    (∃ (s : State) (c : Cmd) (rest : List Cmd) (p : PortId) (n : Fin 16), c.source = Source.slot p n ∧
      Ready Instr.fabricTunnel c rest s ∧ ((taken c rest s).fabric.role = Role.manager ∧ c.u 0 1 % 64 ≠ 0) ∧ c.u 12 2 ≠ 3076 ∧
      c.u 16 2 ≤ 440 ∧ hasPath (taken c rest s) (c.u 0 1 % 64) = true) :=
  ⟨⟨ask 0xC01 (configReq 3 5 1) up, _, [], _, rfl, ready_of_now [] rfl (by decide +kernel)⟩,
   ⟨ask 0xC01 (configReq 2 5 1) (under default up), _, [], ready_of_now [] rfl (by decide +kernel), by decide +kernel⟩,
   ⟨ask 0xC01 (configReq 2 5 1) up, _, [], ready_of_now [] rfl (by decide +kernel), by decide +kernel⟩,
   ⟨ask 0xC03 (num [(1, 0), (1, 4)]) up, _, [], ready_of_now [] rfl (by decide +kernel), by decide +kernel⟩,
   ⟨ask 0xC03 (num [(1, 64), (1, 4)]) (asManager up), _, [], ready_of_now [] rfl (by decide +kernel), by decide +kernel⟩,
   ⟨ask 0xC03 (num [(1, 40), (1, 32)]) (asManager up), _, [], ready_of_now [] rfl (by decide +kernel), by decide +kernel⟩,
   ⟨ask 0xC03 (num [(1, 32), (1, 32)]) (asManager up), _, [], ready_of_now [] rfl (by decide +kernel), by decide +kernel⟩,
   ⟨ask 0xC04 tunnelReq up, _, [], ready_of_now [] rfl (by decide +kernel), by decide +kernel⟩,
   ⟨ask 0xC04 ((tunnelReq.set 12 4).set 13 12) (asManager up), _, [], ready_of_now [] rfl (by decide +kernel), by decide +kernel⟩,
   ⟨ask 0xC04 (num [(1, 3), (1, 0), (2, 77), (4, 0), (4, 1), (2, 0x101), (2, 0), (2, 441), (462, 0)]) (asManager up), _, [],
     ready_of_now [] rfl (by decide +kernel), by decide +kernel⟩,
   ⟨ask 0xC04 tunnelReq (atNode (fun n => { n with state := .lost }) (asManager up)), _, [], ready_of_now [] rfl (by decide +kernel),
     by decide +kernel⟩,
   ⟨ask 0xC04 tunnelReq (asManager up), _, [], _, _, rfl, ready_of_now [] rfl (by decide +kernel), by decide +kernel⟩⟩

theorem witness_EpochBoundaries :
    (∃ (s : State) (k : Nat), boundaryDue s = some k ∧ engines s = true) ∧
    (∃ (s : State), (boundaryDue s = none ∨ engines s = false)) :=
  ⟨⟨atPlans (fun p => { p with epoch := some 9999 }) (under default (atStream (fun t => { t with last := some 5 }) (up.modBound 0 fun b
    => { b with next := [(10000, 77)] }))), 10000, by decide +kernel⟩,
   ⟨State.reset, by decide +kernel⟩⟩

theorem witness_FlipsComplete :
    (∃ (s : State) (i : Fin 16) (f : Fit), (s.bound i).fit = some f ∧ firmware s = true ∧
      now s < boundaryTime s (writeTarget s (s.bound i))) ∧
    (∃ (s : State) (i : Fin 16) (f : Fit), (s.bound i).fit = some f ∧ firmware s = true ∧
      boundaryTime s (writeTarget s (s.bound i)) ≤ now s) ∧
    (∃ (s : State) (i : Fin 16), ((s.bound i).fit = none ∨ firmware s = false)) ∧
    (∃ (s : State) (new : Fin 2) (old : Option (Fin 2)), s.plans.flipping = some (new, old) ∧ firmware s = true ∧ (∀ (i : Fin 16),
      (s.bound i).flipAt = none)) ∧
    (∃ (s : State), (s.plans.flipping = none ∨ firmware s = false ∨ ∃ i, (s.bound i).flipAt.isSome = true)) ∧
    (∃ (s : State) (b : Fin 2), firmware s = true ∧ (s.bank b).state = BankState.draining ∧ bankWork s b = false) ∧
    (∃ (s : State) (b : Fin 2), (firmware s = false ∨ (s.bank b).state ≠ BankState.draining ∨ bankWork s b = true)) :=
  ⟨⟨under default (up.modBound 0 fun b => { b with fit := some { i0 := 0, rate := 2 ^ 42, t0 := 0 } }), 0, _, rfl, by decide +kernel⟩,
   ⟨atPlans (fun p => { p with epoch := some 5 }) (under default (up.modBound 0 fun b =>
     { b with fit := some { i0 := 0, rate := 2 ^ 42, t0 := 0 } })), 0, _, rfl, by decide +kernel⟩,
   ⟨atPlans (fun p => { p with flip := some (10001, 1) }) (under default up), 0, by decide +kernel⟩,
   ⟨atPlans (fun p => { p with flipping := some (1, some 0) }) (under default up), _, _, rfl, by decide +kernel⟩,
   ⟨atPlans (fun p => { p with flip := some (10001, 1) }) (under default up), by decide +kernel⟩,
   ⟨(under default up).modBank 1 fun b => { b with state := .draining }, 1, by decide +kernel⟩,
   ⟨atPlans (fun p => { p with flip := some (10001, 1) }) (under default up), 0, by decide +kernel⟩⟩

theorem witness_PtpMessages :
    (∃ (s : State) (d : Fin 2), slaveUp s d = false) ∧
    (∃ (s : State) (d : Fin 2) (origin : Nat) (corr : Int) (rx : Nat), slaveUp s d = true ∧ d = 0 ∧
      mayStep (rxStamp s (portOf s d) rx - ((origin : Int) + corr) - (s.domain d).meanPathDelay) s = true ∧ s.time.valid = true ∧
      governing s = some 0) ∧
    (∃ (s : State) (d : Fin 2) (origin : Nat) (corr : Int) (rx : Nat), slaveUp s d = true ∧ d = 0 ∧
      mayStep (rxStamp s (portOf s d) rx - ((origin : Int) + corr) - (s.domain d).meanPathDelay) s = false ∧ s.time.valid = true ∧
      governing s = some 0) ∧
    (∃ (s : State) (d : Fin 2) (w : SyncWait), (s.domain d).syncWait = some w ∧ slaveUp s d = true ∧ s.time.valid = true ∧
      governing s ≠ some d) ∧
    (∃ (s : State) (d : Fin 2) (w : SyncWait), slaveUp s d = true ∧ (s.domain d).syncWait = some w ∧ mayGovern s d = true ∧ d = 0 ∧
      s.time.valid = false ∧ anyBankBusy s = false) ∧
    (∃ (s : State) (d : Fin 2) (w : SyncWait) (origin : Nat) (corr : Int), slaveUp s d = true ∧ (s.domain d).syncWait = some w ∧ d = 0 ∧
      mayStep (w.rx - ((origin : Int) + w.corr + corr) - (s.domain d).meanPathDelay) s = true ∧ s.time.valid = true ∧
      governing s = some 0) ∧
    (∃ (s : State) (d : Fin 2) (w : SyncWait) (origin : Nat) (corr : Int), slaveUp s d = true ∧ (s.domain d).syncWait = some w ∧ d = 0 ∧
      mayStep (w.rx - ((origin : Int) + w.corr + corr) - (s.domain d).meanPathDelay) s = false ∧ s.time.valid = true ∧
      governing s = some 0) ∧
    (∃ (s : State) (d : Fin 2) (seq : Nat), (slaveUp s d = false ∨ (s.domain d).syncWait = none ∨ ∃ w, (s.domain d).syncWait = some w ∧
      w.seq ≠ seq)) ∧
    (∃ (s : State) (d : Fin 2) (seq : Nat) (t3 : Int) (t1 : Int), (s.domain d).delayReq = some (seq, t3) ∧ (s.domain d).t1 = some t1 ∧
      slaveUp s d = true) ∧
    (∃ (s : State) (d : Fin 2) (seq : Nat), slaveUp s d = false ∨ (s.domain d).t1 = none ∨ ∀ (t3 : Int),
      (s.domain d).delayReq ≠ some (seq, t3)) ∧
    (∃ (s : State) (d : Fin 2), engines s = true ∧ domUp s d = true ∧ (s.domain d).portState = PortState.master) ∧
    (∃ (s : State) (d : Fin 2), (engines s = false ∨ domUp s d = false ∨ (s.domain d).portState ≠ PortState.master)) ∧
    (∃ (s : State) (d : Fin 2), engines s = true ∧ domUp s d = true ∧ ((s.domain d).portState = PortState.slave ∨ (s.domain d).portState
      = PortState.uncalibrated)) ∧
    (∃ (s : State) (d : Fin 2) (kind : PtpKind), sendsPtp s d kind = false) :=
  ⟨⟨asDomain .slave up, 1, by decide +kernel⟩,
   ⟨atTime (fun t => { t with source := .domainA }) (atDomain (fun x => { x with ok := true, gm := some gm6 }) (asDomain .slave up)), _,
     3, 0, 655360000000, rfl, rfl, rfl, by decide +kernel⟩,
   ⟨atTime (fun t => { t with source := .domainA }) (atDomain (fun x => { x with ok := true, gm := some gm6 }) (asDomain .slave up)), _,
     3, 0, 3, rfl, rfl, rfl, by decide +kernel⟩,
   ⟨atDomain (fun x => { x with syncWait := some { seq := 3, rx := 900, corr := 5 } }) (asDomain .slave up), 0, _, rfl, by decide +kernel⟩,
   ⟨atTime (fun t => { t with valid := false, order := 0 }) (atDomain (fun x =>
     { x with syncWait := some { seq := 3, rx := 655360000000, corr := 5 }, gm := some gm6 }) (asDomain .slave up)), _, _, rfl, rfl, rfl,
     rfl, by decide +kernel⟩,
   ⟨atTime (fun t => { t with source := .domainA }) (atDomain (fun x =>
     { x with syncWait := some { seq := 3, rx := 655360000000, corr := 5 }, ok := true, gm := some gm6 }) (asDomain .slave up)), _, _, 3,
     0, rfl, rfl, rfl, rfl, by decide +kernel⟩,
   ⟨atTime (fun t => { t with source := .domainA }) (atDomain (fun x =>
     { x with syncWait := some { seq := 3, rx := 655360000000, corr := 5 }, ok := true, gm := some gm6 }) (asDomain .slave up)), _, _,
     655359999000, 0, rfl, rfl, rfl, rfl, by decide +kernel⟩,
   ⟨asDomain .slave up, 0, 3, by decide +kernel⟩,
   ⟨atDomain (fun x => { x with delayReq := some (3, 1500), t1 := some 100, t2 := 900 }) (asDomain .slave up), 0, _, _, _, rfl, rfl,
     by decide +kernel⟩,
   ⟨up, 0, 3, .inl (by decide +kernel)⟩,
   ⟨asDomain .master up, 0, by decide +kernel⟩,
   ⟨asDomain .slave up, 0, by decide +kernel⟩,
   ⟨asDomain .slave up, 0, by decide +kernel⟩,
   ⟨asDomain .slave up, 0, PtpKind.sync, by decide +kernel⟩⟩

theorem witness_PtpDomains :
    (∃ (s : State) (d : Fin 2) (source : Nat) (g : GmData), ¬(engines s = true ∧ domUp s d = true ∧
      (s.domain d).portState ≠ PortState.initializing ∧ (s.domain d).portState ≠ PortState.disabled ∧
      source / 2 ^ 16 ≠ clockIdentity (portOf s d) ∧ g.steps < 255)) ∧
    (∃ (s : State) (d : Fin 2) (source : Nat) (g : GmData), engines s = true ∧ domUp s d = true ∧
      (s.domain d).portState ≠ PortState.initializing ∧ (s.domain d).portState ≠ PortState.disabled ∧
      source / 2 ^ 16 ≠ clockIdentity (portOf s d) ∧ g.steps < 255) ∧
    (∃ (s : State), (engines s = false ∨ locked s 6 = false)) ∧
    (∃ (s : State) (up : Bool), (up = true → engines s = true ∧ locked s 6 = true)) :=
  ⟨⟨State.reset, 0, 5, gm6, fun h => absurd h.1 (by decide +kernel)⟩,
   ⟨asDomain .listening up, 0, (clockIdentity (portOf (asDomain .listening up) 0) + 1) * 2 ^ 16, gm6, by decide +kernel,
     by decide +kernel, by decide +kernel, by decide +kernel, by omega, by decide +kernel⟩,
   ⟨State.reset, by decide +kernel⟩,
   ⟨asDomain .listening up, true, by decide +kernel⟩⟩

theorem witness_PpsAndSlews :
    (∃ (s : State), engines s = false) ∧
    (∃ (s : State), engines s = true ∧ s.time.ppsOk = true ∧ 100 * Config.usUnits < (ppsError s).natAbs) ∧
    (∃ (s : State), engines s = true ∧ (s.time.ppsOk = false ∨ (ppsError s).natAbs ≤ 100 * Config.usUnits)) ∧
    (∃ (s : State) (t0 : Nat), s.time.lastPps = some t0 ∧ s.time.ppsOk = true ∧ t0 + 2 * Config.secUnits < now s) ∧
    (∃ (s : State), (s.time.ppsOk = false ∨ s.time.lastPps = none ∨ ∃ t0, s.time.lastPps = some t0 ∧ now s ≤ t0 + 2 * Config.secUnits)) ∧
    (∃ (s : State), s.time.slew = some 0) ∧
    (∃ (s : State), s.time.slew ≠ some 0) ∧
    (∃ (s : State), firmware s = true ∧ engines s = true ∧ s.time.lastRecord + s.params.recordInterval * (Config.secUnits / 10) ≤ now s) ∧
    (∃ (s : State), (firmware s = false ∨ engines s = false ∨ now s < s.time.lastRecord + s.params.recordInterval * (Config.secUnits /
      10))) ∧
    (∃ (s : State), s.time.source = TimeSource.domainB ∧ (s.domain 0).ok = true ∧ (s.domain 1).ok = true ∧
      s.time.force = TimeSource.none ∧ s.time.order ≤ 1 ∧ s.time.revertive = true ∧
      (s.domain 0).okSince + s.time.revertHoldS * Config.secUnits ≤ now s) ∧
    (∃ (s : State), s.time.source = TimeSource.domainB ∧ (s.domain 0).ok = true ∧ (s.domain 1).ok = true ∧
      s.time.force = TimeSource.none ∧ s.time.order ≤ 1 ∧ s.time.revertive = true ∧
      now s < (s.domain 0).okSince + s.time.revertHoldS * Config.secUnits) ∧
    (∃ (s : State), (s.time.source ≠ TimeSource.domainB ∨ (s.domain 0).ok = false)) :=
  ⟨⟨State.reset, by decide +kernel⟩,
   ⟨atTime (fun t => { t with ppsOk := true, raw := t.raw + 200 * Config.usUnits * 2 ^ 24 }) up, by decide +kernel⟩,
   ⟨up, by decide +kernel⟩,
   ⟨atTime (fun t => { t with ppsOk := true, lastPps := some (7 * Config.secUnits) }) up, _, rfl, by decide +kernel⟩,
   ⟨atTime (fun t => { t with ppsOk := true, raw := t.raw + 200 * Config.usUnits * 2 ^ 24 }) up, by decide +kernel⟩,
   ⟨atTime (fun t => { t with slew := some 0 }) up, by decide +kernel⟩,
   ⟨atTime (fun t => { t with ppsOk := true, raw := t.raw + 200 * Config.usUnits * 2 ^ 24 }) up, by decide +kernel⟩,
   ⟨atTime (fun t => { t with ppsOk := true, raw := t.raw + 200 * Config.usUnits * 2 ^ 24 }) up, by decide +kernel⟩,
   ⟨State.reset, by decide +kernel⟩,
   ⟨atTime (fun t => { t with source := .domainB, revertHoldS := 5, domains := Vector.replicate 2 { (vget t.domains 0) with ok := true, okSince := 5 * Config.secUnits } })
     up, by decide +kernel⟩,
   ⟨atTime (fun t => { t with source := .domainB, order := 0, revertive := true, revertHoldS := 60 }) ((atDomain (fun x =>
     { x with ok := true, okSince := 10 * Config.secUnits }) up).modDomain 1 fun x => { x with ok := true }), by decide +kernel⟩,
   ⟨atTime (fun t => { t with ppsOk := true, raw := t.raw + 200 * Config.usUnits * 2 ^ 24 }) up, by decide +kernel⟩⟩

theorem witness_TransparentClock :
    (∃ (s : State) (p : Fin 2) (m : PtpFrame) (rx : Nat) (full : Bool), full = false ∧ engines s = true ∧ vget s.time.ethUp p = true ∧
      s.time.tcEnable = true ∧ vget s.time.ethUp (1 - p) = true ∧ txStamp s (1 - p) (now s) - rxStamp s p rx ≤ 5 * ↑Config.usUnits ∧
      1 < m.kind) ∧
    (∃ (s : State) (p : Fin 2) (m : PtpFrame) (rx : Nat) (full : Bool), full = false ∧ engines s = true ∧ vget s.time.ethUp p = true ∧
      s.time.tcEnable = true ∧ vget s.time.ethUp (1 - p) = true ∧ txStamp s (1 - p) (now s) - rxStamp s p rx ≤ 5 * ↑Config.usUnits ∧
      m.kind ≤ 1) ∧
    (∃ (s : State) (p : Fin 2) (rx : Nat) (full : Bool) (d : Fin 2) (kind : PtpKind), full = false ∧ engines s = true ∧
      vget s.time.ethUp p = true ∧ s.time.tcEnable = true ∧ vget s.time.ethUp (1 - p) = true ∧
      txStamp s (1 - p) (now s) - rxStamp s p rx ≤ 5 * ↑Config.usUnits ∧ kind ≠ PtpKind.announce ∧ portOf s d = 1 - p ∧
      sendsPtp s d kind = true ∧ txStamp s (1 - p) (now s) - rxStamp s p rx + ↑(ownWireTime (s.domain d)) ≤ 5 * ↑Config.usUnits) ∧
    (∃ (s : State) (p : Fin 2) (rx : Nat) (full : Bool), engines s = true ∧ vget s.time.ethUp p = true ∧ s.time.tcEnable = true ∧
      (vget s.time.ethUp (1 - p) = false ∨ full = true ∨ 5 * ↑Config.usUnits < txStamp s (1 - p) (now s) - rxStamp s p rx)) ∧
    (∃ (s : State) (p : Fin 2), (engines s = false ∨ vget s.time.ethUp p = false ∨ s.time.tcEnable = false)) ∧
    (∃ (s : State) (p : Fin 2), (engines s = false ∨ vget s.time.ethUp p = false)) :=
  ⟨⟨atTime (fun t => { t with tcEnable := true }) up, 0,
    { kind := 11, domain := 3, transport := 2, correction := 5, checksum := 4660, body := [] }, 655359999900000, _, rfl,
    by decide +kernel⟩,
   ⟨atTime (fun t => { t with tcEnable := true }) up, 0,
     { kind := 0, domain := 3, transport := 2, correction := 5, checksum := 4660, body := [] }, 655359999900000, _, rfl,
     by decide +kernel⟩,
   ⟨atTime (fun t => { t with tcEnable := true }) (asDomain .slave up), 1, 655359999900000, _, 0, PtpKind.delayReq, rfl, by decide +kernel⟩,
   ⟨up, 0, 655360000000, true, by decide +kernel⟩,
   ⟨atTime (fun t => { t with tcEnable := false }) up, 0, by decide +kernel⟩,
   ⟨State.reset, 0, by decide +kernel⟩⟩

theorem witness_TimeStarts :
    (∃ (s : State) (i : Fin 8), (vget s.time.starts i).armed = true ∧ (vget s.time.starts i).start + (vget s.time.starts i).fired * (vget
      s.time.starts i).period ≤ now s) ∧
    (∃ (s : State) (i : Fin 8), ((vget s.time.starts i).armed = false ∨ now s < (vget s.time.starts i).start + (vget s.time.starts
      i).fired * (vget s.time.starts i).period)) :=
  ⟨⟨atStart (fun _ => { armed := true, start := 5, period := 0, target := 1, mask := 0, fired := 0 }) up, 0, by decide +kernel⟩,
   ⟨atStart (fun _ => { armed := true, start := 5, period := 0, target := 1, mask := 0, fired := 0 }) up, 1, by decide +kernel⟩⟩

theorem witness_TimeCommands :
    (∃ (s : State) (c : Cmd) (rest : List Cmd) (o : Nat), ptpBad c (taken c rest s) = some o ∧ Ready Instr.ptpConfig c rest s) ∧
    (∃ (s : State) (c : Cmd) (rest : List Cmd) (d : Fin 2), Ready Instr.ptpConfig c rest s ∧ c.u 0 1 = d.val ∧
      ptpBad c (taken c rest s) = none ∧ governing (taken c rest s) = some d) ∧
    (∃ (s : State) (c : Cmd) (rest : List Cmd) (d : Fin 2), Ready Instr.ptpConfig c rest s ∧ c.u 0 1 = d.val ∧
      ptpBad c (taken c rest s) = none ∧ governing (taken c rest s) ≠ some d) ∧
    (∃ (s : State) (c : Cmd) (rest : List Cmd), Ready Instr.timeSource c rest s ∧ 3 < c.u 0 1) ∧
    (∃ (s : State) (c : Cmd) (rest : List Cmd), Ready Instr.timeSource c rest s ∧ c.u 0 1 ≤ 3 ∧ 3 < c.u 2 1) ∧
    (∃ (s : State) (c : Cmd) (rest : List Cmd), Ready Instr.timeSource c rest s ∧ c.u 0 1 ≤ 3 ∧ c.u 2 1 ≤ 3 ∧
      (c.u 4 4 = 0 ∨ 3600 < c.u 4 4)) ∧
    (∃ (s : State) (c : Cmd) (rest : List Cmd), Ready Instr.timeSource c rest s ∧ c.u 0 1 ≤ 3 ∧ c.u 2 1 ≤ 3 ∧ 1 ≤ c.u 4 4 ∧
      c.u 4 4 ≤ 3600 ∧ TimeSource.ofCode (c.u 2 1) ≠ TimeSource.none ∧ okOf (taken c rest s) (TimeSource.ofCode (c.u 2 1)) = false) ∧
    (∃ (s : State) (c : Cmd) (rest : List Cmd), Ready Instr.timeSource c rest s ∧ c.u 0 1 ≤ 3 ∧ c.u 2 1 ≤ 3 ∧ 1 ≤ c.u 4 4 ∧
      c.u 4 4 ≤ 3600 ∧ (TimeSource.ofCode (c.u 2 1) = TimeSource.none ∨ okOf (taken c rest s) (TimeSource.ofCode (c.u 2 1)) = true)) ∧
    (∃ (s : State) (c : Cmd) (rest : List Cmd), Ready Instr.timeSet c rest s ∧ anyBankBusy (taken c rest s) = true) ∧
    (∃ (s : State) (c : Cmd) (rest : List Cmd), Ready Instr.timeSet c rest s ∧ anyBankBusy (taken c rest s) = false ∧ c.badTime 4 = true) ∧
    (∃ (s : State) (c : Cmd) (rest : List Cmd), Ready Instr.timeSet c rest s ∧ anyBankBusy (taken c rest s) = false ∧
      c.badTime 4 = false ∧ bit 0 (c.u 0 1) = true ∧ (taken c rest s).time.ppsOk = true) ∧
    (∃ (s : State) (c : Cmd) (rest : List Cmd), Ready Instr.timeSet c rest s ∧ anyBankBusy (taken c rest s) = false ∧
      c.badTime 4 = false ∧ bit 0 (c.u 0 1) = true ∧ (taken c rest s).time.ppsOk = false) ∧
    (∃ (s : State) (c : Cmd) (rest : List Cmd), Ready Instr.timeSet c rest s ∧ anyBankBusy (taken c rest s) = false ∧
      c.badTime 4 = false ∧ bit 0 (c.u 0 1) = false) ∧
    (∃ (s : State) (c : Cmd) (rest : List Cmd) (o : Nat), startBad c = some o ∧ Ready Instr.timeStart c rest s) ∧
    (∃ (s : State) (c : Cmd) (rest : List Cmd) (i : Fin 8), Ready Instr.timeStart c rest s ∧ c.u 0 1 = i.val ∧ startBad c = none ∧
      bit 0 (c.u 1 1) = true) ∧
    (∃ (s : State) (c : Cmd) (rest : List Cmd) (i : Fin 8), Ready Instr.timeStart c rest s ∧ c.u 0 1 = i.val ∧ startBad c = none ∧
      bit 0 (c.u 1 1) = false ∧ (vget (taken c rest s).time.starts i).armed = true) ∧
    (∃ (s : State) (c : Cmd) (rest : List Cmd) (i : Fin 8), Ready Instr.timeStart c rest s ∧ c.u 0 1 = i.val ∧ startBad c = none ∧
      bit 0 (c.u 1 1) = false ∧ (vget (taken c rest s).time.starts i).armed = false) ∧
    (∃ (s : State) (c : Cmd) (rest : List Cmd), Ready Instr.tcConfig c rest s) :=
  ⟨⟨ask 0xA01 (ptpReq.set 1 240) up, _, [], _, rfl, ready_of_now [] rfl (by decide +kernel)⟩,
   ⟨ask 0xA01 ptpReq (atTime (fun t => { t with source := .domainA }) up), _, [], 0, ready_of_now [] rfl (by decide +kernel),
     by decide +kernel⟩,
   ⟨ask 0xA01 ptpReq up, _, [], 0, ready_of_now [] rfl (by decide +kernel), by decide +kernel⟩,
   ⟨ask 0xA02 (num [(1, 4), (1, 1), (1, 0), (1, 0), (4, 60)]) up, _, [], ready_of_now [] rfl (by decide +kernel), by decide +kernel⟩,
   ⟨ask 0xA02 (num [(1, 3), (1, 1), (1, 4), (1, 0), (4, 60)]) up, _, [], ready_of_now [] rfl (by decide +kernel), by decide +kernel⟩,
   ⟨ask 0xA02 (num [(1, 3), (1, 1), (1, 0), (1, 0), (4, 3601)]) up, _, [], ready_of_now [] rfl (by decide +kernel), by decide +kernel⟩,
   ⟨ask 0xA02 (num [(1, 3), (1, 1), (1, 1), (1, 0), (4, 60)]) up, _, [], ready_of_now [] rfl (by decide +kernel), by decide +kernel⟩,
   ⟨ask 0xA02 (num [(1, 3), (1, 1), (1, 0), (1, 0), (4, 60)]) up, _, [], ready_of_now [] rfl (by decide +kernel), by decide +kernel⟩,
   ⟨ask 0xA03 (num [(1, 0), (3, 0), (12, 20 * 2 ^ 48)]) (under default up), _, [], ready_of_now [] rfl (by decide +kernel),
     by decide +kernel⟩,
   ⟨ask 0xA03 (num [(1, 0), (3, 0), (12, 2 ^ 48 - 1)]) up, _, [], ready_of_now [] rfl (by decide +kernel), by decide +kernel⟩,
   ⟨ask 0xA03 (num [(1, 1), (3, 0), (12, 20 * 2 ^ 48)]) (atTime (fun t => { t with ppsOk := true }) up), _, [],
     ready_of_now [] rfl (by decide +kernel), by decide +kernel⟩,
   ⟨ask 0xA03 (num [(1, 1), (3, 0), (12, 20 * 2 ^ 48)]) up, _, [], ready_of_now [] rfl (by decide +kernel), by decide +kernel⟩,
   ⟨ask 0xA03 (num [(1, 0), (3, 0), (12, 20 * 2 ^ 48)]) up, _, [], ready_of_now [] rfl (by decide +kernel), by decide +kernel⟩,
   ⟨ask 0xA04 ((startReq 0).set 0 8) up, _, [], _, rfl, ready_of_now [] rfl (by decide +kernel)⟩,
   ⟨ask 0xA04 (startReq 1) up, _, [], 0, ready_of_now [] rfl (by decide +kernel), by decide +kernel⟩,
   ⟨ask 0xA04 (startReq 0) (atStart (fun x => { x with armed := true }) up), _, [], 0, ready_of_now [] rfl (by decide +kernel),
     by decide +kernel⟩,
   ⟨ask 0xA04 (startReq 0) up, _, [], 0, ready_of_now [] rfl (by decide +kernel), by decide +kernel⟩,
   ⟨ask 0xA05 (num [(1, 0)]) up, _, [], ready_of_now [] rfl (by decide +kernel)⟩⟩

theorem witness_EventInputs :
    (∃ (s : State) (i : Fin 16), (engines s = false ∨ (vget s.evt.inputs i).enabled = false)) ∧
    (∃ (s : State) (i : Fin 16), engines s = true ∧ (vget s.evt.inputs i).enabled = true ∧ locked s 2 = false) ∧
    (∃ (s : State) (i : Fin 16) (falling : Bool), engines s = true ∧ (vget s.evt.inputs i).enabled = true ∧ locked s 2 = true ∧
      selectedEdge (vget s.evt.inputs i).polarity falling = true ∧ (∀ (t : Nat), (vget s.evt.inputs i).last = some t →
      t + (vget s.evt.inputs i).holdoff ≤ s.time.tclk) ∧ (vget s.evt.inputs i).fifo.length < 256) ∧
    (∃ (s : State) (i : Fin 16) (falling : Bool), engines s = true ∧ (vget s.evt.inputs i).enabled = true ∧ locked s 2 = true ∧
      selectedEdge (vget s.evt.inputs i).polarity falling = true ∧ (∀ (t : Nat), (vget s.evt.inputs i).last = some t →
      t + (vget s.evt.inputs i).holdoff ≤ s.time.tclk) ∧ 256 ≤ (vget s.evt.inputs i).fifo.length) ∧
    (∃ (s : State) (i : Fin 16) (falling : Bool), engines s = true ∧ (vget s.evt.inputs i).enabled = true ∧ locked s 2 = true ∧
      (selectedEdge (vget s.evt.inputs i).polarity falling = false ∨ ∃ t, (vget s.evt.inputs i).last = some t ∧
      s.time.tclk < t + (vget s.evt.inputs i).holdoff)) ∧
    (∃ (s : State) (i : Fin 16), ((vget s.evt.inputs i).fifo = [] ∨ dclk s = false)) ∧
    (∃ (s : State) (i : Fin 16) (e : Edge) (rest : List Edge), (vget s.evt.inputs i).fifo = e :: rest ∧ dclk s = true) :=
  ⟨⟨onEvt [] up, 1, by decide +kernel⟩,
   ⟨{ onEvt [] up with dev := { up.dev with plls := vset up.dev.plls 2 { locked := false, since := 0 } } }, 0, by decide +kernel⟩,
   ⟨onEvt [] up, 0, false, by decide +kernel⟩,
   ⟨onEvt (List.replicate 256 edge9) up, 0, false, by decide +kernel⟩,
   ⟨onEvt [] up, 0, true, by decide +kernel⟩,
   ⟨onEvt [] up, 0, by decide +kernel⟩,
   ⟨atSeq (fun r => { r with run := .waiting }) (onSeq (progE (1 + 272 * 128)) (onEvt [edge9] up)), 0, _, _, rfl, by decide +kernel⟩⟩

theorem witness_IntervalPairs :
    (∃ (s : State) (i : Fin 16), (vget s.evt.inputs i).pair = none) ∧
    (∃ (s : State) (i : Fin 16) (p : Pair), (vget s.evt.inputs i).pair = some p ∧ p.starts = []) ∧
    (∃ (s : State) (i : Fin 16) (p : Pair) (a : Stamp), (vget s.evt.inputs i).pair = some p ∧ a ∈ p.starts ∧ (∀ (y : Stamp),
      y ∈ p.starts → y ≠ a → a.time < y.time) ∧ (now s < a.time + p.window * 2 * Config.nsUnits ∨ stampsDue s i (a.time + p.window * 2 *
      Config.nsUnits) = true ∨ stampsDue s p.stop (a.time + p.window * 2 * Config.nsUnits) = true)) ∧
    (∃ (s : State) (i : Fin 16) (p : Pair) (a : Stamp), (vget s.evt.inputs i).pair = some p ∧
      nearestStop a.time (p.window * 2 * Config.nsUnits) p.stops = none ∧ a ∈ p.starts ∧ (∀ (y : Stamp), y ∈ p.starts → y ≠ a →
      a.time < y.time) ∧ (¬(now s < a.time + p.window * 2 * Config.nsUnits ∨ stampsDue s i (a.time + p.window * 2 * Config.nsUnits) =
      true ∨ stampsDue s p.stop (a.time + p.window * 2 * Config.nsUnits) = true))) ∧
    (∃ (s : State) (i : Fin 16) (p : Pair) (a : Stamp) (b : Stamp) (y : Stamp), (vget s.evt.inputs i).pair = some p ∧
      nearestStop a.time (p.window * 2 * Config.nsUnits) p.stops = some b ∧ a ∈ p.starts ∧ (∀ (y : Stamp), y ∈ p.starts → y ≠ a →
      a.time < y.time) ∧ (¬(now s < a.time + p.window * 2 * Config.nsUnits ∨ stampsDue s i (a.time + p.window * 2 * Config.nsUnits) =
      true ∨ stampsDue s p.stop (a.time + p.window * 2 * Config.nsUnits) = true)) ∧ y ∈ p.stops) :=
  ⟨⟨up, 0, by decide +kernel⟩,
   ⟨paired [] [stampAt 9] up, 0, _, rfl, rfl⟩,
   ⟨paired [stampAt 20] [stampAt 20] up, 0, _, { time := 1310720000000000, falling := false, loop := false, seq := 4#32 }, rfl,
     by decide +kernel⟩,
   ⟨paired [stampAt 9] [] up, 0, _, { time := 589824000000000, falling := false, loop := false, seq := 4#32 }, rfl, rfl, by decide +kernel⟩,
   ⟨paired [stampAt 9] [stampAt 9] up, 0, _, { time := 589824000000000, falling := false, loop := false, seq := 4#32 }, _,
     { time := 589824000000000, falling := false, loop := false, seq := 4#32 }, rfl, rfl, by decide +kernel⟩⟩

theorem witness_DllsAndPhaseSteps :
    (∃ (s : State), s.evt.dllT = true) ∧
    (∃ (s : State), s.evt.dllT = false) ∧
    (∃ (s : State), engines s = true ∧ s.evt.dllF = false) ∧
    (∃ (s : State), engines s = true ∧ s.evt.dllF = true) ∧
    (∃ (s : State), engines s = false) ∧
    (∃ (s : State), firmware s = true) ∧
    (∃ (s : State), firmware s = false) ∧
    (∃ (s : State) (o : Fin 8), s.evt.dllF = true ∧ stepDue s (vget s.evt.outputs o) = true ∧ 0 < (vget s.evt.outputs o).stepsLeft) ∧
    (∃ (s : State) (o : Fin 8), s.evt.dllF = true ∧ stepDue s (vget s.evt.outputs o) = true ∧ (vget s.evt.outputs o).stepsLeft < 0) ∧
    (∃ (s : State) (o : Fin 8), ((vget s.evt.outputs o).stepsLeft = 0 ∨ s.evt.dllF = false ∨ stepDue s (vget s.evt.outputs o) = false)) ∧
    (∃ (s : State) (o : Fin 8), s.dev.powered = true ∧ s.dev.state ≠ DevState.boot ∧ s.dev.state ≠ DevState.suspended ∧
      s.evt.dllF = true ∧ 1 ≤ (vget s.evt.outputs o).div ∧ (vget s.evt.outputs o).since = 0 ∧ (vget s.evt.outputs o).cycle = none ∧
      (vget s.evt.outputs o).on = true) ∧
    (∃ (s : State) (o : Fin 8), s.dev.powered = true ∧ s.dev.state ≠ DevState.boot ∧ s.dev.state ≠ DevState.suspended ∧
      s.evt.dllF = true ∧ 1 ≤ (vget s.evt.outputs o).div ∧ (vget s.evt.outputs o).since = 0 ∧ (vget s.evt.outputs o).cycle = none ∧
      (vget s.evt.outputs o).on = false) :=
  ⟨⟨up, by decide +kernel⟩,
   ⟨State.reset, by decide +kernel⟩,
   ⟨{ up with evt := { up.evt with dllF := false } }, by decide +kernel⟩,
   ⟨up, by decide +kernel⟩,
   ⟨State.reset, by decide +kernel⟩,
   ⟨up, by decide +kernel⟩,
   ⟨State.reset, by decide +kernel⟩,
   ⟨atFco (fun f => { f with stepsLeft := 3, phase := 1023 }) up, 0, by decide +kernel⟩,
   ⟨atFco (fun f => { f with stepsLeft := -3 }) up, 0, by decide +kernel⟩,
   ⟨up, 0, by decide +kernel⟩,
   ⟨atFco (fun f => { f with div := 4, on := true, since := 0, cycle := none }) up, 0, by decide +kernel⟩,
   ⟨up, 0, by decide +kernel⟩⟩

theorem witness_EventCommands :
    (∃ (s : State) (c : Cmd) (rest : List Cmd) (o : Nat), evtBad c (taken c rest s) = some o ∧ Ready Instr.evtConfig c rest s) ∧
    (∃ (s : State) (c : Cmd) (rest : List Cmd) (i : Fin 16), Ready Instr.evtConfig c rest s ∧ c.u 0 1 = i.val ∧
      evtBad c (taken c rest s) = none ∧ ((vget (taken c rest s).evt.inputs i).enabled = true ∧
      (↑(vget (taken c rest s).evt.inputs i).polarity ≠ c.u 2 1 ∨ ↑(vget (taken c rest s).evt.inputs i).hyst ≠ c.u 3 1 ∨ (vget (taken c
      rest s).evt.inputs i).holdoff ≠ c.u 6 2) ∨ (Option.map (fun p => (p.stop,
      p.window)) (vget (taken c rest s).evt.inputs i).pair ≠ if c.u 5 1 = 1 then Option.map (fun j => (j,
      c.u 10 2)) (unit 16 (c.u 4 1)) else none) ∧ ((vget (taken c rest s).evt.inputs i).enabled = true ∨ (∃ p,
      (vget (taken c rest s).evt.inputs i).pair = some p ∧ (vget (taken c rest s).evt.inputs p.stop).enabled = true) ∨ ∃ p,
      (if c.u 5 1 = 1 then Option.map (fun j => (j, c.u 10 2)) (unit 16 (c.u 4 1)) else none) = some p ∧
      (vget (taken c rest s).evt.inputs p.fst).enabled = true))) ∧
    (∃ (s : State) (c : Cmd) (rest : List Cmd) (i : Fin 16), Ready Instr.evtConfig c rest s ∧ c.u 0 1 = i.val ∧
      evtBad c (taken c rest s) = none ∧ (¬((vget (taken c rest s).evt.inputs i).enabled = true ∧
      (↑(vget (taken c rest s).evt.inputs i).polarity ≠ c.u 2 1 ∨ ↑(vget (taken c rest s).evt.inputs i).hyst ≠ c.u 3 1 ∨ (vget (taken c
      rest s).evt.inputs i).holdoff ≠ c.u 6 2) ∨ (Option.map (fun p => (p.stop,
      p.window)) (vget (taken c rest s).evt.inputs i).pair ≠ if c.u 5 1 = 1 then Option.map (fun j => (j,
      c.u 10 2)) (unit 16 (c.u 4 1)) else none) ∧ ((vget (taken c rest s).evt.inputs i).enabled = true ∨ (∃ p,
      (vget (taken c rest s).evt.inputs i).pair = some p ∧ (vget (taken c rest s).evt.inputs p.stop).enabled = true) ∨ ∃ p,
      (if c.u 5 1 = 1 then Option.map (fun j => (j, c.u 10 2)) (unit 16 (c.u 4 1)) else none) = some p ∧
      (vget (taken c rest s).evt.inputs p.fst).enabled = true)))) ∧
    (∃ (s : State) (c : Cmd) (rest : List Cmd), Ready Instr.fcoConfig c rest s ∧ 8 ≤ c.u 0 1) ∧
    (∃ (s : State) (c : Cmd) (rest : List Cmd) (o : Fin 8), Ready Instr.fcoConfig c rest s ∧ c.u 0 1 = o.val ∧
      (c.u 2 2 = 0 ∨ 4096 < c.u 2 2)) ∧
    (∃ (s : State) (c : Cmd) (rest : List Cmd) (o : Fin 8), Ready Instr.fcoConfig c rest s ∧ c.u 0 1 = o.val ∧ 1 ≤ c.u 2 2 ∧
      c.u 2 2 ≤ 4096 ∧ (vget (taken c rest s).evt.outputs o).on = true ∧ (vget (taken c rest s).evt.outputs o).div ≠ c.u 2 2) ∧
    (∃ (s : State) (c : Cmd) (rest : List Cmd) (o : Fin 8), Ready Instr.fcoConfig c rest s ∧ c.u 0 1 = o.val ∧ 1 ≤ c.u 2 2 ∧
      c.u 2 2 ≤ 4096 ∧ (vget (taken c rest s).evt.outputs o).on = false ∧ (vget (taken c rest s).evt.outputs o).div ≠ c.u 2 2) ∧
    (∃ (s : State) (c : Cmd) (rest : List Cmd) (o : Fin 8), Ready Instr.fcoConfig c rest s ∧ c.u 0 1 = o.val ∧ 1 ≤ c.u 2 2 ∧
      c.u 2 2 ≤ 4096 ∧ (vget (taken c rest s).evt.outputs o).div = c.u 2 2) ∧
    (∃ (s : State) (c : Cmd) (rest : List Cmd), Ready Instr.fcoGate c rest s) ∧
    (∃ (s : State) (c : Cmd) (rest : List Cmd), Ready Instr.fcoStep c rest s ∧ bit 0 (c.u 0 1) = true ∧
      (taken c rest s).evt.pending = none ∧ (taken c rest s).plans.epoch = none) ∧
    (∃ (s : State) (c : Cmd) (rest : List Cmd), Ready Instr.fcoStep c rest s ∧ bit 0 (c.u 0 1) = true ∧
      (taken c rest s).evt.pending = none ∧ (taken c rest s).plans.epoch ≠ none) ∧
    (∃ (s : State) (c : Cmd) (rest : List Cmd), Ready Instr.fcoStep c rest s ∧ bit 0 (c.u 0 1) = true ∧
      (taken c rest s).evt.pending ≠ none ∧ (taken c rest s).evt.closed = true) ∧
    (∃ (s : State) (c : Cmd) (rest : List Cmd), Ready Instr.fcoStep c rest s ∧ bit 0 (c.u 0 1) = true ∧
      (taken c rest s).evt.pending ≠ none ∧ (taken c rest s).evt.closed = false) ∧
    (∃ (s : State) (c : Cmd) (rest : List Cmd), Ready Instr.fcoStep c rest s ∧ bit 0 (c.u 0 1) = false ∧
      (taken c rest s).plans.epoch = none) ∧
    (∃ (s : State) (c : Cmd) (rest : List Cmd) (e : Nat) (o : Nat), (taken c rest s).plans.epoch = some e ∧ stepBad c = some o ∧
      Ready Instr.fcoStep c rest s ∧ bit 0 (c.u 0 1) = false) ∧
    (∃ (s : State) (c : Cmd) (rest : List Cmd) (e : Nat), (taken c rest s).plans.epoch = some e ∧ Ready Instr.fcoStep c rest s ∧
      bit 0 (c.u 0 1) = false ∧ stepBad c = none ∧ c.u 8 8 ≤ e) ∧
    (∃ (s : State) (c : Cmd) (rest : List Cmd) (e : Nat), (taken c rest s).plans.epoch = some e ∧ Ready Instr.fcoStep c rest s ∧
      bit 0 (c.u 0 1) = false ∧ stepBad c = none ∧ e < c.u 8 8 ∧ (taken c rest s).evt.pending ≠ none) ∧
    (∃ (s : State) (c : Cmd) (rest : List Cmd) (e : Nat), (taken c rest s).plans.epoch = some e ∧ Ready Instr.fcoStep c rest s ∧
      bit 0 (c.u 0 1) = false ∧ stepBad c = none ∧ e < c.u 8 8 ∧ (taken c rest s).evt.pending = none) :=
  ⟨⟨ask 0xB01 (evtReq 0) up, _, [], _, rfl, ready_of_now [] rfl (by decide +kernel)⟩,
   ⟨ask 0xB01 (evtReq 9) (onEvt [] up), _, [], 0, ready_of_now [] rfl (by decide +kernel), by decide +kernel⟩,
   ⟨ask 0xB01 (evtReq 9) up, _, [], 0, ready_of_now [] rfl (by decide +kernel), by decide +kernel⟩,
   ⟨ask 0xB03 (num [(1, 8), (1, 0), (2, 4)]) up, _, [], ready_of_now [] rfl (by decide +kernel), by decide +kernel⟩,
   ⟨ask 0xB03 (num [(1, 0), (1, 0), (2, 4097)]) up, _, [], 0, ready_of_now [] rfl (by decide +kernel), by decide +kernel⟩,
   ⟨ask 0xB03 (num [(1, 0), (1, 0), (2, 4)]) (atFco (fun f => { f with on := true }) up), _, [], 0,
     ready_of_now [] rfl (by decide +kernel), by decide +kernel⟩,
   ⟨ask 0xB03 (num [(1, 0), (1, 0), (2, 4)]) up, _, [], 0, ready_of_now [] rfl (by decide +kernel), by decide +kernel⟩,
   ⟨ask 0xB03 (num [(1, 0), (1, 0), (2, 4)]) (atFco (fun f => { f with div := 4 }) up), _, [], 0,
     ready_of_now [] rfl (by decide +kernel), by decide +kernel⟩,
   ⟨ask 0xB04 (num [(1, 5), (1, 0)]) (atFco (fun f => { f with on := true }) up), _, [], ready_of_now [] rfl (by decide +kernel)⟩,
   ⟨ask 0xB05 (num [(1, 1), (79, 0)]) up, _, [], ready_of_now [] rfl (by decide +kernel), by decide +kernel⟩,
   ⟨ask 0xB05 (num [(1, 1), (79, 0)]) (under default up), _, [], ready_of_now [] rfl (by decide +kernel), by decide +kernel⟩,
   ⟨ask 0xB05 (num [(1, 1), (79, 0)]) ({ under default up with evt := { up.evt with pending := some sched9, closed := true } }), _, [],
     ready_of_now [] rfl (by decide +kernel), by decide +kernel⟩,
   ⟨ask 0xB05 (num [(1, 1), (79, 0)]) ({ under default up with evt := { up.evt with pending := some sched9, closed := false } }), _, [],
     ready_of_now [] rfl (by decide +kernel), by decide +kernel⟩,
   ⟨ask 0xB05 (stepReq 20000) up, _, [], ready_of_now [] rfl (by decide +kernel), by decide +kernel⟩,
   ⟨ask 0xB05 ((stepReq 20000).set 20 5) (under default up), _, [], _, _, rfl, rfl, ready_of_now [] rfl (by decide +kernel),
     by decide +kernel⟩,
   ⟨ask 0xB05 (stepReq 5) (under default up), _, [], _, rfl, ready_of_now [] rfl (by decide +kernel), by decide +kernel⟩,
   ⟨ask 0xB05 (stepReq 20000) ({ under default up with evt := { up.evt with pending := some sched9 } }), _, [], _, rfl,
     ready_of_now [] rfl (by decide +kernel), by decide +kernel⟩,
   ⟨ask 0xB05 (stepReq 20000) (under default up), _, [], _, rfl, ready_of_now [] rfl (by decide +kernel), by decide +kernel⟩⟩

theorem witness_Housekeeping :
    (∃ (s : State) (v : Fin 2) (src : VentSource), (engines s = false ∨ vget (ventOf s v).starts (match src with | VentSource.timeStart => 0 | VentSource.line => 1 | VentSource.command => 2) = 0)) ∧
    (∃ (s : State) (v : Fin 2) (src : VentSource), engines s = true ∧ 0 < vget (ventOf s v).starts (match src with | VentSource.timeStart => 0 | VentSource.line => 1 | VentSource.command => 2)) ∧
    (∃ (s : State) (v : Fin 2), (engines s = false ∨ mustWait s v = true ∨ (ventOf s v).urgent = none ∧ (ventOf s v).run = none)) ∧
    (∃ (s : State) (v : Fin 2) (r : HkRun) (e : HkEntry), (ventOf s v).run = some r ∧ r.entries[r.entry]? = some e ∧ e.joint = false ∧
      engines s = true ∧ mustWait s v = false ∧ (ventOf s v).urgent = none ∧ (v = 0 ∨ inJoint s = false)) ∧
    (∃ (s : State) (r : HkRun) (e : HkEntry), (ventOf s 0).run = some r ∧ r.entries[r.entry]? = some e ∧ engines s = true ∧
      inJoint s = true ∧ mustWait s 0 = false ∧ mustWait s 1 = false) ∧
    (∃ (s : State) (v : Fin 2), engines s = true ∧ mustWait s v = true) ∧
    (∃ (s : State) (v : Fin 2), (engines s = false ∨ mustWait s v = false)) :=
  ⟨⟨atVent (fun x => { x with starts := Vector.replicate 3 1 }) (onVent up), 1, VentSource.timeStart, by decide +kernel⟩,
   ⟨atVent (fun x => { x with starts := Vector.replicate 3 1 }) (onVent up), 0, VentSource.timeStart, by decide +kernel⟩,
   ⟨atVent (fun x => { x with starts := Vector.replicate 3 1 }) (onVent up), 0, by decide +kernel⟩,
   ⟨atVent (fun x => { x with starts := Vector.replicate 3 1 }) (inRun 0 0 up), 0, _, _, rfl, rfl, rfl, by decide +kernel⟩,
   ⟨atVent (fun x => { x with run := some (HkRun.begin 0 [{ input := 5, joint := true, avg := 1, shift := 0 }]) }) (onVent up), _, _,
     rfl, rfl, by decide +kernel⟩,
   ⟨atVent (fun x => { x with ovrInput := some 4 }) (inRun 1 300 up), 0, by decide +kernel⟩,
   ⟨atVent (fun x => { x with starts := Vector.replicate 3 1 }) (onVent up), 0, by decide +kernel⟩⟩

theorem witness_UrgentRequests :
    (∃ (s : State) (v : Fin 2) (e : HkEntry) (u : HkSum) (code : Int), (ventOf s v).urgent = some (e, u) ∧ engines s = true ∧
      mustWait s v = false ∧ u.done + 1 < 2 ^ e.avg) ∧
    (∃ (s : State) (v : Fin 2) (e : HkEntry) (u : HkSum) (code : Int), (ventOf s v).urgent = some (e, u) ∧ engines s = true ∧
      mustWait s v = false ∧ 2 ^ e.avg ≤ u.done + 1) ∧
    (∃ (s : State), (engines s = false ∨ firmware s = false)) ∧
    (∃ (s : State), engines s = true ∧ firmware s = true ∧ (ventOf s 0).urgent.isSome = true) ∧
    (∃ (s : State), engines s = true ∧ firmware s = true ∧ (ventOf s 0).urgent = none) :=
  ⟨⟨atVent (fun x => { x with urgent := some ({ input := 5, joint := false, avg := 1, shift := 0 }, HkSum.zero) }) up, 0, _, _, 0, rfl,
    by decide +kernel⟩,
   ⟨atVent (fun x => { x with urgent := some ({ input := 5, joint := false, avg := 0, shift := 0 }, HkSum.zero) }) up, 0, _, _, 0, rfl,
     by decide +kernel⟩,
   ⟨State.reset, by decide +kernel⟩,
   ⟨atVent (fun x => { x with urgent := some ({ input := 5, joint := false, avg := 0, shift := 0 }, HkSum.zero) }) up, by decide +kernel⟩,
   ⟨up, by decide +kernel⟩⟩

theorem witness_HousekeepingCommands :
    (∃ (s : State) (c : Cmd) (rest : List Cmd) (o : Nat), hkBad c = some o ∧ Ready Instr.hkConfig c rest s) ∧
    (∃ (s : State) (c : Cmd) (rest : List Cmd) (v : Fin 2), Ready Instr.hkConfig c rest s ∧ c.u 0 1 = v.val ∧ hkBad c = none ∧
      ((ventOf (taken c rest s) v).enabled = true ∧ (ventOf (taken c rest s) v).entries ≠ hkEntries c ∨ (ventOf (taken c rest s)
      0).enabled = true ∧ ((taken c rest s).vent.plausInput ≠ c.u 3 1 ∨ (taken c rest s).vent.plausTol ≠ c.u 4 2))) ∧
    (∃ (s : State) (c : Cmd) (rest : List Cmd) (v : Fin 2), Ready Instr.hkConfig c rest s ∧ c.u 0 1 = v.val ∧ hkBad c = none ∧
      (¬((ventOf (taken c rest s) v).enabled = true ∧ (ventOf (taken c rest s) v).entries ≠ hkEntries c ∨ (ventOf (taken c rest s)
      0).enabled = true ∧ ((taken c rest s).vent.plausInput ≠ c.u 3 1 ∨ (taken c rest s).vent.plausTol ≠ c.u 4 2)))) ∧
    (∃ (s : State) (c : Cmd) (rest : List Cmd), Ready Instr.hkStart c rest s ∧ 2 ≤ c.u 0 1) ∧
    (∃ (s : State) (c : Cmd) (rest : List Cmd) (v : Fin 2), Ready Instr.hkStart c rest s ∧ c.u 0 1 = v.val ∧
      (ventOf (taken c rest s) v).enabled = false) ∧
    (∃ (s : State) (c : Cmd) (rest : List Cmd) (v : Fin 2), Ready Instr.hkStart c rest s ∧ c.u 0 1 = v.val ∧
      (ventOf (taken c rest s) v).enabled = true ∧ vget (ventOf (taken c rest s) v).starts 2 < 7) ∧
    (∃ (s : State) (c : Cmd) (rest : List Cmd) (v : Fin 2), Ready Instr.hkStart c rest s ∧ c.u 0 1 = v.val ∧
      (ventOf (taken c rest s) v).enabled = true ∧ 7 ≤ vget (ventOf (taken c rest s) v).starts 2) ∧
    (∃ (s : State) (c : Cmd) (rest : List Cmd), Ready Instr.hkRead c rest s ∧ 2 ≤ c.u 0 1) ∧
    (∃ (s : State) (c : Cmd) (rest : List Cmd) (v : Fin 2), Ready Instr.hkRead c rest s ∧ c.u 0 1 = v.val ∧ 23 < c.u 1 1) ∧
    (∃ (s : State) (c : Cmd) (rest : List Cmd) (v : Fin 2), Ready Instr.hkRead c rest s ∧ c.u 0 1 = v.val ∧ c.u 1 1 ≤ 23 ∧ 8 < c.u 2 1) ∧
    (∃ (s : State) (c : Cmd) (rest : List Cmd) (v : Fin 2), Ready Instr.hkRead c rest s ∧ c.u 0 1 = v.val ∧ c.u 1 1 ≤ 23 ∧ c.u 2 1 ≤ 8 ∧
      8 < c.u 3 1) ∧
    (∃ (s : State) (c : Cmd) (rest : List Cmd) (v : Fin 2), Ready Instr.hkRead c rest s ∧ c.u 0 1 = v.val ∧ c.u 1 1 ≤ 23 ∧ c.u 2 1 ≤ 8 ∧
      c.u 3 1 ≤ 8 ∧ (ventOf (taken c rest s) v).urgent.isSome = true) ∧
    (∃ (s : State) (c : Cmd) (rest : List Cmd) (v : Fin 2), Ready Instr.hkRead c rest s ∧ c.u 0 1 = v.val ∧ c.u 1 1 ≤ 23 ∧ c.u 2 1 ≤ 8 ∧
      c.u 3 1 ≤ 8 ∧ (ventOf (taken c rest s) v).urgent = none) :=
  ⟨⟨ask 0xD01 (num [(1, 2), (1, 1), (1, 1), (1, 7), (2, 100), (2, 0), (1, 5), (1, 0), (1, 1), (1, 0)]) up, _, [], _, rfl,
    ready_of_now [] rfl (by decide +kernel)⟩,
   ⟨ask 0xD01 (num [(1, 0), (1, 1), (1, 1), (1, 7), (2, 100), (2, 0), (1, 5), (1, 0), (1, 1), (1, 0)]) (onVent up), _, [], 0,
     ready_of_now [] rfl (by decide +kernel), by decide +kernel⟩,
   ⟨ask 0xD01 (num [(1, 0), (1, 1), (1, 1), (1, 7), (2, 100), (2, 0), (1, 5), (1, 0), (1, 1), (1, 0)]) up, _, [], 0,
     ready_of_now [] rfl (by decide +kernel), by decide +kernel⟩,
   ⟨ask 0xD02 (num [(1, 2)]) up, _, [], ready_of_now [] rfl (by decide +kernel), by decide +kernel⟩,
   ⟨ask 0xD02 (num [(1, 0)]) up, _, [], 0, ready_of_now [] rfl (by decide +kernel), by decide +kernel⟩,
   ⟨ask 0xD02 (num [(1, 0)]) (onVent up), _, [], 0, ready_of_now [] rfl (by decide +kernel), by decide +kernel⟩,
   ⟨ask 0xD02 (num [(1, 0)]) (atVent (fun x => { x with starts := Vector.replicate 3 7 }) (onVent up)), _, [], 0,
     ready_of_now [] rfl (by decide +kernel), by decide +kernel⟩,
   ⟨ask 0xD03 (num [(1, 2), (1, 23), (1, 8), (1, 8)]) up, _, [], ready_of_now [] rfl (by decide +kernel), by decide +kernel⟩,
   ⟨ask 0xD03 (num [(1, 0), (1, 24), (1, 8), (1, 8)]) up, _, [], 0, ready_of_now [] rfl (by decide +kernel), by decide +kernel⟩,
   ⟨ask 0xD03 (num [(1, 0), (1, 23), (1, 9), (1, 8)]) up, _, [], 0, ready_of_now [] rfl (by decide +kernel), by decide +kernel⟩,
   ⟨ask 0xD03 (num [(1, 0), (1, 23), (1, 8), (1, 9)]) up, _, [], 0, ready_of_now [] rfl (by decide +kernel), by decide +kernel⟩,
   ⟨ask 0xD03 (num [(1, 0), (1, 23), (1, 8), (1, 8)]) (atVent (fun x =>
     { x with urgent := some ({ input := 5, joint := false, avg := 0, shift := 0 }, HkSum.zero) }) up), _, [], 0,
     ready_of_now [] rfl (by decide +kernel), by decide +kernel⟩,
   ⟨ask 0xD03 (num [(1, 0), (1, 23), (1, 8), (1, 8)]) (inRun 0 0 up), _, [], 0, ready_of_now [] rfl (by decide +kernel), by decide +kernel⟩⟩

theorem witness_ResetInputs :
    (∃ (s : State), (s.dev.powered = false ∨ s.dev.porstN = false)) ∧
    (∃ (s : State), s.dev.powered = true ∧ s.dev.porstN = true ∧ s.dev.tripHold = false) ∧
    (∃ (s : State), (s.dev.powered = false ∨ s.dev.porstN = false ∨ s.dev.tripHold = true)) ∧
    (∃ (s : State), s.dev.powered = true ∧ s.dev.porstN = false) ∧
    (∃ (s : State), (s.dev.powered = false ∨ s.dev.porstN = true)) ∧
    (∃ (s : State), s.dev.powered = true ∧ s.dev.porstN = true ∧ s.dev.state = DevState.suspended) ∧
    (∃ (s : State), (s.dev.powered = false ∨ s.dev.porstN = false ∨ s.dev.state ≠ DevState.suspended)) ∧
    (∃ (s : State), s.dev.powered = false) :=
  ⟨⟨atDev (fun d => { d with porstN := false }) up, by decide +kernel⟩,
   ⟨up, by decide +kernel⟩,
   ⟨atDev (fun d => { d with porstN := false }) up, by decide +kernel⟩,
   ⟨atDev (fun d => { d with porstN := false }) up, by decide +kernel⟩,
   ⟨up, by decide +kernel⟩,
   ⟨atDev (fun d => { d with state := .suspended, wrstN := false }) up, by decide +kernel⟩,
   ⟨up, by decide +kernel⟩,
   ⟨atDev (fun d => { d with powered := false, porstN := false }) up, by decide +kernel⟩⟩

theorem witness_BootSteps :
    (∃ (s : State) (n : Nat), (s.dev.powered = false ∨ s.dev.porstN = false ∨ s.dev.tripHold = true ∨ s.dev.bootStep ≠ n ∨ n = 0)) ∧
    (∃ (s : State), provisioning s = true) ∧
    (∃ (s : State), provisioning s = false) ∧
    (∃ (s : State) (n : Nat), s.dev.bootStep = n ∧ s.dev.powered = true ∧ s.dev.porstN = true ∧ s.dev.tripHold = false ∧
      (n = 1 ∨ n = 4 ∨ n = 11)) ∧
    (∃ (s : State), s.dev.powered = true ∧ s.dev.porstN = true ∧ s.dev.tripHold = false ∧ s.dev.bootStep = 2) ∧
    (∃ (s : State), s.dev.powered = true ∧ s.dev.porstN = true ∧ s.dev.tripHold = false ∧ s.dev.bootStep = 3) ∧
    (∃ (s : State) (bs : List Byte) (k : Nat), slotCause s.dev.fuses bs = some k ∧ s.dev.powered = true ∧ s.dev.porstN = true ∧
      s.dev.tripHold = false ∧ s.dev.bootStep = 5) ∧
    (∃ (s : State) (bs : List Byte) (k : Nat), slotCause s.dev.fuses bs = some k ∧ s.dev.powered = true ∧ s.dev.porstN = true ∧
      s.dev.tripHold = false ∧ s.dev.bootStep = 6) ∧
    (∃ (s : State), s.dev.powered = true ∧ s.dev.porstN = true ∧ s.dev.tripHold = false ∧ s.dev.bootStep = 7) ∧
    (∃ (s : State), s.dev.powered = true ∧ s.dev.porstN = true ∧ s.dev.tripHold = false ∧ s.dev.bootStep = 8) ∧
    (∃ (s : State), s.dev.powered = true ∧ s.dev.porstN = true ∧ s.dev.tripHold = false ∧ s.dev.bootStep = 9) ∧
    (∃ (s : State), s.dev.powered = true ∧ s.dev.porstN = true ∧ s.dev.tripHold = false ∧ s.dev.bootStep = 10) ∧
    (∃ (s : State), s.dev.powered = true ∧ s.dev.porstN = true ∧ s.dev.tripHold = false ∧ s.dev.bootStep = 12) ∧
    (∃ (s : State) (n : Nat), s.dev.bootStep = n ∧ s.dev.powered = true ∧ s.dev.porstN = true ∧ s.dev.tripHold = false ∧ n ≠ 0) :=
  ⟨⟨atStep 1, 0, by decide +kernel⟩,
   ⟨atDev (fun d => { d with provEn := true }) (atStep 0), by decide +kernel⟩,
   ⟨atStep 1, by decide +kernel⟩,
   ⟨atStep 1, _, rfl, by decide +kernel⟩,
   ⟨atStep 2, by decide +kernel⟩,
   ⟨atStep 3, by decide +kernel⟩,
   ⟨atStep 5, [], _, rfl, by decide +kernel⟩,
   ⟨atStep 6, [], _, rfl, by decide +kernel⟩,
   ⟨atStep 7, by decide +kernel⟩,
   ⟨atStep 8, by decide +kernel⟩,
   ⟨atStep 9, by decide +kernel⟩,
   ⟨atStep 10, by decide +kernel⟩,
   ⟨atStep 12, by decide +kernel⟩,
   ⟨atStep 1, _, rfl, by decide +kernel⟩⟩

theorem witness_WatchdogsAndPlls :
    (∃ (s : State), s.dev.state = DevState.ready ∧ firmware s = true) ∧
    (∃ (s : State), (s.dev.state ≠ DevState.ready ∨ firmware s = false)) ∧
    (∃ (s : State), (s.dev.state = DevState.watchdog ∧ s.dev.limited = false ∧ firmware s = false ∧ s.dev.bootStep = 0)) ∧
    (∃ (s : State), (¬(s.dev.state = DevState.watchdog ∧ s.dev.limited = false ∧ firmware s = false ∧ s.dev.bootStep = 0))) ∧
    (∃ (s : State) (p : Fin 7), locked s p = false) ∧
    (∃ (s : State) (p : Fin 7), locked s p = true) ∧
    (∃ (s : State) (p : Fin 7), (¬(locked s p = false ∧ s.dev.powered = true ∧ s.dev.porstN = true ∧ s.dev.state ≠ DevState.boot))) ∧
    (∃ (s : State) (p : Fin 7), (locked s p = false ∧ s.dev.powered = true ∧ s.dev.porstN = true ∧ s.dev.state ≠ DevState.boot)) ∧
    (∃ (s : State), (locked s 3 = false ∧ engines s = true ∧ (vget s.dev.plls 3).since + 16 * Config.msUnits < now s)) ∧
    (∃ (s : State), (¬(locked s 3 = false ∧ engines s = true ∧ (vget s.dev.plls 3).since + 16 * Config.msUnits < now s))) :=
  ⟨⟨up, by decide +kernel⟩,
   ⟨atDev (fun d => { d with state := .watchdog, fwRunning := false }) up, by decide +kernel⟩,
   ⟨atDev (fun d => { d with state := .watchdog, fwRunning := false }) up, by decide +kernel⟩,
   ⟨up, by decide +kernel⟩,
   ⟨unlocked 5 up, 5, by decide +kernel⟩,
   ⟨up, 0, by decide +kernel⟩,
   ⟨up, 0, by decide +kernel⟩,
   ⟨unlocked 5 up, 5, by decide +kernel⟩,
   ⟨unlocked 3 up, by decide +kernel⟩,
   ⟨up, by decide +kernel⟩⟩

theorem witness_StatusCommands :
    (∃ (s : State) (c : Cmd) (rest : List Cmd), Ready Instr.laneStatus c rest s ∧ (selected (c.u 0 8) = [] ∨ (∃ n,
      n ∈ selected (c.u 0 8) ∧ 46 ≤ n) ∨ 480 < 0 + 32 * (selected (c.u 0 8)).length)) ∧
    (∃ (s : State) (c : Cmd) (rest : List Cmd), Ready Instr.laneStatus c rest s ∧ selected (c.u 0 8) ≠ [] ∧ (∀ (n : Nat),
      n ∈ selected (c.u 0 8) → n < 46) ∧ 0 + 32 * (selected (c.u 0 8)).length ≤ 480 ∧ bit 0 (c.u 8 1) = false ∧ c.u 12 4 = 0) ∧
    (∃ (s : State) (c : Cmd) (rest : List Cmd), Ready Instr.laneStatus c rest s ∧ selected (c.u 0 8) ≠ [] ∧ (∀ (n : Nat),
      n ∈ selected (c.u 0 8) → n < 46) ∧ 0 + 32 * (selected (c.u 0 8)).length ≤ 480 ∧ bit 0 (c.u 8 1) = false ∧ c.u 12 4 ≠ 0) ∧
    (∃ (s : State) (c : Cmd) (rest : List Cmd), Ready Instr.laneStatus c rest s ∧ selected (c.u 0 8) ≠ [] ∧ (∀ (n : Nat),
      n ∈ selected (c.u 0 8) → n < 46) ∧ 0 + 32 * (selected (c.u 0 8)).length ≤ 480 ∧ bit 0 (c.u 8 1) = true) ∧
    (∃ (s : State) (c : Cmd) (rest : List Cmd), Ready Instr.viewStatus c rest s ∧ selected (c.u 0 8) ≠ [] ∧ (∀ (n : Nat),
      n ∈ selected (c.u 0 8) → n < 64) ∧ 0 + 32 * (selected (c.u 0 8)).length ≤ 480 ∧ bit 0 (c.u 8 1) = false ∧ c.u 12 4 ≠ 0) ∧
    (∃ (s : State) (c : Cmd) (rest : List Cmd), Ready Instr.zoomStatus c rest s ∧ selected (c.u 0 8) ≠ [] ∧ (∀ (n : Nat),
      n ∈ selected (c.u 0 8) → n < 32) ∧ 0 + 32 * (selected (c.u 0 8)).length ≤ 480 ∧ bit 0 (c.u 8 1) = false ∧ c.u 12 4 ≠ 0) ∧
    (∃ (s : State) (c : Cmd) (rest : List Cmd), Ready Instr.geyserStatus c rest s ∧ selected (c.u 0 8) ≠ [] ∧ (∀ (n : Nat),
      n ∈ selected (c.u 0 8) → n < 16) ∧ 0 + 32 * (selected (c.u 0 8)).length ≤ 480 ∧ bit 0 (c.u 8 1) = false ∧ c.u 12 4 ≠ 0) ∧
    (∃ (s : State) (c : Cmd) (rest : List Cmd), Ready Instr.basinStatus c rest s ∧ selected (c.u 0 8) ≠ [] ∧ (∀ (n : Nat),
      n ∈ selected (c.u 0 8) → n < 16) ∧ 0 + 32 * (selected (c.u 0 8)).length ≤ 480 ∧ bit 0 (c.u 8 1) = false ∧ c.u 12 4 ≠ 0) ∧
    (∃ (s : State) (c : Cmd) (rest : List Cmd), Ready Instr.calderaStatus c rest s ∧ selected (c.u 0 8) ≠ [] ∧ (∀ (n : Nat),
      n ∈ selected (c.u 0 8) → n < 2) ∧ 0 + 32 * (selected (c.u 0 8)).length ≤ 480 ∧ bit 0 (c.u 8 1) = false ∧ c.u 12 4 ≠ 0) ∧
    (∃ (s : State) (c : Cmd) (rest : List Cmd), Ready Instr.displayStatus c rest s ∧ selected (c.u 0 8) ≠ [] ∧ (∀ (n : Nat),
      n ∈ selected (c.u 0 8) → n < 2) ∧ 0 + 32 * (selected (c.u 0 8)).length ≤ 480 ∧ bit 0 (c.u 8 1) = false ∧ c.u 12 4 ≠ 0) ∧
    (∃ (s : State) (c : Cmd) (rest : List Cmd), Ready Instr.portStatus c rest s ∧ selected (c.u 0 8) ≠ [] ∧ (∀ (n : Nat),
      n ∈ selected (c.u 0 8) → n < 4) ∧ 0 + 32 * (selected (c.u 0 8)).length ≤ 480 ∧ bit 0 (c.u 8 1) = false ∧ c.u 12 4 ≠ 0) ∧
    (∃ (s : State) (c : Cmd) (rest : List Cmd), Ready Instr.dmaStatus c rest s ∧ selected (c.u 0 8) ≠ [] ∧ (∀ (n : Nat),
      n ∈ selected (c.u 0 8) → n < 32) ∧ 0 + 64 * (selected (c.u 0 8)).length ≤ 480 ∧ bit 0 (c.u 8 1) = false ∧ c.u 12 4 ≠ 0) ∧
    (∃ (s : State) (c : Cmd) (rest : List Cmd), Ready Instr.evtStatus c rest s ∧ selected (c.u 0 8) ≠ [] ∧ (∀ (n : Nat),
      n ∈ selected (c.u 0 8) → n < 16) ∧ 0 + 32 * (selected (c.u 0 8)).length ≤ 480 ∧ bit 0 (c.u 8 1) = false ∧ c.u 12 4 ≠ 0) ∧
    (∃ (s : State) (c : Cmd) (rest : List Cmd), Ready Instr.fcoStatus c rest s ∧ selected (c.u 0 8) ≠ [] ∧ (∀ (n : Nat),
      n ∈ selected (c.u 0 8) → n < 8) ∧ 0 + 32 * (selected (c.u 0 8)).length ≤ 480 ∧ bit 0 (c.u 8 1) = false ∧ c.u 12 4 ≠ 0) ∧
    (∃ (s : State) (c : Cmd) (rest : List Cmd), Ready Instr.fabricStatus c rest s ∧ selected (c.u 0 8) ≠ [] ∧ (∀ (n : Nat),
      n ∈ selected (c.u 0 8) → n < 12) ∧ (fabricHead (taken c rest s)).length + 32 * (selected (c.u 0 8)).length ≤ 480 ∧
      bit 0 (c.u 8 1) = false ∧ c.u 12 4 ≠ 0) ∧
    (∃ (s : State) (c : Cmd) (rest : List Cmd), Ready Instr.hkStatus c rest s ∧ selected (c.u 0 8) ≠ [] ∧ (∀ (n : Nat),
      n ∈ selected (c.u 0 8) → n < 2) ∧ 0 + 32 * (selected (c.u 0 8)).length ≤ 480 ∧ bit 0 (c.u 8 1) = false ∧ c.u 12 4 ≠ 0) :=
  ⟨⟨ask 0x303 (statusReq 0 0 0) up, _, [], ready_of_now [] rfl (by decide +kernel), by decide +kernel⟩,
   ⟨ask 0x303 (statusReq 3 0 0) up, _, [], ready_of_now [] rfl (by decide +kernel), by decide +kernel⟩,
   ⟨ask 0x303 (statusReq 3 0 9) up, _, [], ready_of_now [] rfl (by decide +kernel), by decide +kernel⟩,
   ⟨ask 0x303 (statusReq 3 1 9) up, _, [], ready_of_now [] rfl (by decide +kernel), by decide +kernel⟩,
   ⟨ask 0x401 (statusReq 3 0 9) up, _, [], ready_of_now [] rfl (by decide +kernel), by decide +kernel⟩,
   ⟨ask 0x505 (statusReq 3 0 9) up, _, [], ready_of_now [] rfl (by decide +kernel), by decide +kernel⟩,
   ⟨ask 0x604 (statusReq 3 0 9) up, _, [], ready_of_now [] rfl (by decide +kernel), by decide +kernel⟩,
   ⟨ask 0x704 (statusReq 3 0 9) up, _, [], ready_of_now [] rfl (by decide +kernel), by decide +kernel⟩,
   ⟨ask 0x806 (statusReq 3 0 9) up, _, [], ready_of_now [] rfl (by decide +kernel), by decide +kernel⟩,
   ⟨ask 0x807 (statusReq 3 0 9) up, _, [], ready_of_now [] rfl (by decide +kernel), by decide +kernel⟩,
   ⟨ask 0xE02 (statusReq 3 0 9) up, _, [], ready_of_now [] rfl (by decide +kernel), by decide +kernel⟩,
   ⟨ask 0xF06 (statusReq 3 0 9) up, _, [], ready_of_now [] rfl (by decide +kernel), by decide +kernel⟩,
   ⟨ask 0xB02 (statusReq 3 0 9) up, _, [], ready_of_now [] rfl (by decide +kernel), by decide +kernel⟩,
   ⟨ask 0xB06 (statusReq 3 0 9) up, _, [], ready_of_now [] rfl (by decide +kernel), by decide +kernel⟩,
   ⟨ask 0xC02 (statusReq 3 0 9) up, _, [], ready_of_now [] rfl (by decide +kernel), by decide +kernel⟩,
   ⟨ask 0xD04 (statusReq 3 0 9) up, _, [], ready_of_now [] rfl (by decide +kernel), by decide +kernel⟩⟩

theorem witness_SingleStatusCommands :
    (∃ (s : State) (c : Cmd) (rest : List Cmd), Ready Instr.timeStatus c rest s ∧ bit 0 (c.u 0 1) = false ∧ c.u 4 4 = 0) ∧
    (∃ (s : State) (c : Cmd) (rest : List Cmd), Ready Instr.timeStatus c rest s ∧ bit 0 (c.u 0 1) = false ∧ c.u 4 4 ≠ 0) ∧
    (∃ (s : State) (c : Cmd) (rest : List Cmd), Ready Instr.timeStatus c rest s ∧ bit 0 (c.u 0 1) = true) ∧
    (∃ (s : State) (c : Cmd) (rest : List Cmd), Ready Instr.nearmemStatus c rest s ∧ bit 0 (c.u 0 1) = false ∧ c.u 4 4 = 0) ∧
    (∃ (s : State) (c : Cmd) (rest : List Cmd), Ready Instr.nearmemStatus c rest s ∧ bit 0 (c.u 0 1) = false ∧ c.u 4 4 ≠ 0) ∧
    (∃ (s : State) (c : Cmd) (rest : List Cmd), Ready Instr.nearmemStatus c rest s ∧ bit 0 (c.u 0 1) = true) :=
  ⟨⟨ask 0xA06 (num [(1, 0), (3, 0), (4, 0)]) up, _, [], ready_of_now [] rfl (by decide +kernel), by decide +kernel⟩,
   ⟨ask 0xA06 (num [(1, 0), (3, 0), (4, 5)]) up, _, [], ready_of_now [] rfl (by decide +kernel), by decide +kernel⟩,
   ⟨ask 0xA06 (num [(1, 1), (3, 0), (4, 5)]) up, _, [], ready_of_now [] rfl (by decide +kernel), by decide +kernel⟩,
   ⟨ask 0xE04 (num [(1, 0), (3, 0), (4, 0)]) up, _, [], ready_of_now [] rfl (by decide +kernel), by decide +kernel⟩,
   ⟨ask 0xE04 (num [(1, 0), (3, 0), (4, 5)]) up, _, [], ready_of_now [] rfl (by decide +kernel), by decide +kernel⟩,
   ⟨ask 0xE04 (num [(1, 1), (3, 0), (4, 5)]) up, _, [], ready_of_now [] rfl (by decide +kernel), by decide +kernel⟩⟩

theorem witness_StatusClearsFrame :
    ∃ (r : StatusRow), r ∈ statusRows :=
  ⟨_, List.mem_of_getElem? (i := 0) rfl⟩

theorem witness_IdleStep :
    (∃ (s : State), s.pending = [] ∧ (s.dev.powered = false ∨ s.dev.porstN = false ∨ s.dev.tripHold = true)) ∧
    (∃ (s : State), s.pending = [] ∧ timebaseRuns s = true ∧ locked s 2 = true ∧ s.time.slew = none ∧ s.time.freqAdj = 0) :=
  ⟨⟨atDev (fun d => { d with powered := false }) up, by decide +kernel⟩,
   ⟨up, by decide +kernel⟩⟩

end Sys2Proof.Tests
end

/-! # CONSUMED of a host record ring (18 R353) -/

section
namespace Sys2Proof.Machine

variable (p q : PortId) (r : Fin 16) (v : U32) (s : State)

/-! What a bank's unit reads by its own number, and what the rings read after an update of one of them. -/

@[simp] theorem unit_val {n : Nat} (i : Fin n) : unit n i.val = some i := by
  simp [unit]

@[simp] theorem vget_rings_modRecRing_same (f : Ring → Ring) :
    vget (s.modRecRing r f).records.rings r = f (vget s.records.rings r) :=
  vget_vmod_same ..

theorem vget_rings_modRecRing_ne {j : Fin 16} (h : j ≠ r) (f : Ring → Ring) :
    vget (s.modRecRing r f).records.rings j = vget s.records.rings j :=
  vget_vmod_ne _ _ _ _ h.symm

/-! The write of the register, one equation per case of the rule. -/

/-- A port whose link is down reaches no register, so its write is the register's only where the port is reachable. -/
theorem exec_consumedWrite_of_reachable (h : reachable p s = true) :
    exec (.consumedWrite p r v) s = .next (consumedWrite4 p r v s) := by
  change execConsumedWrite p r v s = _
  simp [execConsumedWrite, h]

variable {p r s}

theorem consumedWrite4_of_own (hup : (vget s.records.rings r).isUp = true)
    (hport : (vget s.records.rings r).port = p) :
    consumedWrite4 p r v s = s.modRecRing r fun g => { g with consumed := v } := by
  simp [consumedWrite4, hup, hport]

theorem consumedWrite4_of_foreign (hup : (vget s.records.rings r).isUp = true)
    (hport : (vget s.records.rings r).port ≠ p) :
    consumedWrite4 p r v s = raiseHost p .consumedForeign s := by
  simp [consumedWrite4, hup, hport]

theorem consumedWrite4_of_not_isUp (hup : (vget s.records.rings r).isUp = false) :
    consumedWrite4 p r v s = s := by
  simp [consumedWrite4, hup]

/-! The read of the register: in the map of R351 its offset falls to the range of the CONSUMED words and to no other. -/

variable (r s)

theorem barWord_consumed :
    barWord q (0x300 + 4 * r.val) s =
      if (vget s.records.rings r).isUp then (vget s.records.rings r).consumed.toNat else 0 := by
  have hr : r.val < 16 := r.isLt
  generalize hoff : 0x300 + 4 * r.val = off
  have hsingle : ∀ k < 0x100, off ≠ k := by omega
  have hsem : ¬(0x100 ≤ off ∧ off < 0x200) := by omega
  have hmask : ¬(0x200 ≤ off ∧ off < 0x220) := by omega
  have hcons : 0x300 ≤ off ∧ off < 0x340 := by omega
  have hidx : (off - 0x300) / 4 = r.val := by omega
  simp [barWord, hsingle, hsem, hmask, hcons, hidx]

end Sys2Proof.Machine
end

section
open Sys2Proof Sys2Proof.Machine

/-- Settles O6, by the three cases of the write and the one equation of the read. -/
theorem consumedRegister : Obligations.ConsumedRegister := by
  intro p r v s hreach
  rw [exec_consumedWrite_of_reachable p r v s hreach]
  refine ⟨fun hup hport => ?own, fun hup hport => ?foreign, fun hup q => ?read, fun hup => ?notUp⟩
  case own =>
    rw [consumedWrite4_of_own v hup hport]
    refine ⟨_, rfl, fun q => ?_, vget_rings_modRecRing_same .., fun j hj => vget_rings_modRecRing_ne _ _ hj _⟩
    rw [barWord_consumed, vget_rings_modRecRing_same, if_pos hup]
  case foreign => rw [consumedWrite4_of_foreign v hup hport]
  case read => rw [barWord_consumed, if_pos hup]
  case notUp =>
    refine ⟨by rw [consumedWrite4_of_not_isUp v hup], fun q => ?_⟩
    simp [barWord_consumed, hup]

end

/-! # FAULT_N (21 R421) and the commands of BOOT (21 R414) -/

section
namespace Sys2Proof.Machine

/-! Bits of a word, and the bit of DEV_STATE that shows FAULT_N. -/

theorem atBit_eq (i : Nat) (b : Bool) : atBit i b = 2 ^ i * b.toNat := by
  cases b
  case false => rfl
  case true => exact (Nat.mul_one _).symm

theorem bit_add_atBit {i lo : Nat} (hlo : lo < 2 ^ i) (b : Bool) (hi : Nat) :
    bit i (lo + atBit i b + 2 ^ (i + 1) * hi) = b := by
  have hsplit : lo + atBit i b + 2 ^ (i + 1) * hi = lo + 2 ^ i * (b.toNat + 2 * hi) := by
    rw [atBit_eq, Nat.pow_succ, Nat.mul_assoc, Nat.mul_add, Nat.add_assoc]
  have hdiv : (lo + 2 ^ i * (b.toNat + 2 * hi)) / 2 ^ i = b.toNat + 2 * hi := by
    rw [Nat.add_mul_div_left _ _ (Nat.two_pow_pos i), Nat.div_eq_of_lt hlo, Nat.zero_add]
  rw [bit, hsplit, hdiv, Nat.add_mul_mod_self_left]
  cases b <;> rfl

theorem DevState.code_lt (d : DevState) : d.code < 8 := by
  cases d <;> decide

/-- The places of DEV_STATE (18 R354): the state and ALIVE below FAULT_N's bit, the port's bits above it. -/
theorem devStateWord_eq (p : PortId) (s : State) :
    devStateWord p s = s.dev.state.code + atBit 3 (healthy s) + atBit 4 (faultLow s) +
      2 ^ 5 * (atBit 0 (p = 1) + atBit 1 s.host.tieToken + atBit 2 (s.port (peer p)).linkUp) := by
  simp only [devStateWord, devStateBase, atBit_eq]
  omega

theorem bit_4_devStateWord (p : PortId) (s : State) : bit 4 (devStateWord p s) = faultLow s := by
  have hlow : s.dev.state.code + atBit 3 (healthy s) < 2 ^ 4 := by
    have hcode := s.dev.state.code_lt
    have hbit : atBit 3 (healthy s) ≤ 8 := by cases healthy s <;> decide
    omega
  rw [devStateWord_eq]
  exact bit_add_atBit hlow ..

theorem faultLow_eq_false_iff (s : State) :
    faultLow s = false ↔ s.dev.state = .ready ∨ s.dev.powered = false := by
  cases hp : s.dev.powered <;> simp [faultLow, hp]

/-! A mailbox row is its specification, served. -/

/-- Instruction `i` has core 0 serve a command of this specification. -/
def Serves (i : Instr) (spec : CmdSpec) : Prop :=
  ∃ body, ∀ s, exec i s = .next (serve spec body s)

theorem serves_of_mem_mailboxRows (edid : List Byte) : ∀ e ∈ mailboxRows edid, Serves e.1 e.2 := by
  simp only [mailboxRows, List.forall_mem_cons, List.not_mem_nil, false_implies, implies_true, and_true]
  and_intros
  all_goals exact ⟨_, fun _ => rfl⟩

@[simp] theorem taken_dev (c : Cmd) (rest : List Cmd) (s : State) : (taken c rest s).dev = s.dev := by
  simp [taken]

/-- A row whose command fails a check answers what the check names (18 R357, 19 R374). -/
theorem Serves.exec_refused {i : Instr} {spec : CmdSpec} (hi : Serves i spec) {c : Cmd} {rest : List Cmd} {s : State}
    (turn : Turn spec c rest s) {d : Option (Fin 16)} {st : Status} {x : Nat}
    (hp : precheck spec c (taken c rest s) = some (d, st, x)) :
    exec i s = .next (answer c d st x [] (taken c rest s)) := by
  obtain ⟨body, hbody⟩ := hi
  rw [hbody, serve_refused _ turn.head turn.runs turn.code hp]
  rfl

/-! The check of the state (18 R357, 21 R414). -/

/-- The commands that the firmware decides in BOOT, the last three without a clear (21 R414). -/
def DecidedInBoot (i : Instr) (c : Cmd) : Prop :=
  i = .devInfo ∨ i = .paramGet ∨ i = .semAcquire ∨ i = .semRelease ∨ i = .planQuery ∨
    ((i = .timeStatus ∨ i = .nearmemStatus) ∧ bit 0 (c.u 0 1) = false) ∨ (i = .diagCounters ∧ bit 0 (c.u 1 1) = false)

theorem boot_eq_true_iff (edid : List Byte) (c : Cmd) :
    ∀ e ∈ mailboxRows edid, e.2.boot c = true ↔ DecidedInBoot e.1 c := by
  simp only [mailboxRows, List.forall_mem_cons, List.not_mem_nil, false_implies, implies_true, and_true]
  and_intros
  all_goals
    simp [DecidedInBoot, fixedSpec, statusSpec, singleSpec, channelSpec, paramGetSpec, paramSetSpec, hkSpec, tunnelSpec,
      dmaLoadSpec, diagSpec]

variable {spec : CmdSpec} {c : Cmd} {s : State}

theorem bootRefuses_of_boot (hs : s.dev.state = .boot) : bootRefuses spec c s = !spec.boot c := by
  simp [bootRefuses, hs]

/-- NOT_READY is the check of the state's answer and no other check's. -/
theorem precheck_ne_notReady (h : bootRefuses spec c s = false) (d : Option (Fin 16)) (x : Nat) :
    precheck spec c s ≠ some (d, .notReady, x) := by
  simp only [precheck, h, Bool.false_eq_true, if_false]
  repeat' split
  all_goals simp

theorem precheck_eq_notReady (hlen : c.length.toNat ≤ 480) (hflags : c.flags.toNat ≤ 1) (hhost : foreignHost c = false)
    (h : bootRefuses spec c s = true) : precheck spec c s = some (none, .notReady, 0) := by
  simp [precheck, h, hlen, hflags, hhost]

/-! A doorbell on a free slot while the firmware does not run (18 R356, 21 R414). -/

variable {p : PortId} {i : Fin 16} {v : U32}

/-- The slot is POSTED, and its command is the last of the serial order. -/
theorem post_of_free (hv : v.toNat = i.val) (hfree : (slotOf p i s).state = .free) :
    post p v s =
      { s.modPort p fun h => { h with slots := vmod h.slots i fun sl => { sl with state := .posted } } with
        host := { s.host with order := s.host.order + 1, serial := s.host.serial ++ [slotCommand p i s] } } := by
  have hstate : (vget (s.port p).slots i).state = .free := hfree
  simp [post, hv, hstate, slotCommand, slotOf]

theorem state_slotOf_post_of_free (hv : v.toNat = i.val) (hfree : (slotOf p i s).state = .free) :
    (slotOf p i (post p v s)).state = .posted := by
  rw [post_of_free hv hfree]
  change (vget ((s.modPort p _).port p).slots i).state = .posted
  simp

theorem drain_of_not_firmware (h : firmware s = false) : drain s = s := by
  simp [drain, h]

theorem exec_doorbell_of_free_of_not_firmware (again : Bool) (hv : v.toNat = i.val) (hfree : (slotOf p i s).state = .free)
    (hreach : reachable p s = true) (hfw : firmware s = false) :
    exec (.doorbell p v none again) s = .next (post p v s) := by
  have hpost : firmware (post p v s) = false := by
    rw [post_of_free hv hfree]
    exact hfw
  change execDoorbell p v none again s = _
  simp [execDoorbell, hreach, drain_of_not_firmware hpost]

end Sys2Proof.Machine
end

section
open Sys2Proof Sys2Proof.Machine

/-- Settles O52, by the places of DEV_STATE's fields. -/
theorem faultPin : Obligations.FaultPin :=
  fun s => ⟨faultLow_eq_false_iff s, fun p => bit_4_devStateWord p s⟩

/-- Settles O10: a row serves its specification, whose `boot` marks the commands of R414, and the check of the state reads
nothing else in BOOT. -/
theorem bootCommands : Obligations.BootCommands := by
  refine ⟨fun edid e he c rest s turn hboot hlen hflags hhost => ?_, fun p i v again s hreach hfw hv hfree => ?_⟩
  · have hrefuses : bootRefuses e.2 c (taken c rest s) = !e.2.boot c := bootRefuses_of_boot (by simp [hboot])
    have hiff : e.2.boot c = true ↔ DecidedInBoot e.1 c := boot_eq_true_iff edid c e he
    refine ⟨fun hdecided => ?decided, fun hother => ?refused⟩
    case decided =>
      exact precheck_ne_notReady (by rw [hrefuses, hiff.mpr hdecided, Bool.not_true])
    case refused =>
      have hnot : e.2.boot c = false := Bool.eq_false_iff.mpr (mt hiff.mp hother)
      exact (serves_of_mem_mailboxRows edid e he).exec_refused turn
        (precheck_eq_notReady hlen hflags hhost (by rw [hrefuses, hnot, Bool.not_false]))
  · exact ⟨_, exec_doorbell_of_free_of_not_firmware again hv hfree hreach hfw, state_slotOf_post_of_free hv hfree⟩

end
